-- ==== Sys2Proof/Word.lean ====
section
/-! DEFINITION. The words the part handles: bytes, 16-bit words of the settings image, tag codes. -/

namespace Sys2Proof

/-- One byte of a port frame or a loop message (R136, R191). -/
abbrev Byte := BitVec 8

/-- One word of the settings store (R179), and of a notice set (R196). -/
abbrev Word := BitVec 16

/-- A tag code: 48 bits (00_scope, Conventions). -/
abbrev Tag := BitVec 48

end Sys2Proof
end

