-- ==== Sys2Proof/Syntax.lean ====
section
/-! DEFINITION. The commands: one constructor per row of spec/opcode_table.json, with the operands the row's rule
names. Operands of host requests are kept as the port carries them (a number, also one out of its range, since the
rules answer such a request with BAD_PARAMETER); operands of the part's own steps are typed. -/

namespace Sys2Proof

/-- How HOLD, VOID, AMEND and RELEASE HOLD name a record (R1, R15, R170, R174, R24). -/
inductive RecordName where
  | ticket (t : Nat)
  | handle (h : Nat)
  deriving DecidableEq, Repr

/-- How ADMIT names its vehicle (R8). -/
inductive AdmitName where
  | tag (t : Tag)
  | handle (h : Nat)
  deriving DecidableEq, Repr

/-- How LOOKUP names a record (R16). -/
inductive LookupName where
  | ticket (t : Nat)
  | handle (h : Nat)
  | tag (t : Tag)
  deriving DecidableEq, Repr

/-- How VEHICLE GET names an entry (R32). -/
inductive VehicleName where
  | tag (t : Tag)
  | index (i : Nat)
  deriving DecidableEq, Repr

/-- What PERMIT GET asks for (R41): a permit, or the next permit above a number. -/
inductive PermitName where
  | number (n : Nat)
  | next (n : Nat)
  deriving DecidableEq, Repr

/-- The stored tare parameter of VEHICLE PUT (R30). -/
inductive TareParam where
  | none
  | weight (kg : Int) (day validity : Nat)
  | keep
  deriving DecidableEq, Repr

/-- The maintenance code of a LANE_STATUS (R75, R136). -/
inductive MaintCode where
  | none | activate | deactivate
  deriving DecidableEq, Repr

/-- The alarm code of a UNIT_ALARM (R136). -/
inductive AlarmCode where
  | barrierMotor | armOff | supply | digitizer
  deriving DecidableEq, Repr

/-- The items of a LANE_STATUS message (R75, R136). -/
structure LaneReport where
  downClosed : Bool
  upClosed   : Bool
  approach   : Bool
  deck       : Bool
  gate       : Bool
  beyond     : Bool
  code       : MaintCode
  refused    : Bool
  deriving DecidableEq, Repr

/-- The two maintenance-code detectors of a lane unit (R165). -/
inductive DetectorKind where
  | activate | deactivate
  deriving DecidableEq, Repr

/-- What the part heard in an IN slot (R142): no start bit within the response window, or the bytes before the first
that was framed badly (a missing stop bit, a second talker), with a mark that none was. -/
inductive Heard where
  | nothing
  | bytes (bs : List Byte) (wellFramed : Bool)
  deriving DecidableEq, Repr

/-- The three samples the part takes of one bit it drives (R141). -/
abbrev BitSamples := Bool × Bool × Bool

/-- The commands. Where a request names a lane, deck or unit, its operand is the byte the port carries. -/
inductive Instr where
  -- start-up, port and notices
  | hardReset
  | loadEnd (read : Option (List Word))
  | transactionStart
  | transactionEnd (sent : List Byte) (calEn : Bool)
  | identify
  | noticeReport
  | noticeMask (words : List Word)
  | noticeEdge (words : List Word)
  -- Visit Table
  | admitVisit (lane : Nat) (name : AdmitName)
  | book (tag : Tag) (kind permit useTare day : Nat)
  | lookup (name : LookupName)
  | amend (name : RecordName) (useTare day : Nat)
  | hold (name : RecordName)
  | releaseHold (name : RecordName) (lane : Option Nat)
  | voidVisit (name : RecordName)
  | retire (ticket : Nat)
  | nextDone
  | takeChanges
  | tipDeclare (ticket category : Nat)
  | call (lane ticket : Nat)
  -- Vehicle Register
  | vehiclePut (tag : Tag) (permit : Nat) (payload : Int) (groups refresh banned : Nat) (tare : TareParam)
  | vehicleGet (name : VehicleName)
  | vehicleDrop (tag : Tag)
  | tareStore (ticket index validity : Nat)
  -- Permit Table
  | permitPut (number : Nat) (allowed : BitVec 32) (primary expiry : Nat)
  | permitGet (name : PermitName)
  | permitAdjust (number : Nat) (amount : Int)
  | permitSuspend (number : Nat)
  | permitResume (number : Nat)
  | permitDrop (number : Nat)
  -- Lane Controllers
  | laneMode (lane mode autoTake walkIn walkTare autoCapture : Nat)
  | laneRelease (lane : Nat)
  | laneReset (lane : Nat)
  | maintainOn (lane : Nat)
  | maintainOff (lane : Nat)
  | barrierRaise (lane : Nat)
  | barrierLower (lane : Nat)
  | laneStatus (lane : Nat)
  -- Deck Processors
  | capture (lane : Nat) (burst : Option Nat)
  | terminate (lane : Nat)
  | zero (deck : Nat)
  | deckStatus (deck : Nat)
  -- Yard Loop Controller
  | loopStart
  | loopPause
  | loopResume
  | loopStop
  | slotSet (frameLength : Nat) (entries : List Byte)
  | unitAddress (unit address : Nat)
  | inject (unit : Nat)
  | loopStatus
  -- Unit Supervisor
  | counterMode (unit selection report : Nat)
  | counterReport (unit : Nat)
  | autoSwitch (unit on : Nat)
  | unitStatus (unit : Nat)
  -- Settings Loader and Yard Clock
  | settingRead (word source : Nat)
  | settingWrite (word value : Nat) (calEn : Bool)
  | reload
  | restart
  | clockSet (day minute : Nat)
  | clockRead
  | storeReadEnd (answer : Option Word)
  | writeCycleEnd (readBack : Option Word)
  | restartEnd
  | yardClockSecond
  | dayChange
  | reportIntervalTick
  -- Yard Loop slots
  | marker (readBack : List BitSamples)
  | laneCommand (slot : Nat) (readBack : List BitSamples)
  | poll (slot : Nat) (readBack : List BitSamples)
  | inSlotEnd (slot : Nat) (heard : Heard)
  -- messages delivered
  | laneStatusMessage (unit : Fin 4) (report : LaneReport)
  | tagRead (unit : Fin 4) (tag : Tag)
  | unitAlarm (unit : Fin 8) (code : AlarmCode)
  | deckSample (deck : Fin 4) (raw : BitVec 24) (overRange : Bool)
  | loopPaused (slot : Nat)
  -- expiries and entries
  | settleTimerExpiry (lane : Fin 4)
  | cycleTimerExpiry (lane : Fin 4)
  | recoveryTimerExpiry (lane : Fin 4)
  | passageTimeout (lane : Fin 4)
  | travelTimerExpiry (lane : Fin 4)
  | gateClearTimerExpiry (lane : Fin 4)
  | abandonTimerExpiry (lane : Fin 4)
  | captureTimerExpiry (deck : Fin 4)
  | trackingTimerExpiry (deck : Fin 4)
  | noDataEntry (deck : Fin 4)
  | unitLostEntry (unit : Fin 8)
  | unitGoodEntry (unit : Fin 8)
  | alarmClear (unit : Fin 8)
  | detectorAssert (unit : Fin 4) (kind : DetectorKind)
  | detectorDeassert (unit : Fin 4) (kind : DetectorKind)
  | rstNLow
  deriving DecidableEq, Repr

end Sys2Proof
end

