-- ==== Sys2Proof/Decode.lean ====
section
/-! DEFINITION. The command a table word spells. No row of spec/opcode_table.json gives bits (every row's "fields"
is empty), so no word spells a command. The frames the host sends are read in Machine/Frames.lean. -/

namespace Sys2Proof

/-- The rows of the table that give bits: none. -/
def decodeTableWord (_nbits _w : Nat) : Option Instr := none

end Sys2Proof
end

