-- ==== Sys2Proof/Config.lean ====
section
/-! DEFINITION. What an implementation fixes: the constants the rules name, and the free values (no body: nothing
can be proved about which value they take). -/

namespace Sys2Proof.Config

/-- FREE VALUE (log 10): the request code in the answer to, or the busy code of, a frame whose byte 2 never came
(R192 names "the frame's code" and "byte 2 as received"). -/
opaque frameCode : Nat → Byte

/-- FREE VALUE (log 11): the tag written into the last refusal of an ADMIT whose booking handle names no BOOKED
record (R8, R11). -/
opaque refusedTag : Nat → Tag

/-- FREE VALUE (log 12): the division, in kg, that R21 uses where the deck it names has no division. -/
opaque missingDivision : Nat → Nat

/-- FREE VALUE (log 13): whether the barrier-fault claim of a UNIT_ALARM reaches the lane before its unit-alarm
claim (R79 gives both outcomes and no order). -/
opaque barrierClaimFirst : Nat → Bool

/-- FREE VALUE (log 39): whether the deck takes a completing sample that the loop has delivered between a lane's
taking a LANE RELEASE, LANE RESET or MAINTAIN ON and the unbinding claim that follows (R131 gives both outcomes). -/
opaque readingFirst : Nat → Bool

/-- FREE VALUE (log 40): which of the slots that have no step of their own is in progress when LOOP STATUS is taken
(R134, R152). -/
opaque slotInProgress : Nat → Nat

/-- FREE VALUE (log 31): whether a host claim that waits in the port is taken between a lane's entry to IDLE and the try
of its buffer (R57 gives both orders). -/
opaque claimFirst : Nat → Bool

/-- R1: record slots of the Visit Table. -/
def visitSlots : Nat := 192
/-- R28: entry positions of the Vehicle Register. -/
def vehiclePositions : Nat := 1024
/-- R38: permits the Permit Table holds. -/
def permitCount : Nat := 128
/-- R3: entries a weighing list holds. -/
def weighingPlaces : Nat := 6
/-- R7: the largest ticket number. -/
def maxTicket : Nat := 99999999
/-- R38, R42: the largest magnitude of a permit balance, kg. -/
def maxBalance : Int := 2000000000
/-- R51: the fixed tag window, ms. -/
def tagWindowMs : Nat := 2000
/-- R157: bad frames in a row that make a GOOD unit LOST. -/
def lossFrames : Nat := 8
/-- R157, R159: good frames in a row, and alarm-free frames in a row, that a recovery needs. -/
def recoveryFrames : Nat := 4
/-- R165, R166: the span of the tolerated absence, and the absence run that deasserts a detector. -/
def detectorFrames : Nat := 16
/-- R165: the detectors' dwell, ms, with automatic switching on and off. -/
def dwellMs (autoSwitch : Bool) : Nat := if autoSwitch then 3000 else 200
/-- R91, R97, R154, R161: where 16-bit counts stop. -/
def countStop : Nat := 65535
/-- R180: the signature of word 0. -/
def signature : Word := 0x4B59
/-- R180: the sum of words 0 to 255 of a good image. -/
def imageSum : Word := 0x6C3E
/-- R193: the part number IDENTIFY answers. -/
def partNumber : Nat := 1624
/-- R136: the start byte of a loop message. -/
def startByte : Byte := 0xC6

end Sys2Proof.Config
end

