-- ==== Sys2Proof/Machine/State.lean ====
section
/-! DEFINITION. The state of the part as plain data: every register, table, list, mark, timer and pin the spec names,
the queue of waiting commands, and the state right after a hard reset. -/

namespace Sys2Proof.Machine

/-- The names the host's tables keep: a key and what stands under it, keys strictly rising (Machine/Ops.lean). -/
abbrev Table (α : Type) := List (Nat × α)

/-- A frame-counted timer (R51): stopped or expired, or running with this many frames left. A timer at 0 frames has
expired and its expiry step has not been taken yet (log 18). -/
abbrev Timer := Option Nat

/-- Status codes of R191, in the order of their codes. -/
inductive Status where
  | ok | accepted | notReady | portBusy | badFrame | unknownRequest | badParameter | notFound | exists | inUse
  | tableFull | wrongState | laneBusy | tooSoon | clockUnset | banned | inYard | noBooking | permitInactive
  | noBalance | occupancyLimit | categoryRefused | needsReweigh | listFull | zeroRange | certifiedLock | storeBusy
  | loopState
  deriving DecidableEq, Repr

/-- A day and minute written into a record (R2, R188). -/
structure Stamp where
  day    : Nat
  minute : Nat
  deriving DecidableEq, Repr

/-! ### Visit Table -/

/-- R2: kind of a visit. -/
inductive VisitKind where
  | tip | load
  deriving DecidableEq, Repr

/-- R2, R5: states of a visit record. -/
inductive VisitState where
  | booked | admitting | inYard | reweighing | exiting | cleared | done | held | void
  deriving DecidableEq, Repr

/-- The hold reasons of Holds and Recovery, and UNATTENDED_PASSAGE (R173). -/
inductive HoldReason where
  | host | restart | laneReset | released | abandoned | passageTimeout | unitLost | unitAlarm | barrierFault
  | maintenance | captureFailed | negativeNet | listFull | unattendedPassage
  deriving DecidableEq, Repr

/-- R3: role of a weighing. -/
inductive Role where
  | entry | reweigh | exit | storedTare
  deriving DecidableEq, Repr

/-- R3: method of a weighing. -/
inductive Method where
  | whole | axleSum
  deriving DecidableEq, Repr

/-- R3: result of a weighing entry. -/
inductive EntryResult where
  | complete | part
  deriving DecidableEq, Repr

/-- R3: standing of a weighing entry. -/
inductive Standing where
  | valid | withdrawn
  deriving DecidableEq, Repr

/-- R3: a weighing entry. -/
structure Weighing where
  role     : Role
  deck     : Option (Fin 4)
  method   : Option Method
  weight   : Int
  groups   : Option (List Int)
  result   : EntryResult
  standing : Standing
  legal    : Bool
  time     : Stamp
  deriving DecidableEq, Repr

/-- R4: source of a tip entry. -/
inductive TipSource where
  | declared | default
  deriving DecidableEq, Repr

/-- R4: a tip entry. -/
structure Tip where
  interval : Nat
  category : Nat
  source   : TipSource
  net      : Option Int
  deriving DecidableEq, Repr

/-- R2: a visit record. `stopMark` and `bindMark` say how many entries the weighing list held when the present stop
(R128) and the present binding (R64) began (log 26). -/
structure Visit where
  ticket      : Option Nat
  kind        : VisitKind
  state       : VisitState
  prior       : Option VisitState
  reason      : Option HoldReason
  later       : List HoldReason
  tag         : Tag
  vehicle     : Nat
  permit      : Option Nat
  reservation : Int
  inYard      : Bool
  voidMark    : Bool
  useTare     : Bool
  lane        : Option (Fin 4)
  bookingDay  : Option Nat
  weighings   : List Weighing
  tips        : List Tip
  netTotal    : Option Int
  legal       : Option Bool
  admittedAt  : Option Stamp
  clearedAt   : Option Stamp
  passedAt    : Option Stamp
  stopMark    : Nat
  bindMark    : Nat
  deriving DecidableEq, Repr

/-- The Visit Table with the counters and lists it owns (R1, R7, R13, R25, R26). The two lists hold slot numbers. -/
structure VisitTable where
  records    : Table Visit
  nextTicket : Nat
  occupancy  : Nat
  changes    : List Nat
  completion : List Nat
  deriving DecidableEq, Repr

/-! ### Vehicles and permits -/

/-- R29: the stored tare of a vehicle entry. -/
structure Tare where
  kg       : Int
  day      : Nat
  validity : Nat
  deriving DecidableEq, Repr

/-- R29: a vehicle entry. -/
structure Vehicle where
  tag           : Tag
  defaultPermit : Option Nat
  payload       : Int
  axleGroups    : Nat
  tare          : Option Tare
  refresh       : Bool
  banned        : Bool
  live          : Nat
  deriving DecidableEq, Repr

/-- R38: states of a permit. -/
inductive PermitState where
  | active | suspended | expired
  deriving DecidableEq, Repr

/-- R38: a permit; its number is its key. -/
structure Permit where
  state    : PermitState
  balance  : Int
  reserved : Int
  allowed  : BitVec 32
  primary  : Nat
  expiry   : Nat
  live     : Nat
  deriving DecidableEq, Repr

/-! ### Lanes and barriers -/

/-- R49: lane modes, in the order of R181's codes. -/
inductive LaneMode where
  | closed | entry | exit | internal
  deriving DecidableEq, Repr

/-- R49, R50: lane states. -/
inductive LaneState where
  | closed | idle | settling | bound | passing | releasing | maintenance | fault
  deriving DecidableEq, Repr

/-- R71, R136: display codes. -/
inductive DisplayCode where
  | welcome | weighing | proceed | seeOffice | closed | ticket
  deriving DecidableEq, Repr

/-- R71: what a lane's display shows. -/
structure Display where
  code   : DisplayCode
  number : Nat
  deriving DecidableEq, Repr

/-- R71, R136: the signal. -/
inductive Signal where
  | red | green | dark
  deriving DecidableEq, Repr

/-- R49: a tag entry. -/
structure TagEntry where
  tag   : Tag
  frame : Nat
  age   : Nat
  deriving DecidableEq, Repr

/-- R111: a burst length, 1 to 8 or OPEN. -/
inductive Burst where
  | open
  | fixed (n : Nat)
  deriving DecidableEq, Repr

/-- R126: why a capture FAILED. -/
inductive FailReason where
  | noStable | overload | noData | aborted
  deriving DecidableEq, Repr

/-- R112, R126: how a capture ended. -/
inductive CaptureResult where
  | complete
  | part
  | failed (r : FailReason)
  deriving DecidableEq, Repr

/-- R69: the result of a test weighing; weight and groups stand when readings were gathered, and so does the legal mark,
which R126 works out for no other (log 22). -/
structure TestResult where
  result : CaptureResult
  method : Method
  weight : Option Int
  groups : Option (List Int)
  legal  : Option Bool
  time   : Stamp
  deriving DecidableEq, Repr

/-- R49: the pending capture of a lane: a CAPTURE with its burst length, if one was given. -/
structure PendingCapture where
  burst : Option Burst
  deriving DecidableEq, Repr

/-- R49: a lane record. `autoTake` is the lane's auto-admit setting. The signal is computed (`State.signal`). -/
structure Lane where
  mode           : LaneMode
  state          : LaneState
  bound          : Option Nat
  boundTag       : Option Tag
  eligible       : Bool
  heldVisit      : Option Nat
  autoTake       : Bool
  walkIn         : Bool
  walkTare       : Bool
  autoCapture    : Bool
  settle         : Timer
  cycle          : Timer
  recovery       : Timer
  passage        : Timer
  pendingCapture : Option PendingCapture
  buffer         : List TagEntry
  lastRefusal    : Option (Status × Tag)
  display        : Display
  testResult     : Option TestResult
  deriving DecidableEq, Repr

/-- R76: barrier states. -/
inductive BarrierState where
  | down | raising | up | lowering | fault
  deriving DecidableEq, Repr

/-- R74: barrier orders. -/
inductive BarrierOrder where
  | raise | lower
  deriving DecidableEq, Repr

/-- R74, R136: drive commands. -/
inductive Drive where
  | stay | raise | lower
  deriving DecidableEq, Repr

/-- R75: the loop image: the last report and the frame it came in. -/
structure LoopImage where
  report : LaneReport
  frame  : Nat
  deriving DecidableEq, Repr

/-- R74: passage tracking. -/
inductive Tracking where
  | inactive | boundVisit | heldVisit
  deriving DecidableEq, Repr

/-- R74: a Barrier Sequencer. The drive command is computed (`State.drive`). `travelAtStart` says the travel timer
is loaded when the loop next starts (R90). -/
structure Barrier where
  state         : BarrierState
  order         : BarrierOrder
  travel        : Timer
  travelAtStart : Bool
  gateClear     : Timer
  abandon       : Timer
  refusals      : Nat
  image         : Option LoopImage
  tracking      : Tracking
  beyondSeen    : Bool
  deriving DecidableEq, Repr

/-! ### Decks and captures -/

/-- R91: deck methods, in the order of R181's codes. -/
inductive DeckMethod where
  | none | whole | axle
  deriving DecidableEq, Repr

/-- R91: certified parameters of a deck. -/
structure DeckParams where
  zero       : Nat
  span       : Nat
  capacity   : Nat
  division   : Nat
  minWeigh   : Nat
  deriving DecidableEq, Repr

/-- R91: deck states. -/
inductive DeckState where
  | noData | empty | motion | stable | overload
  deriving DecidableEq, Repr

/-- R91, R94: the last sample taken, with its kg reading and weight (R95). -/
structure Sample where
  raw       : Nat
  overRange : Bool
  frame     : Nat
  kg        : Int
  weight    : Int
  deriving DecidableEq, Repr

/-- R97: the stability window. -/
structure Window where
  ref     : Int
  age     : Nat
  count   : Nat
  settled : Bool
  deriving DecidableEq, Repr

/-- R91: a deck record; it is enabled when its parameters are present (R92). `sampled` says a sample was taken in the
frame in progress (R99). -/
structure Deck where
  method      : DeckMethod
  params      : Option DeckParams
  certified   : Bool
  workingZero : Nat
  zeroFault   : Bool
  state       : DeckState
  last        : Option Sample
  window      : Option Window
  noData      : Nat
  tracking    : Timer
  sampled     : Bool
  deriving DecidableEq, Repr

/-- R111: purpose of a capture; a VISIT capture has its binding ticket and role. -/
inductive Purpose where
  | visit (ticket : Nat) (role : Role)
  | test
  deriving DecidableEq, Repr

/-- R112: the engine's states other than IDLE; ON_GROUP knows whether its group has settled (R119). -/
inductive Phase where
  | waiting | measuring | grouping
  | onGroup (settled : Bool)
  deriving DecidableEq, Repr

/-- R111: a settled group: its weight and whether its reading's zero mark was IN_RANGE. -/
structure Group where
  weight  : Int
  inRange : Bool
  deriving DecidableEq, Repr

/-- R111: a running capture. -/
structure Capture where
  phase      : Phase
  purpose    : Purpose
  method     : Method
  burst      : Burst
  groups     : List Group
  counted    : Nat
  missed     : Bool
  beyondSeen : Bool
  timer      : Timer
  deriving DecidableEq, Repr

/-- R111: the last outcome of an engine. Its purpose carries the ticket the capture served, which no answer sends. -/
structure LastOutcome where
  result  : CaptureResult
  purpose : Purpose
  method  : Method
  weight  : Option Int
  legal   : Option Bool
  deriving DecidableEq, Repr

/-- R111: a Capture Engine; it is IDLE when no capture runs. -/
structure Engine where
  run         : Option Capture
  failures    : Nat
  lastOutcome : Option LastOutcome
  deriving DecidableEq, Repr

/-! ### Yard Loop and units -/

/-- R134: loop states. -/
inductive LoopState where
  | stopped | running | pausing | paused
  deriving DecidableEq, Repr

/-- R134: direction of a slot. -/
inductive Direction where
  | out | inward
  deriving DecidableEq, Repr

/-- R134: a slot table entry. -/
structure SlotEntry where
  unit : Option (Fin 8)
  dir  : Direction
  deriving DecidableEq, Repr

/-- R144: slot statuses. -/
inductive SlotStatus where
  | ok | silent | check | address | kind | txVerify | unused
  deriving DecidableEq, Repr

/-- R134: the published status: the frame's number, and the statuses of the marker slot and slots 1 to 22. -/
structure Published where
  frame    : Nat
  statuses : List SlotStatus
  deriving DecidableEq, Repr

/-- R143: a message judged OK that its blocks have not taken yet, as the step that delivers it. -/
structure Delivery where
  step  : Instr
  frame : Nat
  deriving DecidableEq, Repr

/-- R134: the loop record. Position 0 is the marker slot. The outbound messages are computed (`State.outbound`).
`begun` is the slot that a RESUME has begun and whose step has not been taken (R147, log 16). `shown` is the slot that
LOOP STATUS last drew in the frame in progress, and `pauseShown` says it drew it in PAUSING (log 40). -/
structure Loop where
  state        : LoopState
  frameLength  : Nat
  slots        : List SlotEntry
  addresses    : Vector Nat 8
  autoStart    : Bool
  period       : Nat
  frameNo      : Nat
  position     : Option Nat
  markerOpen   : Bool
  polled       : Option Bool
  slotDone     : Bool
  begun        : Option Nat
  shown        : Nat
  pauseShown   : Bool
  working      : Table SlotStatus
  published    : Option Published
  tableChanged : Bool
  inject       : Vector Bool 8
  driven       : List Byte
  delivery     : Option Delivery
  deriving DecidableEq, Repr

/-- R155: unit states. -/
inductive UnitState where
  | absent | searching | good | lost | alarm
  deriving DecidableEq, Repr

/-- R154: count selections. -/
inductive CountSelection where
  | rx | tx | both
  deriving DecidableEq, Repr

/-- R154: report modes. -/
inductive ReportMode where
  | manual | interval
  deriving DecidableEq, Repr

/-- R154, R165: a maintenance-code detector. `tolerated` is the frames since the tolerated absence, when one is
held; `reached` says the run had reached the dwell at the last publication, so that the detector is to assert. -/
structure Detector where
  asserted  : Bool
  seen      : Bool
  run       : Nat
  tolerated : Option Nat
  absence   : Nat
  reached   : Bool
  deriving DecidableEq, Repr

/-- R154: the counter snapshot. -/
structure Snapshot where
  count    : Nat
  overflow : Bool
  deriving DecidableEq, Repr

/-- R154: a unit record. The last three fields are those of lane units. -/
structure UnitRec where
  state      : UnitState
  goodRun    : Nat
  badRun     : Nat
  alarmCode  : Option AlarmCode
  alarmFree  : Nat
  alarmSeen  : Bool
  counter    : Nat
  selection  : CountSelection
  report     : ReportMode
  overflow   : Bool
  snapshot   : Option Snapshot
  autoSwitch : Bool
  activate   : Detector
  deactivate : Detector
  deriving DecidableEq, Repr

/-! ### Settings Loader, clock, port and notices -/

/-- R179: load status. -/
inductive LoadStatus where
  | loading | loaded | defaults | sumBad | absent
  deriving DecidableEq, Repr

/-- R183: result of a write of the store. -/
inductive WriteResult where
  | ok | noAck | mismatch
  deriving DecidableEq, Repr

/-- R179: the last write result, with its word number. -/
structure LastWrite where
  result : WriteResult
  word   : Nat
  deriving DecidableEq, Repr

/-- R179: a write under way. -/
structure StoreWrite where
  word  : Nat
  value : Nat
  deriving DecidableEq, Repr

/-- R179: the Settings Loader. `afterReset` says the load under way began with a hard reset; `reading` is the word a
SETTING READ from STORE waits for (R184). -/
structure Loader where
  status       : LoadStatus
  afterReset   : Bool
  image        : List Word
  lockBoundary : Nat
  writing      : Option StoreWrite
  lastWrite    : Option LastWrite
  reading      : Option Nat
  deriving DecidableEq, Repr

/-- R188: the Yard Clock. -/
structure Clock where
  day    : Nat
  minute : Nat
  second : Nat
  isSet  : Bool
  deriving DecidableEq, Repr

/-- R26: how a Change List entry names its record. -/
inductive ChangeName where
  | ticket (t : Nat)
  | handle (h : Nat)
  deriving DecidableEq, Repr

/-- R184: what every answer to SETTING READ carries beside the word. -/
structure LoaderView where
  status       : LoadStatus
  lockBoundary : Nat
  writing      : Bool
  lastWrite    : Option LastWrite
  deriving DecidableEq, Repr

/-- The answer data of the requests (each rule's own list of fields). -/
inductive Answer where
  | empty
  | ticket (t : Nat)
  | handle (h : Nat)
  | record (slot : Option Nat) (v : Visit)
  | changes (names : List ChangeName)
  | vehiclePut (index : Nat) (created : Bool)
  | vehicle (index : Nat) (v : Vehicle) (inDate : Option Bool)
  | permitPut (created : Bool)
  | permit (number : Nat) (p : Permit)
  | balance (kg : Int)
  | laneState (st : LaneState)
  | barrierState (st : BarrierState)
  | lane (l : Lane) (signal : Signal) (b : Barrier)
  | zeroOffset (kg : Int)
  | deck (d : Deck) (offset range : Option Int) (e : Engine) (u : UnitState)
  | frameNumber (n : Nat)
  | loopState (st : LoopState)
  | loop (l : Loop) (outbound : List (List Byte))
  | snapshot (sn : Snapshot)
  | unit (index : Fin 8) (u : UnitRec) (slots : List Nat) (address : Nat)
  | setting (word : Option Word) (noAnswer : Bool) (view : LoaderView)
  | settingRefused (view : LoaderView)
  | clock (day minute : Nat) (isSet : Bool)
  | identity (part : Nat) (status : LoadStatus) (writing : Bool)
  | notices (latched mask : Vector Word 20) (levels : Vector Word 7)
  deriving DecidableEq, Repr

/-- R190: the response buffer. -/
inductive Buffer where
  | none
  | pending (code : Byte)
  | answer (code : Byte) (status : Status) (data : Answer)
  deriving DecidableEq, Repr

/-- R190: inside a transaction: whether the condition at the fall was ANSWER, and the response frame being sent. -/
structure Sending where
  wasAnswer : Bool
  frame     : List Byte
  deriving DecidableEq, Repr

/-- R190, R192: the Request Port. `busy` is the busy status PORT_BUSY; `handed` is the request a taken frame has
handed to its block and whose own step has not come yet: while PENDING the block has still to take it, and in ANSWER it
was taken within another step (log 31). -/
structure Port where
  buffer   : Buffer
  busy     : Bool
  busyCode : Byte
  handed   : Option Instr
  sending  : Option Sending
  deriving DecidableEq, Repr

/-- R196, R197: the Notice Unit, in R196's word forms. ATTN is computed (`Notices.attn`). `beforeLoad` holds the levels
as they stood when a RELOAD was taken, whose changes are latched at the end of the load (R199; log 29). -/
structure Notices where
  latched    : Vector Word 20
  mask       : Vector Word 20
  edges      : Vector Word 7
  levels     : Vector Word 7
  beforeLoad : Option (Vector Word 7)
  deriving DecidableEq, Repr

/-- The machine. `pending` is the queue of commands, front first; `free` counts the free values drawn (log 14). -/
structure State where
  pending    : List Instr
  free       : Nat
  rstLow     : Bool
  restarting : Bool
  calEn      : Bool
  vt         : VisitTable
  vehicles   : Table Vehicle
  permits    : Table Permit
  lanes      : Vector Lane 4
  barriers   : Vector Barrier 4
  decks      : Vector Deck 4
  engines    : Vector Engine 4
  loop       : Loop
  units      : Vector UnitRec 8
  loader     : Loader
  clock      : Clock
  port       : Port
  notices    : Notices
  deriving DecidableEq, Repr

/-- No command of this part ends in a fault: field faults are states (R66, R81, R96, R157). No rule stops the part,
so this type has no constructor; nothing raises it (safe). -/
inductive Fault where
  deriving DecidableEq, Repr

/-- Why a command has no meaning. -/
inductive Refusal where
  /-- Raised by `exec` alone, for a command not reached yet; none is left. Safe: nothing follows from it. -/
  | notModelled (mnemonic : String)
  deriving DecidableEq, Repr

/-! ### Reset values -/

/-- R181: the default image. Words the rule does not list are 0 (log 9). -/
def defaultImage : List Word :=
  [0, 0] ++ List.replicate 36 0
    ++ [24, 1, 0, 1500, 8000, 2000, 6000, 54464, 1, 5000, 1000, 30000, 1000]
    ++ List.replicate 8 0 ++ [0] ++ List.replicate 22 15 ++ [1, 2, 3, 4, 5, 6, 7, 8] ++ [0]
    ++ List.replicate 36 0 ++ List.replicate 129 0

/-- R73, R186: a lane during LOADING after a hard reset. -/
def Lane.reset : Lane where
  mode := .closed
  state := .closed
  bound := none
  boundTag := none
  eligible := false
  heldVisit := none
  autoTake := false
  walkIn := false
  walkTare := false
  autoCapture := false
  settle := none
  cycle := none
  recovery := none
  passage := none
  pendingCapture := none
  buffer := []
  lastRefusal := none
  display := ⟨.closed, 0⟩
  testResult := none

/-- R90: a Barrier Sequencer after a hard reset. -/
def Barrier.reset : Barrier where
  state := .lowering
  order := .lower
  travel := none
  travelAtStart := true
  gateClear := none
  abandon := none
  refusals := 0
  image := none
  tracking := .inactive
  beyondSeen := false

/-- R110: a deck during LOADING. -/
def Deck.reset : Deck where
  method := .none
  params := none
  certified := false
  workingZero := 0
  zeroFault := false
  state := .noData
  last := none
  window := none
  noData := 4
  tracking := none
  sampled := false

/-- R133: a Capture Engine after a hard reset. -/
def Engine.reset : Engine where
  run := none
  failures := 0
  lastOutcome := none

/-- R153: an unused slot table entry of the defaults. -/
def SlotEntry.unused : SlotEntry := ⟨none, .out⟩

/-- R153: the loop record on its defaults, during LOADING. -/
def Loop.reset : Loop where
  state := .stopped
  frameLength := 0
  slots := List.replicate 22 SlotEntry.unused
  addresses := #v[1, 2, 3, 4, 5, 6, 7, 8]
  autoStart := false
  period := 1
  frameNo := 0
  position := none
  markerOpen := false
  polled := none
  slotDone := false
  shown := 0
  begun := none
  pauseShown := false
  working := []
  published := none
  tableChanged := false
  inject := Vector.replicate 8 false
  driven := []
  delivery := none

/-- R166, R168: a cleared detector. The absence run and, where the unit becomes ABSENT, the code seen mark are cleared
with the fields that the rules name (log 21). -/
def Detector.cleared : Detector where
  asserted := false
  seen := false
  run := 0
  tolerated := none
  absence := 0
  reached := false

/-- R168: a unit record during LOADING after a hard reset. -/
def UnitRec.reset : UnitRec where
  state := .absent
  goodRun := 0
  badRun := 0
  alarmCode := none
  alarmFree := 0
  alarmSeen := false
  counter := 0
  selection := .both
  report := .manual
  overflow := false
  snapshot := none
  autoSwitch := false
  activate := Detector.cleared
  deactivate := Detector.cleared

/-- R179, R186: the loader at the start of the load after a hard reset. -/
def Loader.reset : Loader where
  status := .loading
  afterReset := true
  image := defaultImage
  lockBoundary := 255
  writing := none
  lastWrite := none
  reading := none

/-- R199: the port after a hard reset. -/
def Port.reset : Port where
  buffer := .none
  busy := false
  busyCode := 0
  handed := none
  sending := none

/-- R199: the Notice Unit after a hard reset: the default image's mask and edge selections (R181), levels low. -/
def Notices.reset : Notices where
  latched := Vector.replicate 20 0
  mask := Vector.replicate 20 0
  edges := Vector.replicate 7 0
  levels := Vector.replicate 7 0
  beforeLoad := none

/-- R27: the Visit Table after a hard reset. -/
def VisitTable.reset : VisitTable where
  records := []
  nextTicket := 1
  occupancy := 0
  changes := []
  completion := []

/-- R186: the part right after RST_N has risen: hard-reset values, the load of the settings image under way. -/
def State.reset : State where
  pending := []
  free := 0
  rstLow := false
  restarting := false
  calEn := false
  vt := VisitTable.reset
  vehicles := []
  permits := []
  lanes := Vector.replicate 4 Lane.reset
  barriers := Vector.replicate 4 Barrier.reset
  decks := Vector.replicate 4 Deck.reset
  engines := Vector.replicate 4 Engine.reset
  loop := Loop.reset
  units := Vector.replicate 8 UnitRec.reset
  loader := Loader.reset
  clock := ⟨0, 0, 0, false⟩
  port := Port.reset
  notices := Notices.reset

end Sys2Proof.Machine
end

