-- ==== Sys2Proof/Machine/Ops.lean ====
section
/-! DEFINITION. The named operations over tables, lanes, timers, settings and the clock that every family uses. -/

namespace Sys2Proof.Machine

abbrev Result := Host.Outcome State Fault Refusal

/-! ### Tables: key and value lists, keys strictly rising -/

/-- What stands under a key. -/
def Table.get {α : Type} (t : Table α) (k : Nat) : Option α :=
  match t with
  | [] => none
  | (j, a) :: rest => if j = k then some a else Table.get rest k

/-- Writes a value under a key, replacing what stood there. -/
def Table.put {α : Type} (t : Table α) (k : Nat) (a : α) : Table α :=
  match t with
  | [] => [(k, a)]
  | (j, b) :: rest =>
    if k < j then (k, a) :: (j, b) :: rest
    else if k = j then (k, a) :: rest
    else (j, b) :: Table.put rest k a

/-- Removes a key. -/
def Table.drop {α : Type} (t : Table α) (k : Nat) : Table α := t.filter (fun p => p.1 ≠ k)

/-- Keys strictly rising: the one canonical form of a table. -/
abbrev Table.wf {α : Type} (t : Table α) : Prop := t.Pairwise (fun a b => a.1 < b.1)

/-- The first entry, in key order, whose value meets a test. -/
def Table.find {α : Type} (t : Table α) (p : α → Bool) : Option (Nat × α) := t.find? (fun e => p e.2)

/-- R1, R28: the lowest key below `limit` that is free. -/
def Table.lowestFree {α : Type} (t : Table α) (limit : Nat) : Option Nat :=
  (List.range limit).find? (fun k => (t.get k).isNone)

/-! ### Lanes, barriers, decks, engines and units -/

namespace State

def lane (s : State) (n : Fin 4) : Lane := s.lanes.get n
def barrier (s : State) (n : Fin 4) : Barrier := s.barriers.get n
def deck (s : State) (n : Fin 4) : Deck := s.decks.get n
def engine (s : State) (n : Fin 4) : Engine := s.engines.get n
def unit (s : State) (u : Fin 8) : UnitRec := s.units.get u

def setLane (s : State) (n : Fin 4) (l : Lane) : State := { s with lanes := s.lanes.set n l }
def setBarrier (s : State) (n : Fin 4) (b : Barrier) : State := { s with barriers := s.barriers.set n b }
def setDeck (s : State) (n : Fin 4) (d : Deck) : State := { s with decks := s.decks.set n d }
def setEngine (s : State) (n : Fin 4) (e : Engine) : State := { s with engines := s.engines.set n e }
def setUnit (s : State) (u : Fin 8) (r : UnitRec) : State := { s with units := s.units.set u r }

/-- The record in a slot of the Visit Table. -/
def visit (s : State) (slot : Nat) : Option Visit := s.vt.records.get slot

/-- Writes a record into its slot. -/
def setVisit (s : State) (slot : Nat) (v : Visit) : State :=
  { s with vt := { s.vt with records := s.vt.records.put slot v } }

end State

/-- 00_scope: lane unit Un serves lane Ln. -/
def laneUnit (n : Fin 4) : Fin 8 := ⟨n.val, by omega⟩
/-- 00_scope: digitizer U(n+4) serves deck Dn. -/
def digitizer (n : Fin 4) : Fin 8 := ⟨n.val + 4, by omega⟩

/-- The block a unit serves: a lane (U0 to U3) or a deck (U4 to U7). -/
inductive Served where
  | lane (n : Fin 4)
  | deck (n : Fin 4)
  deriving DecidableEq, Repr

def served (u : Fin 8) : Served :=
  if h : u.val < 4 then .lane ⟨u.val, h⟩ else .deck ⟨u.val - 4, by omega⟩

/-- All lanes (decks), and all units, in order. -/
def allLanes : List (Fin 4) := [0, 1, 2, 3]
def allUnits : List (Fin 8) := [0, 1, 2, 3, 4, 5, 6, 7]

/-- Applies a change once for each lane, in order. -/
def forLanes (f : Fin 4 → State → State) (s : State) : State := allLanes.foldl (fun s n => f n s) s

/-- Applies a change once for each unit, in order. -/
def forUnits (f : Fin 8 → State → State) (s : State) : State := allUnits.foldl (fun s u => f u s) s

/-- One change to every record of a set of blocks. -/
def mapEach {α β : Type} {n : Nat} (f : α → β) (v : Vector α n) : Vector β n := Vector.ofFn (fun k => f (v.get k))

/-! ### The settings image (R181) -/

/-- A word of an image. -/
def imageWord (image : List Word) (k : Nat) : Nat := (image.getD k 0).toNat

/-- R181: a setting of two words has its low 16 bits in the lower word. -/
def imageDouble (image : List Word) (k : Nat) : Nat := imageWord image k + 65536 * imageWord image (k + 1)

/-- R181: a site setting out of its range takes its default. -/
def ranged (v low high dflt : Nat) : Nat := if low ≤ v ∧ v ≤ high then v else dflt

/-- The duration settings of R181, each in ms. -/
inductive Setting where
  | settle | cycle | recovery | travel | passage | abandon | gateClear | captureLimit | dwell
  deriving DecidableEq, Repr

/-- R181: words 41 to 50, their ranges and defaults. -/
def settingMs (image : List Word) : Setting → Nat
  | .settle => ranged (imageWord image 41) 0 60000 1500
  | .cycle => ranged (imageWord image 42) 0 60000 8000
  | .recovery => ranged (imageWord image 43) 0 60000 2000
  | .travel => ranged (imageWord image 44) 500 30000 6000
  | .passage => ranged (imageDouble image 45) 10000 600000 120000
  | .abandon => ranged (imageWord image 47) 1000 60000 5000
  | .gateClear => ranged (imageWord image 48) 0 10000 1000
  | .captureLimit => ranged (imageWord image 49) 1000 60000 30000
  | .dwell => ranged (imageWord image 50) 200 10000 1000

/-- R13, R181: the occupancy limit, word 38. -/
def occupancyLimit (image : List Word) : Nat := ranged (imageWord image 38) 1 64 24

/-- R7, R181: the initial ticket, words 39 and 40; out of range gives 1. -/
def initialTicket (image : List Word) : Nat := ranged (imageDouble image 39) 1 Config.maxTicket 1

/-! ### Frame counts (R151) -/

/-- R151: the smallest number of frames whose total length is at least `ms`, with a frame period of `period` ms. -/
def framesOf (ms period : Nat) : Nat := (ms + period - 1) / period

namespace State

/-- R51, R151: a duration setting in frames, with the frame period in force. -/
def frames (s : State) (x : Setting) : Nat := framesOf (settingMs s.loader.image x) s.loop.period

/-- R51: the tag window in frames. -/
def tagWindow (s : State) : Nat := framesOf Config.tagWindowMs s.loop.period

end State

/-- R51: a timer has expired when it has been taken to 0 or does not run. -/
def Timer.expired (t : Timer) : Bool := t = none || t = some 0

/-- An expiry step of the timer is to be taken. -/
def Timer.due (t : Timer) : Bool := t = some 0

/-- R51: a running timer falls by 1 at a frame end. -/
def Timer.tick (t : Timer) : Timer := t.map (· - 1)

/-- A timer whose expiry has no step of its own to wait for: loaded with 0 frames it expires as it is loaded (R51). -/
def Timer.load (n : Nat) : Timer := if n = 0 then none else some n

/-! ### Time -/

/-- R188: the day and minute written now; day 0, minute 0 while the clock is unset. -/
def State.now (s : State) : Stamp := if s.clock.isSet then ⟨s.clock.day, s.clock.minute⟩ else ⟨0, 0⟩

/-! ### Rounding (R95) -/

/-- R95, R102: x / y rounded to the nearest whole number, halfway away from zero; y is positive. -/
def roundDiv (x y : Int) : Int :=
  if 0 ≤ x then (2 * x + y) / (2 * y) else -((2 * (-x) + y) / (2 * y))

/-! ### The Change List (R26) -/

/-- R26: places a record on the Change List; one already on it keeps its place. -/
def State.touch (s : State) (slot : Nat) : State :=
  if slot ∈ s.vt.changes then s
  else { s with vt := { s.vt with changes := s.vt.changes ++ [slot] } }

/-- R23, R24, R25: a record joins the end of the Completion List. -/
def State.complete (s : State) (slot : Nat) : State :=
  if slot ∈ s.vt.completion then s
  else { s with vt := { s.vt with completion := s.vt.completion ++ [slot] } }

/-! ### Live-visit counts (R34) -/

/-- R34: adds `d` to the live-visit count of a vehicle entry. -/
def State.addVehicleLive (s : State) (index : Nat) (d : Int) : State :=
  match s.vehicles.get index with
  | none => s
  | some v => { s with vehicles := s.vehicles.put index { v with live := (v.live + d).toNat } }

/-- R34: adds `d` to the live-visit count of a permit. -/
def State.addPermitLive (s : State) (number : Nat) (d : Int) : State :=
  match s.permits.get number with
  | none => s
  | some p => { s with permits := s.permits.put number { p with live := (p.live + d).toNat } }

/-- R34: the counts a record moves when it is created (1) or removed (-1). -/
def State.addLive (s : State) (v : Visit) (d : Int) : State :=
  let s := s.addVehicleLive v.vehicle d
  match v.permit with
  | none => s
  | some number => s.addPermitLive number d

/-- R12, R47: adds kg to a permit's reserved amount. -/
def State.addReserved (s : State) (number : Nat) (kg : Int) : State :=
  match s.permits.get number with
  | none => s
  | some p => { s with permits := s.permits.put number { p with reserved := p.reserved + kg } }

/-- R1, R25, R17, R24: takes a record out of the table and off the lists, and moves its live-visit counts. -/
def State.removeVisit (s : State) (slot : Nat) (v : Visit) : State :=
  let s := { s with vt := { s.vt with
    records := s.vt.records.drop slot
    changes := s.vt.changes.filter (· ≠ slot)
    completion := s.vt.completion.filter (· ≠ slot) } }
  s.addLive v (-1)

/-! ### Finding records (R1) -/

/-- R1: the live record with a ticket number. -/
def State.byTicket (s : State) (t : Nat) : Option (Nat × Visit) :=
  s.vt.records.find (fun v => v.ticket = some t)

/-- R1: a record named by its booking handle: BOOKED, or HELD with prior state BOOKED. -/
def Visit.hasHandle (v : Visit) : Bool := v.state = .booked || (v.state = .held && v.prior = some .booked)

/-- R1: the record a booking handle names. -/
def State.byHandle (s : State) (h : Nat) : Option (Nat × Visit) :=
  match s.visit h with
  | none => none
  | some v => if v.hasHandle then some (h, v) else none

/-- R25: a record that stands on the Completion List: DONE, or VOID with its in-yard mark clear. -/
def Visit.finished (v : Visit) : Bool := v.state = .done || (v.state = .void && !v.inYard)

/-- R9, R16, R18: the record of a tag that is neither BOOKED nor on the Completion List. -/
def State.byTagInProgress (s : State) (t : Tag) : Option (Nat × Visit) :=
  s.vt.records.find (fun v => v.tag = t && v.state ≠ .booked && !v.finished)

/-- R8: the BOOKED record of a tag. -/
def State.byTagBooked (s : State) (t : Tag) : Option (Nat × Visit) :=
  s.vt.records.find (fun v => v.tag = t && v.state = .booked)

/-- R28: the vehicle entry of a tag. -/
def State.vehicleByTag (s : State) (t : Tag) : Option (Nat × Vehicle) := s.vehicles.find (fun v => v.tag = t)

/-- R9, R13: the number of records in ADMITTING. -/
def State.numAdmitting (s : State) : Nat := (s.vt.records.filter (fun p => p.2.state = .admitting)).length

/-- R3: a counted weighing stands VALID with result COMPLETE. -/
def Weighing.counted (w : Weighing) : Bool := w.standing = .valid && w.result = .complete

/-- R3, R21: the counted weighings in list order. -/
def Visit.countedWeighings (v : Visit) : List Weighing := v.weighings.filter Weighing.counted

/-- R3: the weighing list is full. -/
def Visit.listFull (v : Visit) : Bool := Config.weighingPlaces ≤ v.weighings.length

/-! ### Steps that take place only when their rule's condition holds (log 1) -/

/-- Runs `f` unless RST_N is low (R186: the part takes no request and drives nothing). -/
def whileUp (s : State) (f : State → State) : Result := .next (if s.rstLow then s else f s)

/-- Runs `f` when the step's condition holds and RST_N is high; otherwise the step does not take place. -/
def when (c : Bool) (s : State) (f : State → State) : Result := whileUp s (fun s => if c then f s else s)

end Sys2Proof.Machine
end

