-- ==== Sys2Proof/Machine/Barriers.lean ====
section
/-! DEFINITION. The Barrier Sequencer (R74 to R90): orders, travel, faults, lowering, and the judgement of an image. -/

namespace Sys2Proof.Machine

namespace Barrier

/-- R75: the last report, or what an absent image is read as: both switches open, all four loops clear. -/
def report (b : Barrier) : LaneReport :=
  match b.image with
  | some i => i.report
  | none => ⟨false, false, false, false, false, false, .none, false⟩

/-- R78, R80: the barrier comes to rest in a state; the travel timer stops and the refusal count is 0. -/
def rest (b : Barrier) (st : BarrierState) : Barrier :=
  { b with state := st, travel := none, travelAtStart := false, refusals := 0 }

/-- R77, R80: the barrier enters RAISING or LOWERING with the travel timer loaded. -/
def startTravel (b : Barrier) (st : BarrierState) (travel : Nat) : Barrier :=
  { b with state := st, travel := some travel, travelAtStart := false, refusals := 0 }

/-- R81: the barrier enters FAULT: its timers stop, the refusal count is 0, tracking ends. -/
def fail (b : Barrier) : Barrier :=
  { b.rest .fault with gateClear := none, abandon := none, tracking := .inactive }

/-- R84: UP with order LOWER judges the present image: the gate-clear timer is loaded if GATE is clear. -/
def waitGate (b : Barrier) (gate : Nat) : Barrier :=
  { b with gateClear := if b.report.gate then none else some gate }

/-- R77: the barrier order is given. An order LOWER that already stands is not given anew (R84). -/
def giveOrder (b : Barrier) (o : BarrierOrder) (travel gate : Nat) : Barrier :=
  match o, b.state with
  | .raise, .down => { b.startTravel .raising travel with order := .raise }
  | .raise, .lowering => { b.startTravel .raising travel with order := .raise }
  | .raise, .up => { b with order := .raise, gateClear := none }
  | .raise, .raising => { b with order := .raise }
  | .raise, .fault => { b with order := .raise }
  | .lower, .up => if b.order = .lower then b else { b with order := .lower }.waitGate gate
  | .lower, .down => { b with order := .lower }
  | .lower, .raising => { b with order := .lower }
  | .lower, .lowering => { b with order := .lower }
  | .lower, .fault => { b with order := .lower }

/-- R80: the command-refused item of an image, while the barrier travels. -/
def judgeRefusal (b : Barrier) : Barrier :=
  if b.report.refused then
    if b.refusals = 0 then { b with refusals := 1 } else b.fail
  else { b with refusals := 0 }

/-- R83: obstruction reversal: GATE occupied while LOWERING turns the barrier back; the order stays. -/
def reverse (b : Barrier) (travel : Nat) : Barrier :=
  if b.state = .lowering ∧ b.report.gate then b.startTravel .raising travel else b

/-- R78 to R84: the new image, already in `b`, is judged for travel, faults, refusals, obstruction and lowering. Where
one image meets two rules the end of travel comes first, then a second refusal, then the obstruction (log 19). -/
def judge (b : Barrier) (travel gate : Nat) : Barrier :=
  let r := b.report
  match b.state with
  | .fault => b
  | .raising =>
    if r.upClosed && r.downClosed then b.fail
    else if r.upClosed then
      let b := b.rest .up
      if b.order = .lower then b.waitGate gate else b
    else b.judgeRefusal
  | .lowering =>
    if r.upClosed && r.downClosed then b.fail
    else if r.downClosed then b.rest .down
    else b.judgeRefusal.reverse travel
  | .down => if (r.upClosed && r.downClosed) || !r.downClosed then b.fail else b
  | .up =>
    if (r.upClosed && r.downClosed) || !r.upClosed then b.fail
    else if b.order = .lower then
      if r.gate then { b with gateClear := none }
      else if b.gateClear = none then { b with gateClear := some gate } else b
    else b

/-- R84: the gate-clear timer expires and the UP barrier enters LOWERING. -/
def lowerNow (b : Barrier) (travel : Nat) : Barrier :=
  { b.startTravel .lowering travel with gateClear := none }

/-- R82: LANE RESET clears a FAULT: the present image decides between DOWN and LOWERING. -/
def clearFault (b : Barrier) (travel : Nat) : Barrier :=
  if b.state = .fault then
    if b.report.downClosed && !b.report.upClosed then b.rest .down else b.startTravel .lowering travel
  else b

/-- R85: a vehicle is past: the BEYOND-seen mark is set and GATE, BEYOND and DECK are all clear. -/
def passed (b : Barrier) : Bool := b.beyondSeen && !b.report.gate && !b.report.beyond && !b.report.deck

/-- R85: an image with BEYOND occupied sets the BEYOND-seen mark while tracking is active. -/
def track (b : Barrier) : Barrier :=
  if b.tracking ≠ .inactive ∧ b.report.beyond then { b with beyondSeen := true } else b

/-- R86: the condition under which the abandon timer runs. -/
def abandonable (b : Barrier) : Bool :=
  b.tracking = .boundVisit && b.state = .up && !b.beyondSeen
    && !b.report.approach && !b.report.deck && !b.report.gate && !b.report.beyond

/-- R86: the abandon timer runs under its condition alone, loaded when the condition becomes true. -/
def watchAbandon (b : Barrier) (abandon : Nat) : Barrier :=
  if b.abandonable then
    if b.abandon = none then { b with abandon := some abandon } else b
  else { b with abandon := none }

end Barrier

/-- R76: the drive command, from the barrier state and order, and in FAULT from the lane state. -/
def driveOf (b : Barrier) (lane : LaneState) : Drive :=
  match b.state, b.order with
  | .down, _ => .lower
  | .raising, _ => .raise
  | .up, .raise => .raise
  | .up, .lower => .stay
  | .lowering, _ => .lower
  | .fault, o => if lane = .maintenance then .stay else match o with
    | .raise => .raise
    | .lower => .lower

/-- R71: the signal. -/
def signalOf (b : Barrier) (lane : LaneState) : Signal :=
  if lane = .passing ∧ b.state = .up then .green else if lane = .closed then .dark else .red

namespace State

/-- R74: what the next LANE_COMMAND carries. -/
def drive (s : State) (n : Fin 4) : Drive := driveOf (s.barrier n) (s.lane n).state

/-- R71: the lane's signal. -/
def signal (s : State) (n : Fin 4) : Signal := signalOf (s.barrier n) (s.lane n).state

/-- R77: the lane gives its barrier an order. -/
def orderBarrier (s : State) (n : Fin 4) (o : BarrierOrder) : State :=
  s.setBarrier n ((s.barrier n).giveOrder o (s.frames .travel) (s.frames .gateClear))

/-- R85, R88: sets what the sequencer tracks; the abandon timer stops. -/
def setTracking (s : State) (n : Fin 4) (t : Tracking) (beyondSeen : Bool) : State :=
  s.setBarrier n { s.barrier n with tracking := t, beyondSeen := beyondSeen, abandon := none }

end State

end Sys2Proof.Machine
end

