-- ==== Sys2Proof/Machine/Flags.lean ====
section
/-! DEFINITION. The Notice Unit: sources, latch positions, live levels, edges and ATTN (R196 to R199). -/

namespace Sys2Proof.Machine

/-- R196: the sources, in the order of its table. -/
inductive Source where
  | admitted | admitRefused | tagOverrun | captureDone | cleared | passed | visitHeld | bookingLapsed
  | counterReport | counterOverflow | frameEnd | storeDone | zeroRange
  | unitLost | unitAlarm | maintActivate | maintDeactivate | laneFault | overload | occupancyFull
  deriving DecidableEq, Repr

/-- R196: a source's word. -/
def Source.word : Source → Fin 20
  | .admitted => 0
  | .admitRefused => 1
  | .tagOverrun => 2
  | .captureDone => 3
  | .cleared => 4
  | .passed => 5
  | .visitHeld => 6
  | .bookingLapsed => 7
  | .counterReport => 8
  | .counterOverflow => 9
  | .frameEnd => 10
  | .storeDone => 11
  | .zeroRange => 12
  | .unitLost => 13
  | .unitAlarm => 14
  | .maintActivate => 15
  | .maintDeactivate => 16
  | .laneFault => 17
  | .overload => 18
  | .occupancyFull => 19

/-- R196: the bits of each word that name a position. -/
def positionBits : Vector Word 20 :=
  #v[15, 15, 15, 15, 15, 15, 31, 1, 255, 255, 1, 1, 15, 255, 255, 15, 15, 15, 15, 1]

/-- R196: the position bits of the seven level sources, in table order. -/
def levelBits : Vector Word 7 := #v[255, 255, 15, 15, 15, 15, 1]

/-- R196: the yard position of VISIT_HELD. -/
def yardBit : Nat := 4

/-- A word with the bits of a list of marks, the first at bit 0. -/
def wordOfMarks (l : List Bool) : Word := l.foldr (fun b w => (w <<< 1) ||| (if b then 1 else 0)) 0

/-- R196: latches a position of a source. -/
def Notices.latch (n : Notices) (src : Source) (bit : Nat) : Notices :=
  { n with latched := n.latched.set src.word (n.latched.get src.word ||| BitVec.twoPow 16 bit) }

/-- R196: latches a position; latching takes place whatever the mask says. -/
def State.latch (s : State) (src : Source) (bit : Nat) : State := { s with notices := s.notices.latch src bit }

/-- Whether a position is latched. -/
def Notices.isLatched (n : Notices) (src : Source) (bit : Nat) : Bool := (n.latched.get src.word).getLsbD bit

/-- R197: ATTN is asserted while at least one position is both latched and unmasked. -/
def Notices.attn (n : Notices) : Bool :=
  (List.finRange 20).any (fun k => (n.latched.get k &&& ~~~ (n.mask.get k)) ≠ 0)

/-- R13: the sum the admission law and OCCUPANCY_FULL judge is at or above the limit. -/
def State.occupancyFull (s : State) : Bool :=
  occupancyLimit s.loader.image ≤ s.vt.occupancy + s.numAdmitting

/-- R160, R166, R66, R107, R13: the level each level source's block drives now, in the 7-word form. -/
def State.drivenLevels (s : State) : Vector Word 7 :=
  #v[wordOfMarks (allUnits.map (fun u => (s.unit u).state = .lost)),
     wordOfMarks (allUnits.map (fun u => (s.unit u).state = .alarm)),
     wordOfMarks (allLanes.map (fun n => (s.unit (laneUnit n)).activate.asserted)),
     wordOfMarks (allLanes.map (fun n => (s.unit (laneUnit n)).deactivate.asserted)),
     wordOfMarks (allLanes.map (fun n => (s.lane n).state = .fault)),
     wordOfMarks (allLanes.map (fun n => (s.deck n).state = .overload)),
     wordOfMarks [s.occupancyFull]]

/-- R196: the positions of level source `k` that a change of its level from `old` to `new` latches: each rise, and
each fall where the edge selection is BOTH. -/
def edgeLatches (old new edge : Word) : Word := (new &&& ~~~ old) ||| (old &&& ~~~ new &&& edge)

/-- R196: the Notice Unit takes new live levels and latches their edges. The level sources' words are 13 to 19. -/
def Notices.takeLevels (n : Notices) (new : Vector Word 7) : Notices :=
  { n with
    levels := new
    latched := Vector.ofFn (fun k : Fin 20 =>
      if h : 13 ≤ k.val then
        let j : Fin 7 := ⟨k.val - 13, by omega⟩
        n.latched.get k ||| edgeLatches (n.levels.get j) (new.get j) (n.edges.get j)
      else n.latched.get k) }

/-- The Notice Unit follows the levels its blocks drive. -/
def State.followLevels (s : State) : State := { s with notices := s.notices.takeLevels s.drivenLevels }

/-- R199: as a RELOAD is taken the live levels follow their blocks without latching; the levels before it are kept. -/
def State.setLevelsAside (s : State) : State :=
  { s with notices := { s.notices with levels := s.drivenLevels, beforeLoad := some s.notices.levels } }

/-- R199: at the end of a load the levels kept at its RELOAD are the old levels again, to be judged with the edge
selections of the new load. -/
def State.recallLevels (s : State) : State :=
  { s with notices := { s.notices with levels := s.notices.beforeLoad.getD s.notices.levels, beforeLoad := none } }

/-- R181, R196: mask words of an image, 91 to 110; bits that name no position are ignored. -/
def imageMask (image : List Word) : Vector Word 20 :=
  Vector.ofFn (fun k : Fin 20 => image.getD (91 + k.val) 0 &&& positionBits.get k)

/-- R181, R196: edge selections of an image, words 111 to 117. -/
def imageEdges (image : List Word) : Vector Word 7 :=
  Vector.ofFn (fun k : Fin 7 => image.getD (111 + k.val) 0 &&& levelBits.get k)

/-- R197: a mask a request carries. -/
def maskOf (words : List Word) : Vector Word 20 :=
  Vector.ofFn (fun k : Fin 20 => words.getD k.val 0 &&& positionBits.get k)

/-- R197: edge selections a request carries. -/
def edgesOf (words : List Word) : Vector Word 7 :=
  Vector.ofFn (fun k : Fin 7 => words.getD k.val 0 &&& levelBits.get k)

end Sys2Proof.Machine
end

