-- ==== Sys2Proof/Machine/Records.lean ====
section
/-! DEFINITION. What claims do to a visit record: holds (R169, R171), passages (R23, R173), tickets (R7). -/

namespace Sys2Proof.Machine

namespace State

/-- R171: a reason is added to the later reasons of a held record. -/
def addLater (s : State) (slot : Nat) (v : Visit) (r : HoldReason) : State :=
  if v.reason = some r ∨ r ∈ v.later then s
  else (s.setVisit slot { v with later := v.later ++ [r] }).touch slot

/-- R169: the lane (or the yard) whose VISIT_HELD position a hold latches. -/
def heldBit (v : Visit) : Nat :=
  match v.lane with
  | some n => n.val
  | none => yardBit

/-- R169: a record as a hold claim leaves it. -/
def heldVisit (v : Visit) (r : HoldReason) : Visit :=
  { v with prior := some v.state, reason := some r, later := [], lane := none, state := .held }

/-- R169, R171: a hold claim. -/
def holdClaim (s : State) (slot : Nat) (r : HoldReason) : State :=
  match s.visit slot with
  | none => s
  | some v =>
    if v.state = .held then s.addLater slot v r
    else (((s.setVisit slot (heldVisit v r)).touch slot).latch .visitHeld (heldBit v)).followLevels

/-- R13: the occupancy count changes by a passage. -/
def addOccupancy (s : State) (d : Int) : State :=
  { s with vt := { s.vt with occupancy := (s.vt.occupancy + d).toNat } }

/-- R23: the passage of a bound record, by the lane's mode: the record and the change of the occupancy count. -/
def passedVisit (v : Visit) (mode : LaneMode) (now : Stamp) : Option (Visit × Int) :=
  let v' := { v with lane := none, stopMark := v.weighings.length }
  match mode, v.state with
  | .entry, .admitting => some ({ v' with inYard := true, state := .inYard }, 1)
  | .internal, .reweighing => some ({ v' with state := .inYard }, 0)
  | .exit, .cleared =>
    some ({ v' with inYard := false, passedAt := some now, state := if v.voidMark then .void else .done }, -1)
  | _, _ => none

/-- R23: a completed passage of a lane's bound visit reaches the Visit Table. -/
def passage (s : State) (n : Fin 4) (slot : Nat) (v : Visit) : State :=
  match passedVisit v (s.lane n).mode s.now with
  | none => s
  | some (v', d) =>
    let s := (((s.setVisit slot v').addOccupancy d).touch slot).latch .passed n.val
    (if v'.finished then s.complete slot else s).followLevels

/-- R173: what a credited passage does to a held record, by the lane's mode, and the change of the occupancy. -/
def creditedVisit (v : Visit) (mode : LaneMode) (now : Stamp) : Visit × Int :=
  let v' := { v with stopMark := v.weighings.length }
  match mode with
  | .entry => ({ v' with inYard := true, prior := if v.prior = some .admitting then some .inYard else v.prior }, 1)
  | .internal => ({ v' with prior := if v.prior = some .reweighing then some .inYard else v.prior }, 0)
  | .exit => ({ v' with inYard := false, passedAt := some now }, -1)
  | .closed => (v', 0)

/-- R173: an unattended passage is credited to a record that is still HELD. -/
def creditPassage (s : State) (n : Fin 4) (ticket : Nat) : State :=
  match s.byTicket ticket with
  | none => s
  | some (slot, v) =>
    if v.state = .held then
      let (v', d) := creditedVisit v (s.lane n).mode s.now
      let s := (s.setVisit slot v').addOccupancy d
      (((s.addLater slot v' .unattendedPassage).touch slot).latch .passed n.val).followLevels
    else s

/-- R7: the number after a ticket number. -/
def ticketAfter (t : Nat) : Nat := if t < Config.maxTicket then t + 1 else 1

/-- R7: the first number, from `t` on, that no live record holds; at most 192 records are live. -/
def freeTicket (s : State) : Nat → Nat → Nat
  | 0, t => t
  | k + 1, t => if (s.byTicket t).isSome then freeTicket s k (ticketAfter t) else t

/-- R7: the ticket the next granted admission receives. -/
def issuedTicket (s : State) : Nat := s.freeTicket Config.visitSlots s.vt.nextTicket

/-- R176: every lane in RELEASING that still watches for a record stops, as its hold ends. -/
def endTracking (s : State) (ticket : Option Nat) : State :=
  match ticket with
  | none => s
  | some t => forLanes (fun n s =>
      let l := s.lane n
      if l.state = .releasing ∧ l.heldVisit = some t then
        let b := s.barrier n
        (s.setLane n { l with heldVisit := none, display := ⟨.welcome, 0⟩ }).setBarrier n
          { b with tracking := .inactive }
      else s) s

end State

end Sys2Proof.Machine
end

