-- ==== Sys2Proof/Machine/LaneOps.lean ====
section
/-! DEFINITION. The transitions of a lane that carry no visit decision of their own: entering PASSING, RELEASING, IDLE,
FAULT and MAINTENANCE (R58 to R70), and the Visit Table's hold of a lane's visit (R62). -/

namespace Sys2Proof.Machine

/-- R62: the Lane Controller removes its bound visit, the settle and passage timers and any pending capture. -/
def Lane.unbind (l : Lane) : Lane :=
  { l with bound := none, eligible := false, settle := none, passage := none, pendingCapture := none }

/-- R63: what the display shows on entry to RELEASING. -/
def releasingDisplay (held : Option Nat) : Display :=
  match held with
  | some t => ⟨.seeOffice, t⟩
  | none => ⟨.welcome, 0⟩

namespace State

/-- The record of the visit bound to a lane. -/
def boundRecord (s : State) (n : Fin 4) : Option (Nat × Visit) :=
  match (s.lane n).bound with
  | none => none
  | some t => s.byTicket t

/-- R63: the lane leaves RELEASING for CLOSED or IDLE by its mode. -/
def leaveReleasing (s : State) (n : Fin 4) : State :=
  let l := s.lane n
  let closed := l.mode = .closed
  let s := s.setLane n { l with
    heldVisit := none
    boundTag := none
    recovery := none
    state := if closed then .closed else .idle
    display := if closed then ⟨.closed, 0⟩ else ⟨.welcome, 0⟩ }
  s.setTracking n .inactive (s.barrier n).beyondSeen

/-- R63: RELEASING ends when the barrier is DOWN and the recovery timer has expired, whichever comes second. -/
def endReleasing (s : State) (n : Fin 4) : State :=
  if (s.lane n).state = .releasing ∧ (s.barrier n).state = .down ∧ (s.lane n).recovery.expired then
    s.leaveReleasing n
  else s

/-- R63, R88: the lane enters RELEASING with or without a held visit. The BEYOND-seen mark is kept from PASSING, and
from RELEASING (LANE RESET, R65), and cleared from any other state. Where tracking ends the mark stands as it was
(log 42). -/
def enterReleasing (s : State) (n : Fin 4) (held : Option Nat) : State :=
  let l := s.lane n
  let keep := l.state = .passing ∨ l.state = .releasing
  let s := s.setLane n { l.unbind with
    state := .releasing
    heldVisit := held
    recovery := Timer.load (s.frames .recovery)
    display := releasingDisplay held }
  let s := s.orderBarrier n .lower
  let s := s.setTracking n (if held.isSome then .heldVisit else .inactive)
    (decide keep && (s.barrier n).beyondSeen)
  s.followLevels.endReleasing n

/-- R66: the lane enters FAULT; a bound visit has been held before. -/
def enterFault (s : State) (n : Fin 4) : State :=
  let l := s.lane n
  let s := s.setLane n { l.unbind with
    state := .fault
    heldVisit := none
    boundTag := none
    recovery := none
    buffer := []
    display := ⟨.seeOffice, 0⟩ }
  let s := s.orderBarrier n .lower
  (s.setTracking n .inactive (s.barrier n).beyondSeen).followLevels

/-- R68: the lane enters MAINTENANCE; a bound visit has been held before. The barrier order stands. -/
def enterMaintenance (s : State) (n : Fin 4) : State :=
  let l := s.lane n
  let s := s.setLane n { l.unbind with
    state := .maintenance
    heldVisit := none
    boundTag := none
    recovery := none
    buffer := []
    display := ⟨.closed, 0⟩ }
  (s.setTracking n .inactive (s.barrier n).beyondSeen).followLevels

/-- R60, R85: the lane enters PASSING. -/
def enterPassing (s : State) (n : Fin 4) : State :=
  let l := s.lane n
  let s := s.setLane n { l with
    state := .passing
    eligible := false
    settle := none
    passage := some (s.frames .passage)
    pendingCapture := none
    display := ⟨if l.mode = .exit then .ticket else .proceed, l.bound.getD 0⟩ }
  let s := s.orderBarrier n .raise
  s.setTracking n .boundVisit false

/-- R60: the Visit Table reports the lane's bound visit eligible. -/
def reportEligible (s : State) (n : Fin 4) : State :=
  match (s.lane n).state with
  | .bound => s.enterPassing n
  | .settling => s.setLane n { s.lane n with eligible := true }
  | .closed | .idle | .passing | .releasing | .maintenance | .fault => s

/-- R62, R169: the Visit Table holds the lane's bound visit; the lane's own change follows. -/
def holdBound (s : State) (n : Fin 4) (r : HoldReason) : State :=
  match s.boundRecord n with
  | none => s
  | some (slot, _) => s.holdClaim slot r

/-- R62: the lane's bound visit is held and the lane enters RELEASING with it as its held visit. No capture runs. -/
def holdToReleasing (s : State) (n : Fin 4) (r : HoldReason) : State :=
  match (s.lane n).bound with
  | none => s
  | some t => (s.holdBound n r).enterReleasing n (some t)

/-- R53: the Lane Controller takes a granted bind. The Capture Engine's failure count becomes 0 (R111). -/
def bindGrant (s : State) (n : Fin 4) (ticket : Nat) (tag : Tag) (eligible : Bool) : State :=
  let l := s.lane n
  let s := s.setLane n { l with
    bound := some ticket
    boundTag := some tag
    eligible := eligible
    settle := some (s.frames .settle)
    cycle := Timer.load (s.frames .cycle)
    display := ⟨.weighing, ticket⟩
    state := .settling }
  s.setEngine n { s.engine n with failures := 0 }

end State

end Sys2Proof.Machine
end

