-- ==== Sys2Proof/Machine/Captures.lean ====
section
/-! DEFINITION. The Capture Engine (R111 to R133), the weighing entry it hands on (R19, R128) and the clearance an EXIT
entry starts (R21, R22). -/

namespace Sys2Proof.Machine

/-- R113: the role a visit's state gives. -/
def roleOf : VisitState → Option Role
  | .admitting => some .entry
  | .reweighing => some .reweigh
  | .exiting => some .exit
  | .booked | .inYard | .cleared | .done | .held | .void => none

/-! ### Clearance (R21, R22) -/

namespace State

/-- R21: the division of a deck a weighing was taken on, where the deck has one now. -/
def weighingDivision (s : State) (w : Weighing) : Option Nat :=
  match w.deck with
  | none => none
  | some d => (s.deck d).params.map (·.division)

/-- R21: the division a difference is judged by: that of the deck of the later weighing, or of the earlier one where
the later is a STORED_TARE entry. Where that deck has no division, free value `k` of this clearance (log 12). -/
def netDivision (s : State) (earlier later : Weighing) (k : Nat) : Nat :=
  (s.weighingDivision (if later.role = .storedTare then earlier else later)).getD
    (Config.missingDivision (s.free + k))

end State

/-- R21: a difference as a net: small negative differences are 0, larger ones give no net. -/
def netOf (diff : Int) (division : Nat) : Option Int :=
  if 0 ≤ diff then some diff else if -(division : Int) ≤ diff then some 0 else none

namespace State

/-- R21: the nets of the intervals between consecutive counted weighings, earlier weight less the later. -/
def intervalNets (s : State) : List Weighing → Nat → List (Option Int)
  | a :: b :: rest, k => netOf (a.weight - b.weight) (s.netDivision a b k) :: intervalNets s (b :: rest) (k + 1)
  | _, _ => []

/-- R21: the one net of a LOAD record, the last weight less the first. -/
def loadNet (s : State) (ws : List Weighing) : List (Option Int) :=
  match ws.head?, ws.getLast? with
  | some a, some b => [netOf (b.weight - a.weight) (s.netDivision a b 0)]
  | _, _ => []

/-- R21: the nets of a record in the order of its intervals; `none` when one lies below −1 division, or when fewer
than two weighings are counted. -/
def nets (s : State) (v : Visit) : Option (List Int) :=
  let ws := v.countedWeighings
  if ws.length < 2 then none
  else ((match v.kind with
    | .tip => s.intervalNets ws 0
    | .load => s.loadNet ws).mapM id)

/-- R21 step 1: the tip list with an entry for each of the intervals 1 to `n`: one that has none takes the primary
category as a DEFAULT entry. Entries beyond the last interval stand. -/
def filledTips (tips : List Tip) (primary n : Nat) : List Tip :=
  (List.range' 1 n).map (fun k => (tips.find? (fun t => t.interval = k)).getD ⟨k, primary, .default, none⟩)
    ++ tips.filter (fun t => n < t.interval)

/-- R21 step 3, R22 step 1: the filled tip list with its nets: interval k takes net k, and a tip beyond the last
interval the net 0. -/
def clearedTips (tips : List Tip) (primary : Nat) (nets : List Int) : List Tip :=
  (filledTips tips primary nets.length).map (fun t => { t with net := some (nets.getD (t.interval - 1) 0) })

/-- R22: the ticket legal mark: a LOAD record uses its first and last counted weighings, a TIP record all. -/
def ticketLegal (v : Visit) : Bool :=
  let ws := v.countedWeighings
  match v.kind with
  | .tip => ws.all (·.legal)
  | .load => ws.head?.all (·.legal) && ws.getLast?.all (·.legal)

/-- R22, R47: the clearance claim on the permit: the debit, stopping at −2,000,000,000, and the reservation. -/
def debitPermit (s : State) (number : Nat) (net reservation : Int) : State :=
  match s.permits.get number with
  | none => s
  | some p => { s with permits := s.permits.put number { p with
      balance := max (-Config.maxBalance) (p.balance - net)
      reserved := p.reserved - reservation } }

/-- R36: the refresh claim: a legal EXIT weight replaces the stored tare and the tare day; the validity stays. -/
def refreshTare (s : State) (v : Visit) : State :=
  match v.kind, s.vehicles.get v.vehicle, v.countedWeighings.getLast? with
  | .tip, some veh, some w =>
    if veh.refresh ∧ w.role = .exit ∧ w.legal then
      let refreshed := { veh with tare := veh.tare.map (fun t => { t with kg := w.weight, day := s.clock.day }) }
      { s with vehicles := s.vehicles.put v.vehicle refreshed }
    else s
  | _, _, _ => s

/-- R39, R21: the primary category of the record's permit as it stands. -/
def primaryCategory (s : State) (v : Visit) : Nat :=
  match v.permit.bind (fun n => s.permits.get n) with
  | some p => p.primary
  | none => 0

/-- R22: the record as a completed clearance leaves it. -/
def clearedVisit (s : State) (v : Visit) (nets : List Int) : Visit :=
  { v with
    tips := if v.kind = .tip then clearedTips v.tips (s.primaryCategory v) nets else v.tips
    netTotal := some nets.sum
    legal := some (ticketLegal v)
    reservation := 0
    clearedAt := some s.now
    state := .cleared }

/-- R21 step 1: the record of a clearance that computes its nets and does not complete: a TIP record keeps the entries
its intervals have received, without nets (log 38). -/
def filledVisit (s : State) (v : Visit) : Visit :=
  { v with tips :=
      if v.kind = .tip then filledTips v.tips (s.primaryCategory v) (v.countedWeighings.length - 1) else v.tips }

/-- R21, R22: clearance of the record in a slot, bound to lane `n` in EXITING. -/
def clearance (s : State) (n : Fin 4) (slot : Nat) : State :=
  match s.visit slot with
  | none => s
  | some v =>
    let cleared := s.nets v
    let v' := s.clearedVisit v (cleared.getD [])
    let s := { s with free := s.free + v.countedWeighings.length }
    match cleared with
    | none => (s.setVisit slot (s.filledVisit v)).holdToReleasing n .negativeNet
    | some nets =>
      let s := match v.kind, v.permit with
        | .tip, some number => s.debitPermit number nets.sum v.reservation
        | _, _ => s
      let s := (s.refreshTare v).setVisit slot v'
      ((s.touch slot).latch .cleared n.val).reportEligible n

/-! ### The weighing entry (R19, R128) -/

end State

/-- R128: the entry at place `k` of a record's list is withdrawn by a new VALID COMPLETE entry of a role. -/
def withdrawnBy (v : Visit) (role : Role) (k : Nat) (w : Weighing) : Bool :=
  v.stopMark ≤ k && w.standing = .valid && (w.role = role || (role = .exit && w.role = .storedTare))

/-- R128: the list after the withdrawals of a new VALID COMPLETE entry of a role. -/
def withdrawEarlier (v : Visit) (role : Role) : List Weighing :=
  v.weighings.zipIdx.map (fun (w, k) => if withdrawnBy v role k w then { w with standing := .withdrawn } else w)

namespace State

/-- R19: the effect of a new VALID COMPLETE entry on the record and its lane. -/
def entryEffect (s : State) (n : Fin 4) (slot : Nat) (role : Role) : State :=
  match role with
  | .entry | .reweigh => s.reportEligible n
  | .exit => s.clearance n slot
  | .storedTare => s

/-- R19: a handed weighing reaches the Visit Table. The binding stands while the record is bound to the lane and in
the state that gave the role. -/
def weighingArrives (s : State) (n : Fin 4) (ticket : Nat) (w : Weighing) : State :=
  match s.byTicket ticket with
  | none => s
  | some (slot, v) =>
    if v.listFull then s
    else if v.lane = some n ∧ roleOf v.state = some w.role then
      if w.result = .complete then
        ((s.setVisit slot { v with weighings := withdrawEarlier v w.role ++ [{ w with standing := .valid }] }).touch
          slot).entryEffect n slot w.role
      else (s.setVisit slot { v with weighings := v.weighings ++ [{ w with standing := .valid }] }).touch slot
    else (s.setVisit slot { v with weighings := v.weighings ++ [{ w with standing := .withdrawn }] }).touch slot

/-! ### Outcomes (R126, R127) -/

/-- R127: the legal mark of a COMPLETE weighing on deck `n`, all of whose readings had their zero in range. -/
def legalMark (s : State) (n : Fin 4) (inRange : Bool) (weight : Int) : Bool :=
  let d := s.deck n
  d.certified && inRange && (match d.params with
    | none => false
    | some p => ((p.minWeigh * p.division : Nat) : Int) ≤ weight)

end State

/-- What a COMPLETE or PARTIAL outcome carries: the weight, the group list of an AXLE_SUM weighing, and whether the
zero was in range in every reading taken. -/
structure Gathered where
  weight  : Int
  groups  : Option (List Int)
  inRange : Bool
  deriving DecidableEq, Repr

/-- R120: the sum of the settled groups. -/
def Capture.gathered (c : Capture) : Gathered :=
  ⟨(c.groups.map (·.weight)).sum, some (c.groups.map (·.weight)), c.groups.all (·.inRange)⟩

namespace State

/-- R126 steps 2 to 4 for a VISIT capture that ended COMPLETE or PARTIAL. -/
def handOn (s : State) (n : Fin 4) (c : Capture) (ticket : Nat) (role : Role) (result : EntryResult) (g : Gathered)
    (legal : Bool) : State :=
  s.weighingArrives n ticket
    { role := role, deck := some n, method := some c.method, weight := g.weight, groups := g.groups,
      result := result, standing := .valid, legal := legal, time := s.now }

/-- R126 step 3: a FAILED outcome of a VISIT capture is counted; the third in the binding holds the visit. -/
def countFailure (s : State) (n : Fin 4) : State :=
  let e := s.engine n
  let f := min 3 (e.failures + 1)
  let s := s.setEngine n { e with failures := f }
  if f = 3 then s.holdToReleasing n .captureFailed else s

/-- R126 step 5: the engine writes the last outcome and latches CAPTURE_DONE. -/
def recordOutcome (s : State) (n : Fin 4) (o : LastOutcome) : State :=
  (s.setEngine n { s.engine n with lastOutcome := some o }).latch .captureDone n.val

/-- R126: a capture that has ended, COMPLETE (`part` clear) or PARTIAL (`part` set), is settled. -/
def settleGathered (s : State) (n : Fin 4) (c : Capture) (isPart : Bool) (g : Gathered) : State :=
  let s := s.setEngine n { s.engine n with run := none }
  let legal := !isPart && s.legalMark n g.inRange g.weight
  let result := if isPart then CaptureResult.part else .complete
  let s := match c.purpose with
    | .visit t role => s.handOn n c t role (if isPart then .part else .complete) g legal
    | .test => s.setLane n { s.lane n with
        testResult := some ⟨result, c.method, some g.weight, g.groups, some legal, s.now⟩ }
  s.recordOutcome n ⟨result, c.purpose, c.method, some g.weight, some legal⟩

/-- R126: a capture that has FAILED is settled. Its last outcome and, for a test weighing, its test result have no
weight and no legal mark (log 22). -/
def settleFailed (s : State) (n : Fin 4) (c : Capture) (r : FailReason) : State :=
  let s := s.setEngine n { s.engine n with run := none }
  let s := match c.purpose with
    | .visit _ _ => s.countFailure n
    | .test => s.setLane n { s.lane n with
        testResult := some ⟨.failed r, c.method, none, none, none, s.now⟩ }
  s.recordOutcome n ⟨.failed r, c.purpose, c.method, none, none⟩

/-- R112: a capture ends unreported. -/
def endUnreported (s : State) (n : Fin 4) : State := s.setEngine n { s.engine n with run := none }

end State

/-- R121, R124, R125: groups have settled, so that an early end is PARTIAL (AXLE_SUM only). -/
def Capture.hasGroups (c : Capture) : Bool := c.method = .axleSum && !c.groups.isEmpty

namespace State

/-- R125: the lane aborts its running capture. -/
def abortCapture (s : State) (n : Fin 4) : State :=
  match (s.engine n).run with
  | none => s
  | some c =>
    if c.hasGroups then s.settleGathered n c true c.gathered
    else match c.purpose with
      | .visit _ _ => s.endUnreported n
      | .test => s.settleFailed n c .aborted

/-- R124: a new CAPTURE truncates the running one. -/
def truncateCapture (s : State) (n : Fin 4) : State :=
  match (s.engine n).run with
  | none => s
  | some c => if c.hasGroups then s.settleGathered n c true c.gathered else s.endUnreported n

/-- R62, R125: the bound visit is held with a reason, then the running capture is aborted. The lane's own change of
state follows. -/
def holdAndAbort (s : State) (n : Fin 4) (r : HoldReason) : State := (s.holdBound n r).abortCapture n

/-- R120: the outcome of a burst that has ended, from the groups gathered. -/
def endBurst (s : State) (n : Fin 4) (c : Capture) : State :=
  if c.groups.isEmpty then s.settleFailed n c .noStable else s.settleGathered n c c.missed c.gathered

end State

/-- R120: a recording or a missed group ends the burst: fixed burst complete, or eight groups. -/
def Capture.burstEnds (c : Capture) : Bool :=
  8 ≤ c.counted || (match c.burst with
    | .open => false
    | .fixed k => k ≤ c.counted)

/-- R119: the first STABLE reading of a group is recorded. -/
def Capture.recordGroup (c : Capture) (weight : Int) (inRange : Bool) : Capture :=
  { c with phase := .onGroup true, groups := c.groups ++ [⟨weight, inRange⟩], counted := c.counted + 1 }

/-- R119: a group leaves the deck without a STABLE reading. -/
def Capture.missGroup (c : Capture) : Capture :=
  { c with phase := .grouping, counted := c.counted + 1, missed := true }

namespace State

/-- The running capture goes on as `c`. -/
def goOn (s : State) (n : Fin 4) (c : Capture) : State := s.setEngine n { s.engine n with run := some c }

/-- R119, R120: after a recording or a missed group the end of the burst is judged. -/
def judgeBurst (s : State) (n : Fin 4) (c : Capture) : State :=
  if c.burstEnds then (s.goOn n c).endBurst n c else s.goOn n c

/-- R119: a reading of an AXLE_SUM capture. -/
def axleReading (s : State) (n : Fin 4) (c : Capture) (st : DeckState) (weight : Int) (inRange : Bool) : State :=
  match c.phase, st with
  | .grouping, .empty =>
    if c.burst = .open ∧ c.beyondSeen ∧ 1 ≤ c.counted then s.endBurst n c else s
  | .grouping, .motion => s.goOn n { c with phase := .onGroup false }
  | .grouping, .stable => s.judgeBurst n (c.recordGroup weight inRange)
  | .onGroup false, .stable => s.judgeBurst n (c.recordGroup weight inRange)
  | .onGroup false, .empty => s.judgeBurst n c.missGroup
  | .onGroup true, .empty => s.goOn n { c with phase := .grouping }
  | _, _ => s

/-- R101, R118, R119, R122: the deck hands its engine a reading (or, in NO_DATA, a state report). -/
def captureReading (s : State) (n : Fin 4) (st : DeckState) (weight : Int) (inRange : Bool) : State :=
  match (s.engine n).run with
  | none => s
  | some c =>
    match st with
    | .overload => s.settleFailed n c .overload
    | .noData => s.settleFailed n c .noData
    | .empty | .motion | .stable =>
      match c.method with
      | .axleSum => s.axleReading n c st weight inRange
      | .whole =>
        if c.phase = .measuring ∧ st = .stable then s.settleGathered n c false ⟨weight, none, inRange⟩ else s

end State

/-- R117: the image shows the vehicle wholly on the deck. -/
def positioned (r : LaneReport) : Bool := r.deck && !r.approach && !r.gate

/-- R117, R119: a running capture takes a loop image. -/
def Capture.takeImage (c : Capture) (r : LaneReport) : Capture :=
  match c.method with
  | .whole => { c with phase := if positioned r then .measuring else .waiting }
  | .axleSum => { c with beyondSeen := c.beyondSeen || r.beyond }

namespace State

/-- R117, R119: the engine takes the image its lane received. -/
def captureImage (s : State) (n : Fin 4) (r : LaneReport) : State :=
  match (s.engine n).run with
  | none => s
  | some c => s.goOn n (c.takeImage r)

/-- R116: the burst length: the request's, or OPEN for a test weighing, or the vehicle's axle groups. -/
def burstLength (s : State) (given : Option Burst) (purpose : Purpose) : Burst :=
  match given, purpose with
  | some b, _ => b
  | none, .test => .open
  | none, .visit t _ =>
    match s.byTicket t with
    | none => .open
    | some (_, v) =>
      match s.vehicles.get v.vehicle with
      | none => .open
      | some veh => if veh.axleGroups = 0 then .open else .fixed veh.axleGroups

/-- R113: the method, from the deck's method. -/
def captureMethod (s : State) (n : Fin 4) : Method := if (s.deck n).method = .axle then .axleSum else .whole

/-- R115: a capture as it starts. -/
def newCapture (s : State) (n : Fin 4) (purpose : Purpose) (given : Option Burst) : Capture :=
  let m := s.captureMethod n
  { phase := if m = .whole then .waiting else .grouping
    purpose := purpose
    method := m
    burst := s.burstLength given purpose
    groups := []
    counted := 0
    missed := false
    beyondSeen := false
    timer := some (s.frames .captureLimit) }

/-- R115: a capture starts, and judges the deck and the present image at once. -/
def startCapture (s : State) (n : Fin 4) (purpose : Purpose) (given : Option Burst) : State :=
  let c := s.newCapture n purpose given
  let s := s.goOn n c
  match (s.deck n).state with
  | .overload => s.settleFailed n c .overload
  | .noData => s.settleFailed n c .noData
  | .empty | .motion | .stable => s.captureImage n (s.barrier n).report

/-- R113, R115: a VISIT capture starts for the lane's bound visit, in the role its state gives. -/
def startVisitCapture (s : State) (n : Fin 4) (given : Option Burst) : State :=
  match s.boundRecord n with
  | none => s
  | some (_, v) =>
    match roleOf v.state, v.ticket with
    | some role, some t => s.startCapture n (.visit t role) given
    | _, _ => s

end State

end Sys2Proof.Machine
end

