-- ==== Sys2Proof/Machine/Binding.lean ====
section
/-! DEFINITION. Bind claims: the admission checks and grant (R8 to R13), the binds at EXIT and INTERNAL lanes (R18,
R24), and the tries of a lane's tag buffer (R53 to R57). -/

namespace Sys2Proof.Machine

/-- R8: the candidate of an admission: its slot, its record (one to be created when `isNew`) and the vehicle's rated
payload. -/
structure Candidate where
  slot    : Nat
  record  : Visit
  isNew   : Bool
  payload : Int
  deriving DecidableEq, Repr

/-- A record as it stands when it is created (R10, R14), in BOOKED and with no ticket. -/
def newVisit (kind : VisitKind) (tag : Tag) (vehicle : Nat) (permit : Option Nat) (useTare : Bool)
    (bookingDay : Option Nat) : Visit where
  ticket := none
  kind := kind
  state := .booked
  prior := none
  reason := none
  later := []
  tag := tag
  vehicle := vehicle
  permit := permit
  reservation := 0
  inYard := false
  voidMark := false
  useTare := useTare
  lane := none
  bookingDay := bookingDay
  weighings := []
  tips := []
  netTotal := none
  legal := none
  admittedAt := none
  clearedAt := none
  passedAt := none
  stopMark := 0
  bindMark := 0

namespace State

/-- R53: the lane's own two checks on a bind claim. -/
def laneRefusal (s : State) (n : Fin 4) : Option Status :=
  if (s.lane n).state ≠ .idle then some .laneBusy
  else if (s.lane n).cycle.expired then none else some .tooSoon

/-! ### Admission -/

/-- R8, checks 5 and 6 of R9: the BOOKED record of the tag, or a walk-in record where the lane allows it. -/
def candidate (s : State) (n : Fin 4) (index : Nat) (veh : Vehicle) : Except Status Candidate :=
  match s.byTagBooked veh.tag with
  | some (slot, v) => .ok ⟨slot, v, false, veh.payload⟩
  | none =>
    if (s.lane n).walkIn then
      match s.vt.records.lowestFree Config.visitSlots with
      | none => .error .tableFull
      | some slot =>
        .ok ⟨slot, newVisit .tip veh.tag index veh.defaultPermit (s.lane n).walkTare none, true, veh.payload⟩
    else .error .noBooking

/-- Checks 7 and 8 of R9. -/
def permitRefusal (s : State) (c : Candidate) : Option Status :=
  match c.record.kind with
  | .load => none
  | .tip =>
    match c.record.permit.bind (fun k => s.permits.get k) with
    | none => some .permitInactive
    | some p =>
      if p.state ≠ .active then some .permitInactive
      else if p.balance - p.reserved < c.payload then some .noBalance else none

/-- R9: the admission checks, in order. `tag` is absent for a handle that names no BOOKED record (R8). -/
def admission (s : State) (n : Fin 4) (tag : Option Tag) : Except Status Candidate :=
  match s.laneRefusal n with
  | some r => .error r
  | none =>
    if !s.clock.isSet then .error .clockUnset
    else match tag.bind s.vehicleByTag with
    | none => .error .notFound
    | some (index, veh) =>
      if veh.banned then .error .banned
      else if (s.byTagInProgress veh.tag).isSome then .error .inYard
      else match s.candidate n index veh with
      | .error r => .error r
      | .ok c =>
        match s.permitRefusal c with
        | some r => .error r
        | none => if s.occupancyFull then .error .occupancyLimit else .ok c

/-- R10: the record a granted admission leaves. -/
def admittedVisit (s : State) (n : Fin 4) (c : Candidate) (ticket : Nat) : Visit :=
  { c.record with
    ticket := some ticket
    state := .admitting
    lane := some n
    bookingDay := none
    reservation := if c.record.kind = .tip then c.payload else 0
    admittedAt := some s.now
    bindMark := c.record.weighings.length }

/-- R10, R12: the counts and the reserved amount a granted admission moves. -/
def admissionClaims (s : State) (c : Candidate) : State :=
  let s := if c.isNew then s.addLive c.record 1 else s
  match c.record.kind, c.record.permit with
  | .tip, some number => s.addReserved number c.payload
  | _, _ => s

/-- R10: an admission is granted. -/
def grantAdmission (s : State) (n : Fin 4) (c : Candidate) : State :=
  let ticket := s.issuedTicket
  let v := s.admittedVisit n c ticket
  let s := s.admissionClaims c
  let s := { s with vt := { s.vt with nextTicket := ticketAfter ticket } }
  let s := ((s.setVisit c.slot v).touch c.slot).latch .admitted n.val
  (s.bindGrant n ticket v.tag false).followLevels

/-- R11, R57: what a refusal other than LANE_BUSY and TOO_SOON writes at the lane. -/
def refuseAtLane (s : State) (n : Fin 4) (st : Status) (tag : Tag) : State :=
  (s.setLane n { s.lane n with lastRefusal := some (st, tag), display := ⟨.seeOffice, 0⟩ }).latch .admitRefused n.val

/-! ### Binds at EXIT and INTERNAL lanes -/

/-- R18: the record is bound to the lane in a state, and the lane takes the grant. -/
def bindRecord (s : State) (n : Fin 4) (slot : Nat) (v : Visit) (st : VisitState) (eligible : Bool) : State :=
  let v := { v with state := st, lane := some n, bindMark := v.weighings.length }
  (((s.setVisit slot v).touch slot).bindGrant n (v.ticket.getD 0) v.tag eligible).followLevels

/-- R18, R35: the stored tare an EXIT bind uses, if it uses one. -/
def usableTare (s : State) (v : Visit) : Option Tare :=
  if v.kind = .tip ∧ v.useTare then
    match (s.vehicles.get v.vehicle).bind (·.tare) with
    | none => none
    | some t => if s.clock.day ≤ t.day + t.validity then some t else none
  else none

/-- R18: a STORED_TARE entry. -/
def tareEntry (s : State) (t : Tare) : Weighing where
  role := .storedTare
  deck := none
  method := none
  weight := t.kg
  groups := none
  result := .complete
  standing := .valid
  legal := true
  time := s.now

/-- R18: an IN_YARD record is bound at an EXIT lane: to EXITING, or cleared at once by its stored tare. -/
def bindExit (s : State) (n : Fin 4) (slot : Nat) (v : Visit) : State :=
  match s.usableTare v with
  | none => s.bindRecord n slot v .exiting false
  | some t =>
    let s := s.bindRecord n slot v .exiting false
    if v.listFull then s.holdToReleasing n .listFull
    else match s.visit slot with
      | none => s
      | some b =>
        let b := { b with weighings := withdrawEarlier b .storedTare ++ [s.tareEntry t] }
        (s.setVisit slot b).clearance n slot

/-- R18, R24, R53: a bind claim at an EXIT or INTERNAL lane for the record found. -/
def bindClaim (s : State) (n : Fin 4) (found : Option (Nat × Visit)) : Except Status State :=
  match s.laneRefusal n, found with
  | some r, _ => .error r
  | none, none => .error .notFound
  | none, some (slot, v) =>
    match (s.lane n).mode, v.state with
    | .internal, .inYard => .ok (s.bindRecord n slot v .reweighing false)
    | .exit, .inYard => .ok (s.bindExit n slot v)
    | .exit, .void => if v.inYard then .ok (s.bindRecord n slot v .cleared true) else .error .wrongState
    | _, _ => .error .wrongState

/-! ### The tag buffer -/

/-- R53: the bind claim a tag entry makes, by the lane's mode. -/
def tagClaim (s : State) (n : Fin 4) (tag : Tag) : Except Status State :=
  match (s.lane n).mode with
  | .entry =>
    match s.admission n (some tag) with
    | .error r => .error r
    | .ok c => .ok (s.grantAdmission n c)
  | .closed | .exit | .internal => s.bindClaim n (s.byTagInProgress tag)

/-- The front entry leaves the buffer. -/
def dropFront (s : State) (n : Fin 4) : State :=
  s.setLane n { s.lane n with buffer := (s.lane n).buffer.drop 1 }

/-- R56, R57: the lane tries its buffer. Each round takes one entry off it or ends the try, so that a bound of one
more than its length is never reached. A claim granted to an entry may be held at once and leave the lane IDLE again
(LIST_FULL or NEGATIVE_NET, recovery 0, barrier DOWN): the next entry is then tried with no host claim taken before it
(the model's choice, log 31). -/
def tryRounds : Nat → Fin 4 → State → State
  | 0, _, s => s
  | k + 1, n, s =>
    match (s.lane n).buffer with
    | [] => s
    | e :: _ =>
      if s.tagWindow ≤ e.age then tryRounds k n (s.dropFront n)
      else match (s.dropFront n).tagClaim n e.tag with
        | .ok s' => if (s'.lane n).state = .idle then tryRounds k n s' else s'
        | .error r =>
          if r = .laneBusy ∨ r = .tooSoon then s
          else tryRounds k n ((s.dropFront n).refuseAtLane n r e.tag)

/-- R56: one try of the lane's buffer, which a lane with auto-admit set makes. -/
def makeTry (s : State) (n : Fin 4) : State :=
  if (s.lane n).autoTake then tryRounds ((s.lane n).buffer.length + 1) n s else s

/-- R56: what happens at an IDLE lane has it try its buffer. -/
def tryBuffer (s : State) (n : Fin 4) : State := if (s.lane n).state = .idle then s.makeTry n else s

end State

end Sys2Proof.Machine
end

