-- ==== Sys2Proof/Machine/DeckOps.lean ====
section
/-! DEFINITION. The Deck Processor: parameters and marks from an image (R92, R93), weights (R95), overload, window and
state of a sample (R96 to R98), zero tracking (R102 to R104), and the entry to NO_DATA (R99, R100). -/

namespace Sys2Proof.Machine

/-! ### Parameters (R92, R93, R181) -/

/-- R181: the first of a deck's nine words. -/
def deckBase (n : Fin 4) : Nat := 2 + 9 * n.val

/-- R181: method codes. -/
def DeckMethod.ofCode? : Nat → Option DeckMethod
  | 0 => some .none
  | 1 => some .whole
  | 2 => some .axle
  | _ => none

/-- R91: the parameters a deck's words spell. -/
def imageParams (image : List Word) (n : Fin 4) : DeckParams :=
  let b := deckBase n
  { zero := imageDouble image (b + 1)
    span := imageDouble image (b + 3)
    capacity := imageDouble image (b + 5)
    division := imageWord image (b + 7)
    minWeigh := imageWord image (b + 8) }

/-- R91: parameters within their ranges. -/
def DeckParams.ok (p : DeckParams) : Bool :=
  decide (p.zero ≤ 16777215) && decide (1 ≤ p.span) && decide (p.span ≤ 1048576)
    && decide (500 ≤ p.capacity) && decide (p.capacity ≤ 100000)
    && decide (p.division ∈ [5, 10, 20, 50]) && decide (20 ≤ p.minWeigh) && decide (p.minWeigh ≤ 2000)

/-- R92: the method and the parameters a deck takes at a load; parameters present means enabled. -/
def loadedDeck (status : LoadStatus) (image : List Word) (n : Fin 4) : DeckMethod × Option DeckParams :=
  match status, DeckMethod.ofCode? (imageWord image (deckBase n)) with
  | .loaded, some .whole =>
    if (imageParams image n).ok then (.whole, some (imageParams image n)) else (.none, none)
  | .loaded, some .axle =>
    if (imageParams image n).ok then (.axle, some (imageParams image n)) else (.none, none)
  | _, _ => (.none, none)

/-- R92, R93, R110: a deck record after a load; every one of its nine words must lie in the certified region. -/
def deckFromImage (status : LoadStatus) (image : List Word) (n : Fin 4) : Deck :=
  let (method, params) := loadedDeck status image n
  { Deck.reset with
    method := method
    params := params
    certified := params.isSome && decide (deckBase n + 8 ≤ min 255 (imageWord image 1))
    workingZero := match params with
      | none => 0
      | some p => p.zero }

/-! ### Weight (R95, R102) -/

/-- R95: the kg reading of a raw count. -/
def kgReading (raw workingZero span : Nat) : Int := roundDiv (((raw : Int) - workingZero) * span) 65536

/-- R95: the weight of a kg reading. -/
def weightOf (kg : Int) (division : Nat) : Int := roundDiv kg division * division

/-- R102: the zero offset of a working zero. -/
def DeckParams.zeroOffset (p : DeckParams) (workingZero : Nat) : Int := kgReading workingZero p.zero p.span

/-- R102: the zero range: 2 % of the capacity, the fraction dropped. -/
def DeckParams.zeroRange (p : DeckParams) : Int := ((p.capacity / 50 : Nat) : Int)

/-- R102: a working zero is within the zero range. -/
def DeckParams.inZeroRange (p : DeckParams) (workingZero : Nat) : Bool :=
  decide ((p.zeroOffset workingZero).natAbs ≤ p.zeroRange.toNat)

/-- R96: an overload sample. -/
def DeckParams.overloads (p : DeckParams) (overRange : Bool) (weight : Int) : Bool :=
  overRange || decide (((p.capacity + 9 * p.division : Nat) : Int) < weight)

/-! ### The stability window (R97) -/

/-- R97: the settled mark as judged at a sample. -/
def Window.judge (w : Window) (dwell : Nat) : Window :=
  { w with settled := decide (dwell ≤ w.age) && decide (4 ≤ w.count) }

/-- R97: a weight is placed in the window: it starts, joins or restarts it. -/
def placeInWindow (w : Option Window) (weight : Int) (division dwell : Nat) : Window :=
  match w with
  | none => Window.judge ⟨weight, 0, 1, false⟩ dwell
  | some w =>
    if (weight - w.ref).natAbs ≤ division then
      Window.judge { w with count := min Config.countStop (w.count + 1) } dwell
    else Window.judge ⟨weight, 0, 1, false⟩ dwell

/-- R98: the deck state from the weight and the settled mark. -/
def deckStateOf (weight : Int) (division : Nat) (settled : Bool) : DeckState :=
  if weight.natAbs ≤ 5 * division then .empty else if settled then .stable else .motion

/-- R98, R105: the deck is empty and stable. -/
def Deck.emptyAndStable (d : Deck) : Bool :=
  decide (d.state = .empty) && (match d.window with
    | none => false
    | some w => w.settled)

/-- R94 step 1: the deck record with the sample written. -/
def Deck.writeSample (d : Deck) (p : DeckParams) (raw : Nat) (overRange : Bool) (frame : Nat) : Deck :=
  let kg := kgReading raw d.workingZero p.span
  { d with noData := 0, sampled := true, last := some ⟨raw, overRange, frame, kg, weightOf kg p.division⟩ }

/-- R103: a tracking step may act on the sample. -/
def Deck.tracks (d : Deck) (p : DeckParams) (kg : Int) : Bool :=
  d.emptyAndStable && decide (2 * kg.natAbs ≤ p.division) && d.tracking.expired

/-- R94 steps 4 and 5: the window and the state of a sample that is no overload sample. -/
def Deck.settle (d : Deck) (p : DeckParams) (weight : Int) (dwell : Nat) : Deck :=
  let w := placeInWindow d.window weight p.division dwell
  { d with window := some w, state := deckStateOf weight p.division w.settled }

namespace State

/-- R103, R104: the tracking step, and the judgement of the new working zero. -/
def trackZero (s : State) (n : Fin 4) (p : DeckParams) (raw : Nat) : State :=
  let d := s.deck n
  let s' := s.setDeck n { d with
    workingZero := raw
    tracking := Timer.load (s.frames .dwell)
    zeroFault := d.zeroFault || !p.inZeroRange raw }
  if !d.zeroFault && !p.inZeroRange raw then s'.latch .zeroRange n.val else s'

/-- R94, R103: a settled deck takes a zero tracking step where the rule allows one. -/
def trackIfDue (s : State) (n : Fin 4) (p : DeckParams) (raw : Nat) (kg : Int) : State :=
  if (s.deck n).tracks p kg then s.trackZero n p raw else s

/-- R94: a sample is taken by an enabled deck. -/
def takeSample (s : State) (n : Fin 4) (p : DeckParams) (raw : Nat) (overRange : Bool) (frame : Nat) : State :=
  let kg := kgReading raw (s.deck n).workingZero p.span
  let weight := weightOf kg p.division
  let d := (s.deck n).writeSample p raw overRange frame
  if p.overloads overRange weight then
    ((s.setDeck n { d with window := none, state := .overload }).followLevels).captureReading n .overload weight
      (!d.zeroFault)
  else
    let s := ((s.setDeck n (d.settle p weight (s.frames .dwell))).trackIfDue n p raw kg).followLevels
    s.captureReading n (s.deck n).state weight (!(s.deck n).zeroFault)

/-- R99, R100: the deck enters NO_DATA; its engine is told. -/
def enterNoData (s : State) (n : Fin 4) : State :=
  let d := s.deck n
  let s' := s.setDeck n { d with state := .noData, window := none, last := none, noData := 4 }
  if d.state = .noData then s' else s'.followLevels.captureReading n .noData 0 false

/-- R94, R100: the digitizer is in LOST or ALARM, so that the deck drops its samples. -/
def digitizerDown (s : State) (n : Fin 4) : Bool :=
  decide ((s.unit (digitizer n)).state = .lost) || decide ((s.unit (digitizer n)).state = .alarm)

end State

end Sys2Proof.Machine
end

