-- ==== Sys2Proof/Machine/Operands.lean ====
section
/-! DEFINITION. What the numbers a request carries stand for (R195): flags, lanes, decks, units and named values, with
the ranges the rules state. A number that stands for nothing is out of its range (BAD_PARAMETER). -/

namespace Sys2Proof.Machine

/-- R195: a mark, flag or on/off setting: 0 or 1. -/
def flag? (n : Nat) : Option Bool := if n = 0 then some false else if n = 1 then some true else none

/-- R195: a lane or deck number. -/
def lane? (n : Nat) : Option (Fin 4) := if h : n < 4 then some ⟨n, h⟩ else none

/-- R195: a unit number. -/
def unit? (n : Nat) : Option (Fin 8) := if h : n < 8 then some ⟨n, h⟩ else none

/-- R195: a burst length, 1 to 8, or 0 for OPEN. -/
def burst? (n : Nat) : Option Burst := if n = 0 then some .open else if n ≤ 8 then some (.fixed n) else none

/-- R2, R195: visit kind. -/
def VisitKind.ofCode? (n : Nat) : Option VisitKind := if n = 0 then some .tip else if n = 1 then some .load else none

/-- R181: lane mode. -/
def LaneMode.ofCode? : Nat → Option LaneMode
  | 0 => some .closed
  | 1 => some .entry
  | 2 => some .exit
  | 3 => some .internal
  | _ => none

/-- R161, R195: count selection. -/
def CountSelection.ofCode? : Nat → Option CountSelection
  | 0 => some .rx
  | 1 => some .tx
  | 2 => some .both
  | _ => none

/-- R154, R195: report mode. -/
def ReportMode.ofCode? : Nat → Option ReportMode
  | 0 => some .manual
  | 1 => some .interval
  | _ => none

/-- R1: a ticket number in its range. -/
def ticketOk (t : Nat) : Bool := 1 ≤ t && t ≤ Config.maxTicket
/-- R1: a booking handle in its range. -/
def handleOk (h : Nat) : Bool := h < Config.visitSlots
/-- 00_scope: a permit number in its range. -/
def permitOk (n : Nat) : Bool := 1 ≤ n && n ≤ 65535
/-- 00_scope: a day number in its range. -/
def dayOk (d : Nat) : Bool := d ≤ 65535

/-- R1: the name a request gives is in its range. -/
def RecordName.inRange : RecordName → Bool
  | .ticket t => ticketOk t
  | .handle h => handleOk h

/-- R1: the record a request names. -/
def State.byName (s : State) : RecordName → Option (Nat × Visit)
  | .ticket t => s.byTicket t
  | .handle h => s.byHandle h

/-- R181: an image word or a SLOT SET entry read as a slot table entry: bits 3 to 0 unit 0 to 7, or 15 for none;
bit 4 direction, 0 OUT and 1 IN. -/
def slotEntry? (n : Nat) : Option SlotEntry :=
  let dir := if n / 16 % 2 = 0 then Direction.out else Direction.inward
  let u := n % 16
  if u = 15 then some ⟨none, dir⟩ else (unit? u).map (fun u => ⟨some u, dir⟩)

/-- R136: maintenance code. -/
def MaintCode.ofCode? : Nat → Option MaintCode
  | 0 => some .none
  | 1 => some .activate
  | 2 => some .deactivate
  | _ => none

/-- R136: alarm code. -/
def AlarmCode.ofCode? : Nat → Option AlarmCode
  | 1 => some .barrierMotor
  | 2 => some .armOff
  | 3 => some .supply
  | 4 => some .digitizer
  | _ => none

end Sys2Proof.Machine
end

