-- ==== Sys2Proof/Machine/LoopOps.lean ====
section
/-! DEFINITION. The Yard Loop: slots and ownership (R134, R138), messages (R136), transmit verification (R141), the
judgement of an IN slot (R142), and the opening, discarding and starting of frames (R139, R146, R147). -/

namespace Sys2Proof.Machine

/-! ### Slots and ownership -/

/-- R138: no two members of a list are equal. -/
def distinct (l : List Nat) : Bool := (l.zipIdx.all (fun (a, k) => (l.take k).all (fun b => b ≠ a)))

/-- R138: the directions of the slots a unit owns suit it. -/
def directionsOk (u : Fin 8) (dirs : List Direction) : Bool :=
  match served u with
  | .deck _ => dirs.all (fun d => d = .inward)
  | .lane _ => dirs.isEmpty || ((dirs.count .out == 1) && (1 ≤ dirs.count .inward))

/-- R134: the directions of the slots a unit owns, slots 1 to the frame length, in slot order. -/
def ownedDirections (frameLength : Nat) (slots : List SlotEntry) (u : Fin 8) : List Direction :=
  ((slots.take frameLength).filter (fun e => e.unit = some u)).map (·.dir)

/-- R138: the conditions on a frame length and slot table. -/
def slotsOk (frameLength : Nat) (slots : List SlotEntry) : Bool :=
  decide (frameLength ≤ 22) && allUnits.all (fun u => directionsOk u (ownedDirections frameLength slots u))

/-- R138: the conditions on the unit address table. -/
def addressesOk (addresses : List Nat) : Bool :=
  addresses.all (fun a => decide (1 ≤ a) && decide (a ≤ 30)) && distinct addresses

/-- R134: the entry of slot `k` (from 1) when a unit owns it: the unit and the direction. -/
def Loop.owner (l : Loop) (k : Nat) : Option (Fin 8 × Direction) :=
  if 1 ≤ k ∧ k ≤ l.frameLength then
    match l.slots[k - 1]? with
    | none => none
    | some e => e.unit.map (fun u => (u, e.dir))
  else none

/-- R134: the slots a unit owns, with their directions. -/
def Loop.ownedBy (l : Loop) (u : Fin 8) : List (Nat × Direction) :=
  (List.range' 1 l.frameLength).filterMap (fun k =>
    match l.owner k with
    | none => none
    | some (v, d) => if v = u then some (k, d) else none)

/-- R134: the unit owns a slot. -/
def Loop.ownsSlot (l : Loop) (u : Fin 8) : Bool := !(l.ownedBy u).isEmpty

/-- The first owned slot after a position, if the frame has one. -/
def Loop.nextOwned (l : Loop) (position : Nat) : Option Nat :=
  (List.range' 1 l.frameLength).find? (fun k => decide (position < k) && (l.owner k).isSome)

/-- R134: the last slot that can be in progress before the next step of a slot is taken: the next owned slot where it
is an IN slot of a lane unit, whose step is its end; the slot before it where its step begins it; else the last slot of
the frame. -/
def Loop.lastInProgress (l : Loop) (position : Nat) : Nat :=
  match l.nextOwned position with
  | none => l.frameLength
  | some k =>
    match l.owner k with
    | some (u, .inward) => if u.val < 4 then k else k - 1
    | some (_, .out) => k - 1
    | none => k - 1

/-! ### Messages (R136) -/

/-- R136: kind codes. -/
def kindMarker : Nat := 0
def kindLaneCommand : Nat := 1
def kindPoll : Nat := 2
def kindLaneStatus : Nat := 3
def kindTagRead : Nat := 4
def kindUnitAlarm : Nat := 5
def kindDeckSample : Nat := 6

/-- R136: payload bytes of a kind; `none` for code 7. -/
def payloadLength : Nat → Option Nat
  | 0 => some 1
  | 1 => some 5
  | 2 => some 0
  | 3 => some 2
  | 4 => some 6
  | 5 => some 1
  | 6 => some 4
  | _ => none

/-- The sum of bytes, modulo 256. -/
def byteSum (bs : List Byte) : Byte := bs.foldl (· + ·) 0

/-- R136: the header byte. -/
def header (address kind : Nat) : Byte := BitVec.ofNat 8 (8 * address + kind)

/-- R136: a whole message; its check byte inverted where `invert` is set (R150). -/
def message (address kind : Nat) (payload : List Byte) (invert : Bool) : List Byte :=
  let body := header address kind :: payload
  let check := -(byteSum body)
  Config.startByte :: body ++ [if invert then ~~~check else check]

/-- A number as bytes, least significant first. -/
def leBytes : Nat → Nat → List Byte
  | 0, _ => []
  | k + 1, n => BitVec.ofNat 8 n :: leBytes k (n / 256)

/-- The number that bytes spell, least significant first. -/
def ofLeBytes (bs : List Byte) : Nat := bs.foldr (fun b n => b.toNat + 256 * n) 0

def driveCode : Drive → Nat
  | .stay => 0
  | .raise => 1
  | .lower => 2

def signalCode : Signal → Nat
  | .red => 0
  | .green => 1
  | .dark => 2

def displayCode : DisplayCode → Nat
  | .welcome => 0
  | .weighing => 1
  | .proceed => 2
  | .seeOffice => 3
  | .closed => 4
  | .ticket => 5

/-- R136: the payload of a LANE_COMMAND. -/
def commandPayload (d : Drive) (g : Signal) (x : Display) : List Byte :=
  BitVec.ofNat 8 (driveCode d + 4 * signalCode g + 16 * displayCode x.code) :: leBytes 4 x.number

/-- R140: the outbound message of a unit, built now. -/
def State.outbound (s : State) (u : Fin 8) : List Byte :=
  let address := s.loop.addresses.get u
  let invert := s.loop.inject.get u
  match served u with
  | .lane n => message address kindLaneCommand (commandPayload (s.drive n) (s.signal n) (s.lane n).display) invert
  | .deck _ => message address kindPoll [] invert

/-! ### Transmit verification (R141) -/

/-- R135: the line levels of a byte: start bit low, eight data bits with the least significant first, stop bit high. -/
def byteLevels (b : Byte) : List Bool := false :: (List.range 8).map (fun k => b.getLsbD k) ++ [true]

/-- R135: the line levels of a message, bit by bit. -/
def lineLevels (bs : List Byte) : List Bool := bs.flatMap byteLevels

/-- R141: the value that at least two of three samples agree on. -/
def majority (x : BitSamples) : Bool := (x.1 && x.2.1) || (x.1 && x.2.2) || (x.2.1 && x.2.2)

/-- R141: the transmission read back as driven. -/
def verified (driven : List Byte) (readBack : List BitSamples) : Bool :=
  decide (readBack.map majority = lineLevels driven)

/-! ### The judgement of an IN slot (R142) -/

/-- R142, orders 2 and 3: the header and payload of the first message heard. -/
def wholeMessage (bs : List Byte) : Option (Byte × List Byte) :=
  match bs with
  | start :: head :: rest =>
    if start ≠ Config.startByte then none
    else match payloadLength (head.toNat % 8) with
    | none => none
    | some p =>
      let body := rest.take (p + 1)
      if body.length = p + 1 ∧ byteSum (head :: body) = 0 then some (head, body.take p) else none
  | _ => none

/-- R136: the report a LANE_STATUS payload spells; `none` for maintenance code 3. -/
def laneReport? (p : List Byte) : Option LaneReport :=
  match p with
  | [a, b] => (MaintCode.ofCode? (b.toNat % 4)).map (fun c =>
      { downClosed := a.getLsbD 0, upClosed := a.getLsbD 1, approach := a.getLsbD 2, deck := a.getLsbD 3
        gate := a.getLsbD 4, beyond := a.getLsbD 5, code := c, refused := b.getLsbD 2 })
  | _ => none

/-- R137, order 5 of R142: the step that delivers a message of a unit, where the kind and its fields are allowed. -/
def deliveryOf (u : Fin 8) (kind : Nat) (p : List Byte) : Option Instr :=
  match served u, kind, p with
  | .lane n, 3, p => (laneReport? p).map (fun r => Instr.laneStatusMessage n r)
  | .lane n, 4, p => if p.length = 6 then some (.tagRead n (BitVec.ofNat 48 (ofLeBytes p))) else none
  | _, 5, [b] => (AlarmCode.ofCode? b.toNat).map (fun c => Instr.unitAlarm u c)
  | .deck n, 6, [a, b, c, f] => some (.deckSample n (BitVec.ofNat 24 (ofLeBytes [a, b, c])) (f.getLsbD 0))
  | _, _, _ => none

/-- R142, orders 2 to 6: the status of an IN slot of a unit, and the delivery of a message judged OK. The bytes are
those before the first that was framed badly, so that a whole message among them has been heard; what follows its check
byte, well framed or not, is ignored. -/
def judgeHeard (u : Fin 8) (address : Nat) (heard : Heard) : SlotStatus × Option Instr :=
  match heard with
  | .nothing => (.silent, none)
  | .bytes bs _ =>
    match wholeMessage bs with
    | none => (.check, none)
    | some (head, p) =>
      if head.toNat / 8 ≠ address then (.address, none)
      else match deliveryOf u (head.toNat % 8) p with
      | none => (.kind, none)
      | some c => (.ok, some c)

/-! ### Frames -/

namespace State

/-- R134: the slot the loop stands at; 0 is the marker slot. -/
def slotNow (s : State) : Nat := s.loop.position.getD 0

/-- R147: the slot after the one the loop stands at: the marker slot after the frame's last slot. -/
def slotAfter (s : State) : Nat := if s.slotNow < s.loop.frameLength then s.slotNow + 1 else 0

/-- R134, R147: the first slot that can be in progress: the one of the last step, the later one that a RESUME has begun,
or the one LOOP STATUS has shown since (log 40). -/
def firstInProgress (s : State) : Nat := max (max s.slotNow (s.loop.begun.getD 0)) s.loop.shown

/-- R99, R159, R166: the marks that units and decks keep of the frame in progress are cleared. -/
def clearMarks (s : State) : State :=
  { s with
    units := mapEach (fun r => { r with
      alarmSeen := false
      activate := { r.activate with seen := false }
      deactivate := { r.deactivate with seen := false } }) s.units
    decks := mapEach (fun d => { d with sampled := false }) s.decks }

/-- R139, R146: the marker slot of the next frame begins. Nothing has been delivered in that frame, so that its
marks are clear (log 32). -/
def openFrame (s : State) : State :=
  { s with loop := { s.loop with
      frameNo := (s.loop.frameNo + 1) % 256
      working := []
      position := some 0
      markerOpen := true
      polled := none
      slotDone := false
      begun := none
      shown := 0
      pauseShown := false } }.clearMarks

/-- R139, R140, R141: the part drives a message in a slot, and reads it back. -/
def transmit (s : State) (slot : Nat) (bs : List Byte) : State :=
  { s with loop := { s.loop with driven := bs, position := some slot, begun := none } }

/-- R139, R142: the working status of a slot. -/
def setWorking (s : State) (slot : Nat) (st : SlotStatus) : State :=
  { s with loop := { s.loop with working := s.loop.working.put slot st } }

/-- R140, R150: the inject mark of a unit is cleared as its message is sent. -/
def clearInject (s : State) (u : Fin 8) : State :=
  { s with loop := { s.loop with inject := s.loop.inject.set u false } }

/-- R139: the MARKER is sent and judged. -/
def sendMarker (s : State) (readBack : List BitSamples) : State :=
  let bs := message 0 kindMarker (leBytes 1 s.loop.frameNo) false
  let s := (s.transmit 0 bs).setWorking 0 (if verified bs readBack then .ok else .txVerify)
  { s with loop := { s.loop with markerOpen := false, slotDone := decide (s.loop.state = .pausing) } }

/-- R147, R159, R166: a partial frame is discarded: its working status, and the marks of the frame in progress. No slot
is in progress then, so that the position is none (log 41). -/
def discardFrame (s : State) : State :=
  { s with loop := { s.loop with
    working := []
    position := none
    markerOpen := false
    polled := none
    slotDone := false
    begun := none
    shown := 0
    pauseShown := false } }.clearMarks

/-- R90: the travel timers that wait for the loop's start are loaded. -/
def loadTravel (s : State) : State :=
  { s with barriers := mapEach (fun b =>
      if b.travelAtStart then { b with travel := some (s.frames .travel), travelAtStart := false } else b) s.barriers }

/-- R146, R151: the loop starts: conversion, RUNNING, and the first marker slot. -/
def startLoop (s : State) : State :=
  let s := { s with loop := { s.loop with period := s.loop.frameLength + 1, state := .running } }
  s.openFrame.loadTravel

/-- R153, R187: LOOP START by the part itself where auto-start is set. -/
def autoStartLoop (s : State) : State := if s.loop.autoStart then s.startLoop else s

end State

/-! ### Ownership (R155) -/

/-- R155: a unit record that has become ABSENT. -/
def UnitRec.leave (r : UnitRec) : UnitRec :=
  { r with
    state := .absent
    goodRun := 0
    badRun := 0
    alarmFree := 0
    alarmSeen := false
    activate := Detector.cleared
    deactivate := Detector.cleared }

/-- R155: a unit record after the slot table has been replaced by a SLOT SET. -/
def UnitRec.judgeOwnership (r : UnitRec) (owns : Bool) : UnitRec :=
  if !owns then r.leave
  else if r.state = .absent then { r with state := .searching, goodRun := 0, badRun := 0 } else r

/-- R155: ownership is judged, unit by unit, and the level sources follow. -/
def State.judgeOwnership (s : State) : State :=
  (forUnits (fun u s => s.setUnit u ((s.unit u).judgeOwnership (s.loop.ownsSlot u))) s).followLevels

/-! ### The loop words of an image (R153, R181) -/

/-- R153: the slot table of an image. -/
def imageSlots (image : List Word) : Option (List SlotEntry) :=
  (List.range 22).mapM (fun k => slotEntry? (imageWord image (60 + k)))

/-- R181: the addresses of an image. -/
def imageAddresses (image : List Word) : Vector Nat 8 :=
  Vector.ofFn (fun u : Fin 8 => imageWord image (82 + u.val))

/-- R153: the loop words are used when the load is LOADED and they meet R138; otherwise the loop's defaults. A slot word
whose bits 3 to 0 are 8 to 14 names no unit of R181 and fails them all, also beyond the frame length (log 34). -/
def Loop.takeWords (l : Loop) (status : LoadStatus) (image : List Word) : Loop :=
  let dflt := { l with
    frameLength := 0
    slots := List.replicate 22 SlotEntry.unused
    addresses := #v[1, 2, 3, 4, 5, 6, 7, 8]
    autoStart := false }
  match imageSlots image with
  | none => dflt
  | some slots =>
    if status = .loaded ∧ slotsOk (imageWord image 59) slots = true
        ∧ addressesOk (imageAddresses image).toList = true then
      { l with
        frameLength := imageWord image 59
        slots := slots
        addresses := imageAddresses image
        autoStart := imageWord image 90 % 2 = 1 }
    else dflt

/-- R153: the loop takes its words after a load or at a RESTART. -/
def Loop.reloadFrom (l : Loop) (status : LoadStatus) (image : List Word) : Loop :=
  let l := l.takeWords status image
  { l with
    period := l.frameLength + 1
    position := none
    begun := none
    shown := 0
    pauseShown := false
    working := []
    tableChanged := false }

end Sys2Proof.Machine
end

