-- ==== Sys2Proof/Machine/FrameEnd.lean ====
section
/-! DEFINITION. The publication of a frame and the frame end it hands to every block (R145): unit runs and counters
(R156 to R161), detectors (R165, R166), timers (R51, R74, R121), tag ages (R49), deck counts (R97, R99, R103); and which
steps are due after it. -/

namespace Sys2Proof.Machine

/-! ### Unit Supervisor (R156, R159, R161, R164) -/

/-- R144: the published status of a slot. -/
def statusAt (statuses : List SlotStatus) (k : Nat) : SlotStatus := statuses.getD k .unused

/-- R156: a published frame is good for a unit that owns the slots given. -/
def goodFrame (slots : List (Nat × Direction)) (statuses : List SlotStatus) : Bool :=
  slots.any (fun (k, d) => d = .inward && statusAt statuses k = .ok)
    && slots.all (fun (k, d) => !(d = .out && statusAt statuses k = .txVerify))

/-- R161: a slot status falls in the selected kinds. -/
def counted (sel : CountSelection) (st : SlotStatus) : Bool :=
  match st with
  | .silent | .check | .address | .kind => sel ≠ .tx
  | .txVerify => sel ≠ .rx
  | .ok | .unused => false

/-- R161: the unit's selected slot errors in a published frame. -/
def slotErrors (sel : CountSelection) (slots : List (Nat × Direction)) (statuses : List SlotStatus) : Nat :=
  slots.countP (fun (k, _) => counted sel (statusAt statuses k))

/-- R165: the dwell in frames. -/
def dwellFrames (autoSwitch : Bool) (period : Nat) : Nat := framesOf (Config.dwellMs autoSwitch) period

/-- R165: the run of a detector that is not asserted, after a published frame. -/
def Detector.countRun (d : Detector) : Detector :=
  if d.run = 0 then (if d.seen then { d with run := 1, tolerated := none } else d)
  else if d.seen then
    { d with run := d.run + 1, tolerated := match d.tolerated with
      | none => none
      | some k => if Config.detectorFrames ≤ k + 1 then none else some (k + 1) }
  else match d.tolerated with
    | none => { d with run := d.run + 1, tolerated := some 0 }
    | some _ => { d with run := 0, tolerated := none }

/-- R165, R166: a detector judges a published frame; `reached` says the dwell has been reached. -/
def Detector.judge (d : Detector) (dwell : Nat) : Detector :=
  if d.asserted then
    { d with absence := (if d.seen then 0 else min Config.detectorFrames (d.absence + 1)), seen := false }
  else
    let d := d.countRun
    { d with reached := decide (1 ≤ d.run ∧ dwell ≤ d.run), seen := false }

/-- R156, R159: a unit's runs and alarm-free run after a published frame. -/
def UnitRec.countFrame (r : UnitRec) (good : Bool) : UnitRec :=
  { r with
    goodRun := if good then min Config.countStop (r.goodRun + 1) else 0
    badRun := if good then 0 else min Config.countStop (r.badRun + 1)
    alarmFree := if r.state = .alarm then (if r.alarmSeen then 0 else min Config.recoveryFrames (r.alarmFree + 1))
      else r.alarmFree
    alarmSeen := false }

/-- R165, R166: the detectors of a lane unit judge the frame. -/
def UnitRec.judgeDetectors (r : UnitRec) (dwell : Nat) : UnitRec :=
  { r with activate := r.activate.judge dwell, deactivate := r.deactivate.judge dwell }

/-- R161, R164: the error counter after the unit's slot errors are added. -/
def UnitRec.addErrors (r : UnitRec) (k : Nat) : UnitRec :=
  { r with
    counter := min Config.countStop (r.counter + k)
    overflow := r.overflow || decide (1 ≤ k ∧ Config.countStop ≤ r.counter + k) }

namespace State

/-- R156 to R166: the Unit Supervisor takes a publication for one unit. -/
def unitFrameEnd (statuses : List SlotStatus) (u : Fin 8) (s : State) : State :=
  let r := s.unit u
  let slots := s.loop.ownedBy u
  if slots.isEmpty then s
  else
    let r' := ((r.countFrame (goodFrame slots statuses)).judgeDetectors (dwellFrames r.autoSwitch s.loop.period)).addErrors
      (slotErrors r.selection slots statuses)
    let s := s.setUnit u r'
    if r'.overflow && !r.overflow then s.latch .counterOverflow u.val else s

end State

/-! ### Lanes, barriers, decks and captures -/

/-- R49: a tag entry ages by a frame. -/
def TagEntry.older (e : TagEntry) : TagEntry := { e with age := min Config.countStop (e.age + 1) }

/-- R51, R49: a lane record after a frame end. -/
def Lane.frameEnd (l : Lane) : Lane :=
  { l with
    settle := l.settle.tick
    cycle := l.cycle.tick
    recovery := l.recovery.tick
    passage := l.passage.tick
    buffer := l.buffer.map TagEntry.older }

/-- R74: a sequencer after a frame end. -/
def Barrier.frameEnd (b : Barrier) : Barrier :=
  { b with travel := b.travel.tick, gateClear := b.gateClear.tick, abandon := b.abandon.tick }

/-- R97, R99, R103: a deck record after a frame end. -/
def Deck.frameEnd (d : Deck) : Deck :=
  { d with
    window := d.window.map (fun w => { w with age := min Config.countStop (w.age + 1) })
    noData := if d.params.isSome && !d.sampled then min 4 (d.noData + 1) else d.noData
    tracking := d.tracking.tick
    sampled := false }

/-- R121: an engine after a frame end. -/
def Engine.frameEnd (e : Engine) : Engine :=
  { e with run := e.run.map (fun c => { c with timer := c.timer.tick }) }

namespace State

/-- R145: the statuses a frame is published with: the marker slot and slots 1 to 22. -/
def frameStatuses (s : State) : List SlotStatus :=
  (List.range 23).map (fun k => (s.loop.working.get k).getD .unused)

/-- R145: the blocks' counts at a frame end. -/
def blocksFrameEnd (s : State) : State :=
  { s with
    lanes := mapEach Lane.frameEnd s.lanes
    barriers := mapEach Barrier.frameEnd s.barriers
    decks := mapEach Deck.frameEnd s.decks
    engines := mapEach Engine.frameEnd s.engines }

/-- R145: the frame in progress is published and its end handed to every block. -/
def publish (s : State) : State :=
  let statuses := s.frameStatuses
  let s := { s with loop := { s.loop with published := some ⟨s.loop.frameNo, statuses⟩ } }
  ((forUnits (unitFrameEnd statuses) s).blocksFrameEnd).latch .frameEnd 0

/-! ### Steps due at a frame end (log 15) -/

/-- R157: a GOOD unit's bad run has reached 8. -/
def lostDue (s : State) (u : Fin 8) : Bool :=
  decide ((s.unit u).state = .good) && decide (Config.lossFrames ≤ (s.unit u).badRun)

/-- R157: a SEARCHING or LOST unit's good run has reached 4. -/
def goodDue (s : State) (u : Fin 8) : Bool :=
  (decide ((s.unit u).state = .searching) || decide ((s.unit u).state = .lost))
    && decide (Config.recoveryFrames ≤ (s.unit u).goodRun)

/-- R159: the alarm-free run has reached 4. -/
def alarmClearDue (s : State) (u : Fin 8) : Bool :=
  decide ((s.unit u).state = .alarm) && decide (Config.recoveryFrames ≤ (s.unit u).alarmFree)

/-- A detector of a lane unit. -/
def detector (s : State) (n : Fin 4) : DetectorKind → Detector
  | .activate => (s.unit (laneUnit n)).activate
  | .deactivate => (s.unit (laneUnit n)).deactivate

/-- Writes a detector of a lane unit. -/
def setDetector (s : State) (n : Fin 4) (k : DetectorKind) (d : Detector) : State :=
  match k with
  | .activate => s.setUnit (laneUnit n) { s.unit (laneUnit n) with activate := d }
  | .deactivate => s.setUnit (laneUnit n) { s.unit (laneUnit n) with deactivate := d }

/-- R165: the detector is to assert. -/
def assertDue (s : State) (n : Fin 4) (k : DetectorKind) : Bool :=
  !(s.detector n k).asserted && (s.detector n k).reached

/-- R166: the detector is to deassert. -/
def deassertDue (s : State) (n : Fin 4) (k : DetectorKind) : Bool :=
  (s.detector n k).asserted && decide (Config.detectorFrames ≤ (s.detector n k).absence)

/-- R99: an enabled deck has counted four frames without a sample. -/
def noDataDue (s : State) (n : Fin 4) : Bool :=
  (s.deck n).params.isSome && decide ((s.deck n).state ≠ .noData) && decide (4 ≤ (s.deck n).noData)

/-- R121: the capture timer's expiry, judged after the deck's missing data and the loss of its digitizer. -/
def captureDue (s : State) (n : Fin 4) : Bool :=
  (match (s.engine n).run with
    | none => false
    | some c => c.timer.due) && !s.noDataDue n && !s.lostDue (digitizer n)

/-- R58: the settle timer of a SETTLING lane has expired. -/
def settleDue (s : State) (n : Fin 4) : Bool := decide ((s.lane n).state = .settling) && (s.lane n).settle.due

/-- Some step of lane `n`, its barrier or its deck is due. -/
def laneStepDue (s : State) (n : Fin 4) : Bool :=
  s.settleDue n || (s.lane n).cycle.due || (s.lane n).recovery.due || (s.lane n).passage.due
    || (s.barrier n).travel.due || (s.barrier n).gateClear.due || (s.barrier n).abandon.due
    || (s.deck n).tracking.due || s.noDataDue n || s.captureDue n
    || s.assertDue n .activate || s.assertDue n .deactivate
    || s.deassertDue n .activate || s.deassertDue n .deactivate

/-- Some step of unit `u` is due. -/
def unitStepDue (s : State) (u : Fin 8) : Bool := s.lostDue u || s.goodDue u || s.alarmClearDue u

/-- R143, R145: nothing waits before the loop goes on: no message is undelivered, no frame-end step is due. -/
def loopClear (s : State) : Bool :=
  s.loop.delivery.isNone && !allLanes.any (fun n => s.laneStepDue n) && !allUnits.any (fun u => s.unitStepDue u)

end State

end Sys2Proof.Machine
end

