-- ==== Sys2Proof/Machine/Frames.lean ====
section
/-! DEFINITION. The port's frames: request codes (R194), parameters and their forms (R195), request and response frames
(R191), status codes (R191). Where R195 leaves a code or a form to a choice, log 22 names it. -/

namespace Sys2Proof.Machine

/-- R191: status codes. -/
def Status.code : Status → Nat
  | .ok => 0
  | .accepted => 1
  | .notReady => 2
  | .portBusy => 3
  | .badFrame => 4
  | .unknownRequest => 5
  | .badParameter => 6
  | .notFound => 7
  | .exists => 8
  | .inUse => 9
  | .tableFull => 10
  | .wrongState => 11
  | .laneBusy => 12
  | .tooSoon => 13
  | .clockUnset => 14
  | .banned => 15
  | .inYard => 16
  | .noBooking => 17
  | .permitInactive => 18
  | .noBalance => 19
  | .occupancyLimit => 20
  | .categoryRefused => 21
  | .needsReweigh => 22
  | .listFull => 23
  | .zeroRange => 24
  | .certifiedLock => 25
  | .storeBusy => 26
  | .loopState => 27

/-- R194: request codes; 0 for a step that is no request. -/
def requestCode : Instr → Nat
  | .identify => 1
  | .noticeReport => 2
  | .noticeMask _ => 3
  | .noticeEdge _ => 4
  | .admitVisit _ _ => 10
  | .book _ _ _ _ _ => 11
  | .lookup _ => 12
  | .amend _ _ _ => 13
  | .hold _ => 14
  | .releaseHold _ _ => 15
  | .voidVisit _ => 16
  | .retire _ => 17
  | .nextDone => 18
  | .takeChanges => 19
  | .tipDeclare _ _ => 20
  | .call _ _ => 21
  | .vehiclePut _ _ _ _ _ _ _ => 24
  | .vehicleGet _ => 25
  | .vehicleDrop _ => 26
  | .tareStore _ _ _ => 27
  | .permitPut _ _ _ _ => 28
  | .permitGet _ => 29
  | .permitAdjust _ _ => 30
  | .permitSuspend _ => 31
  | .permitResume _ => 32
  | .permitDrop _ => 33
  | .laneMode _ _ _ _ _ _ => 36
  | .laneRelease _ => 37
  | .laneReset _ => 38
  | .maintainOn _ => 39
  | .maintainOff _ => 40
  | .barrierRaise _ => 41
  | .barrierLower _ => 42
  | .laneStatus _ => 43
  | .capture _ _ => 46
  | .terminate _ => 47
  | .zero _ => 48
  | .deckStatus _ => 49
  | .loopStart => 52
  | .loopPause => 53
  | .loopResume => 54
  | .loopStop => 55
  | .slotSet _ _ => 56
  | .unitAddress _ _ => 57
  | .inject _ => 58
  | .loopStatus => 59
  | .counterMode _ _ _ => 62
  | .counterReport _ => 63
  | .autoSwitch _ _ => 64
  | .unitStatus _ => 65
  | .settingRead _ _ => 68
  | .settingWrite _ _ _ => 69
  | .reload => 70
  | .restart => 71
  | .clockSet _ _ => 72
  | .clockRead => 73
  | .hardReset | .loadEnd _ | .transactionStart | .transactionEnd _ _ | .storeReadEnd _ | .writeCycleEnd _
  | .restartEnd | .yardClockSecond | .dayChange | .reportIntervalTick | .marker _ | .laneCommand _ _ | .poll _ _
  | .inSlotEnd _ _ | .laneStatusMessage _ _ | .tagRead _ _ | .unitAlarm _ _ | .deckSample _ _ _ | .loopPaused _
  | .settleTimerExpiry _ | .cycleTimerExpiry _ | .recoveryTimerExpiry _ | .passageTimeout _ | .travelTimerExpiry _
  | .gateClearTimerExpiry _ | .abandonTimerExpiry _ | .captureTimerExpiry _ | .trackingTimerExpiry _
  | .noDataEntry _ | .unitLostEntry _ | .unitGoodEntry _ | .alarmClear _ | .detectorAssert _ _
  | .detectorDeassert _ _ | .rstNLow => 0

/-- R194: the codes listed. -/
def requestCodes : List Nat :=
  [1, 2, 3, 4] ++ List.range' 10 12 ++ List.range' 24 10 ++ List.range' 36 8 ++ List.range' 46 4
    ++ List.range' 52 8 ++ List.range' 62 4 ++ List.range' 68 6

/-! ### Writing values (R195) -/

def put1 (n : Nat) : List Byte := leBytes 1 n
def put2 (n : Nat) : List Byte := leBytes 2 n
def put4 (n : Nat) : List Byte := leBytes 4 n
/-- A quantity in kg, or any number that can be negative: 4 bytes in two's complement. -/
def putInt (x : Int) : List Byte := put4 (BitVec.ofInt 32 x).toNat
def putTag (t : Tag) : List Byte := leBytes 6 t.toNat
def putMark (b : Bool) : List Byte := put1 (if b then 1 else 0)
def putWords (ws : List Word) : List Byte := ws.flatMap (fun w => put2 w.toNat)
/-- A conditional field, preceded by its presence byte. -/
def putOpt {α : Type} (f : α → List Byte) : Option α → List Byte
  | none => put1 0
  | some a => put1 1 ++ f a
/-- A list, preceded by the number of its entries. -/
def putList {α : Type} (f : α → List Byte) (l : List α) : List Byte := put1 l.length ++ l.flatMap f

/-! ### Reading values (R195) -/

abbrev Reader (α : Type) := List Byte → Option (α × List Byte)

/-- A number of `k` bytes, least significant first. -/
def take (k : Nat) : Reader Nat := fun bs =>
  if k ≤ bs.length then some (ofLeBytes (bs.take k), bs.drop k) else none

def take1 : Reader Nat := take 1
def take2 : Reader Nat := take 2
def take4 : Reader Nat := take 4

/-- One value after another. -/
def Reader.andThen {α β : Type} (r : Reader α) (f : α → Reader β) : Reader β := fun bs =>
  match r bs with
  | none => none
  | some (a, rest) => f a rest

/-- A value that reads nothing. -/
def Reader.value {α : Type} (a : α) : Reader α := fun bs => some (a, bs)

/-- A parameter that fits no form. -/
def Reader.bad {α : Type} : Reader α := fun _ => none

def takeInt : Reader Int := take4.andThen (fun n => Reader.value (BitVec.ofNat 32 n).toInt)
def takeTag : Reader Tag := (take 6).andThen (fun n => Reader.value (BitVec.ofNat 48 n))

/-- `k` words of 2 bytes. -/
def takeWords : Nat → Reader (List Word)
  | 0 => Reader.value []
  | k + 1 => take2.andThen (fun n => (takeWords k).andThen (fun ws => Reader.value (BitVec.ofNat 16 n :: ws)))

/-- `k` bytes as they stand. -/
def takeBytes (k : Nat) : Reader (List Byte) := fun bs =>
  if k ≤ bs.length then some (bs.take k, bs.drop k) else none

/-- A parameter that may be left out, after its presence byte. -/
def takeOpt {α : Type} (r : Reader α) : Reader (Option α) := take1.andThen (fun p =>
  if p = 0 then Reader.value none
  else if p = 1 then r.andThen (fun a => Reader.value (some a)) else Reader.bad)

/-- The whole of the parameters, with nothing left over. -/
def Reader.all {α : Type} (r : Reader α) (bs : List Byte) : Option α :=
  match r bs with
  | some (a, []) => some a
  | _ => none

/-! ### Parameters of the requests -/

def putRecordName : RecordName → List Byte
  | .ticket t => put1 0 ++ put4 t
  | .handle h => put1 1 ++ put1 h

def takeRecordName : Reader RecordName := take1.andThen (fun sel =>
  if sel = 0 then take4.andThen (fun t => Reader.value (.ticket t))
  else if sel = 1 then take1.andThen (fun h => Reader.value (.handle h)) else Reader.bad)

def putAdmitName : AdmitName → List Byte
  | .tag t => put1 0 ++ putTag t
  | .handle h => put1 1 ++ put1 h

def takeAdmitName : Reader AdmitName := take1.andThen (fun sel =>
  if sel = 0 then takeTag.andThen (fun t => Reader.value (.tag t))
  else if sel = 1 then take1.andThen (fun h => Reader.value (.handle h)) else Reader.bad)

def putLookupName : LookupName → List Byte
  | .ticket t => put1 0 ++ put4 t
  | .handle h => put1 1 ++ put1 h
  | .tag t => put1 2 ++ putTag t

def takeLookupName : Reader LookupName := take1.andThen (fun sel =>
  if sel = 0 then take4.andThen (fun t => Reader.value (.ticket t))
  else if sel = 1 then take1.andThen (fun h => Reader.value (.handle h))
  else if sel = 2 then takeTag.andThen (fun t => Reader.value (.tag t)) else Reader.bad)

def putVehicleName : VehicleName → List Byte
  | .tag t => put1 0 ++ putTag t
  | .index i => put1 1 ++ put2 i

def takeVehicleName : Reader VehicleName := take1.andThen (fun sel =>
  if sel = 0 then takeTag.andThen (fun t => Reader.value (.tag t))
  else if sel = 1 then take2.andThen (fun i => Reader.value (.index i)) else Reader.bad)

def putPermitName : PermitName → List Byte
  | .number n => put1 0 ++ put2 n
  | .next n => put1 1 ++ put2 n

def takePermitName : Reader PermitName := take1.andThen (fun sel =>
  if sel = 0 then take2.andThen (fun n => Reader.value (.number n))
  else if sel = 1 then take2.andThen (fun n => Reader.value (.next n)) else Reader.bad)

def putTareParam : TareParam → List Byte
  | .none => put1 0
  | .weight kg day validity => put1 1 ++ putInt kg ++ put2 day ++ put2 validity
  | .keep => put1 2

def takeTareParam : Reader TareParam := take1.andThen (fun sel =>
  if sel = 0 then Reader.value .none
  else if sel = 1 then takeInt.andThen (fun kg => take2.andThen (fun day => take2.andThen (fun v =>
    Reader.value (.weight kg day v))))
  else if sel = 2 then Reader.value .keep else Reader.bad)

/-- R195: the parameters of a request, in the order its rule lists them. -/
def requestParams : Instr → List Byte
  | .noticeMask ws => putWords ws
  | .noticeEdge ws => putWords ws
  | .admitVisit lane name => put1 lane ++ putAdmitName name
  | .book tag kind permit useTare day => putTag tag ++ put1 kind ++ put2 permit ++ put1 useTare ++ put2 day
  | .lookup name => putLookupName name
  | .amend name useTare day => putRecordName name ++ put1 useTare ++ put2 day
  | .hold name => putRecordName name
  | .releaseHold name lane => putRecordName name ++ putOpt put1 lane
  | .voidVisit name => putRecordName name
  | .retire t => put4 t
  | .tipDeclare t c => put4 t ++ put1 c
  | .call lane t => put1 lane ++ put4 t
  | .vehiclePut tag permit payload groups refresh banned tare =>
    putTag tag ++ put2 permit ++ putInt payload ++ put1 groups ++ put1 refresh ++ put1 banned ++ putTareParam tare
  | .vehicleGet name => putVehicleName name
  | .vehicleDrop tag => putTag tag
  | .tareStore t i v => put4 t ++ put1 i ++ put2 v
  | .permitPut n allowed primary expiry => put2 n ++ put4 allowed.toNat ++ put1 primary ++ put2 expiry
  | .permitGet name => putPermitName name
  | .permitAdjust n amount => put2 n ++ putInt amount
  | .permitSuspend n => put2 n
  | .permitResume n => put2 n
  | .permitDrop n => put2 n
  | .laneMode lane mode a w t c => put1 lane ++ put1 mode ++ put1 a ++ put1 w ++ put1 t ++ put1 c
  | .laneRelease n => put1 n
  | .laneReset n => put1 n
  | .maintainOn n => put1 n
  | .maintainOff n => put1 n
  | .barrierRaise n => put1 n
  | .barrierLower n => put1 n
  | .laneStatus n => put1 n
  | .capture lane burst => put1 lane ++ putOpt put1 burst
  | .terminate n => put1 n
  | .zero n => put1 n
  | .deckStatus n => put1 n
  | .slotSet len entries => put1 len ++ entries
  | .unitAddress u a => put1 u ++ put1 a
  | .inject u => put1 u
  | .counterMode u sel rep => put1 u ++ put1 sel ++ put1 rep
  | .counterReport u => put1 u
  | .autoSwitch u on => put1 u ++ put1 on
  | .unitStatus u => put1 u
  | .settingRead w src => put2 w ++ put1 src
  | .settingWrite w v _ => put2 w ++ put2 v
  | .clockSet d m => put2 d ++ put2 m
  | _ => []

/-- Reads one byte and makes a request of it. -/
def one (f : Nat → Instr) : Reader Instr := take1.andThen (fun n => Reader.value (f n))

/-- Reads a permit number and makes a request of it. -/
def onePermit (f : Nat → Instr) : Reader Instr := take2.andThen (fun n => Reader.value (f n))

/-- R194, R195: the reader of a request's parameters; `calEn` is the level of CAL_EN sampled as the request is taken
(R182). -/
def requestReader (code : Nat) (calEn : Bool) : Reader Instr :=
  match code with
  | 1 => Reader.value .identify
  | 2 => Reader.value .noticeReport
  | 3 => (takeWords 20).andThen (fun ws => Reader.value (.noticeMask ws))
  | 4 => (takeWords 7).andThen (fun ws => Reader.value (.noticeEdge ws))
  | 10 => take1.andThen (fun lane => takeAdmitName.andThen (fun name => Reader.value (.admitVisit lane name)))
  | 11 => takeTag.andThen (fun tag => take1.andThen (fun kind => take2.andThen (fun permit =>
      take1.andThen (fun useTare => take2.andThen (fun day => Reader.value (.book tag kind permit useTare day))))))
  | 12 => takeLookupName.andThen (fun name => Reader.value (.lookup name))
  | 13 => takeRecordName.andThen (fun name => take1.andThen (fun useTare => take2.andThen (fun day =>
      Reader.value (.amend name useTare day))))
  | 14 => takeRecordName.andThen (fun name => Reader.value (.hold name))
  | 15 => takeRecordName.andThen (fun name => (takeOpt take1).andThen (fun lane =>
      Reader.value (.releaseHold name lane)))
  | 16 => takeRecordName.andThen (fun name => Reader.value (.voidVisit name))
  | 17 => take4.andThen (fun t => Reader.value (.retire t))
  | 18 => Reader.value .nextDone
  | 19 => Reader.value .takeChanges
  | 20 => take4.andThen (fun t => take1.andThen (fun c => Reader.value (.tipDeclare t c)))
  | 21 => take1.andThen (fun lane => take4.andThen (fun t => Reader.value (.call lane t)))
  | 24 => takeTag.andThen (fun tag => take2.andThen (fun permit => takeInt.andThen (fun payload =>
      take1.andThen (fun groups => take1.andThen (fun refresh => take1.andThen (fun banned =>
        takeTareParam.andThen (fun tare =>
          Reader.value (.vehiclePut tag permit payload groups refresh banned tare))))))))
  | 25 => takeVehicleName.andThen (fun name => Reader.value (.vehicleGet name))
  | 26 => takeTag.andThen (fun tag => Reader.value (.vehicleDrop tag))
  | 27 => take4.andThen (fun t => take1.andThen (fun i => take2.andThen (fun v => Reader.value (.tareStore t i v))))
  | 28 => take2.andThen (fun n => take4.andThen (fun allowed => take1.andThen (fun primary =>
      take2.andThen (fun expiry => Reader.value (.permitPut n (BitVec.ofNat 32 allowed) primary expiry)))))
  | 29 => takePermitName.andThen (fun name => Reader.value (.permitGet name))
  | 30 => take2.andThen (fun n => takeInt.andThen (fun amount => Reader.value (.permitAdjust n amount)))
  | 31 => onePermit .permitSuspend
  | 32 => onePermit .permitResume
  | 33 => onePermit .permitDrop
  | 36 => take1.andThen (fun lane => take1.andThen (fun mode => take1.andThen (fun a => take1.andThen (fun w =>
      take1.andThen (fun t => take1.andThen (fun c => Reader.value (.laneMode lane mode a w t c)))))))
  | 37 => one .laneRelease
  | 38 => one .laneReset
  | 39 => one .maintainOn
  | 40 => one .maintainOff
  | 41 => one .barrierRaise
  | 42 => one .barrierLower
  | 43 => one .laneStatus
  | 46 => take1.andThen (fun lane => (takeOpt take1).andThen (fun burst => Reader.value (.capture lane burst)))
  | 47 => one .terminate
  | 48 => one .zero
  | 49 => one .deckStatus
  | 52 => Reader.value .loopStart
  | 53 => Reader.value .loopPause
  | 54 => Reader.value .loopResume
  | 55 => Reader.value .loopStop
  | 56 => take1.andThen (fun len => (takeBytes 22).andThen (fun entries => Reader.value (.slotSet len entries)))
  | 57 => take1.andThen (fun u => take1.andThen (fun a => Reader.value (.unitAddress u a)))
  | 58 => one .inject
  | 59 => Reader.value .loopStatus
  | 62 => take1.andThen (fun u => take1.andThen (fun sel => take1.andThen (fun rep =>
      Reader.value (.counterMode u sel rep))))
  | 63 => one .counterReport
  | 64 => take1.andThen (fun u => take1.andThen (fun on => Reader.value (.autoSwitch u on)))
  | 65 => one .unitStatus
  | 68 => take2.andThen (fun w => take1.andThen (fun src => Reader.value (.settingRead w src)))
  | 69 => take2.andThen (fun w => take2.andThen (fun v => Reader.value (.settingWrite w v calEn)))
  | 70 => Reader.value .reload
  | 71 => Reader.value .restart
  | 72 => take2.andThen (fun d => take2.andThen (fun m => Reader.value (.clockSet d m)))
  | 73 => Reader.value .clockRead
  | _ => Reader.bad

/-- R192: the request that a code and its parameters spell. -/
def parseRequest (code : Nat) (calEn : Bool) (params : List Byte) : Option Instr :=
  (requestReader code calEn).all params

/-! ### Request frames (R191, R192) -/

/-- R191: the frame that carries a request. -/
def requestFrame (c : Instr) : List Byte :=
  let body := BitVec.ofNat 8 (requestCode c) :: requestParams c
  let head := BitVec.ofNat 8 (body.length + 1)
  (head :: body) ++ [-(byteSum (head :: body))]

/-- R192: what a request frame is, on a port that is free. -/
inductive FrameVerdict where
  | failed (st : Status)
  | taken (c : Instr)
  deriving DecidableEq, Repr

/-- R192: a frame of length byte `n`, the bytes after it, in order of the checks. -/
def judgeFrame (n : Byte) (rest : List Byte) (calEn : Bool) : FrameVerdict :=
  let body := rest.take n.toNat
  if n.toNat = 1 ∨ 64 < n.toNat ∨ body.length < n.toNat ∨ byteSum (n :: body) ≠ 0 then .failed .badFrame
  else
    let code := (body.head?.getD 0).toNat
    if code ∉ requestCodes then .failed .unknownRequest
    else match parseRequest code calEn ((body.drop 1).dropLast) with
    | none => .failed .badFrame
    | some c => .taken c

/-! ### Answer data (R195) -/

def VisitKind.code : VisitKind → Nat
  | .tip => 0
  | .load => 1

def VisitState.code : VisitState → Nat
  | .booked => 0
  | .admitting => 1
  | .inYard => 2
  | .reweighing => 3
  | .exiting => 4
  | .cleared => 5
  | .done => 6
  | .held => 7
  | .void => 8

def HoldReason.code : HoldReason → Nat
  | .host => 0
  | .restart => 1
  | .laneReset => 2
  | .released => 3
  | .abandoned => 4
  | .passageTimeout => 5
  | .unitLost => 6
  | .unitAlarm => 7
  | .barrierFault => 8
  | .maintenance => 9
  | .captureFailed => 10
  | .negativeNet => 11
  | .listFull => 12
  | .unattendedPassage => 13

def Role.code : Role → Nat
  | .entry => 0
  | .reweigh => 1
  | .exit => 2
  | .storedTare => 3

def Method.code : Method → Nat
  | .whole => 0
  | .axleSum => 1

def EntryResult.code : EntryResult → Nat
  | .complete => 0
  | .part => 1

def Standing.code : Standing → Nat
  | .valid => 0
  | .withdrawn => 1

def TipSource.code : TipSource → Nat
  | .declared => 0
  | .default => 1

def PermitState.code : PermitState → Nat
  | .active => 0
  | .suspended => 1
  | .expired => 2

def LaneMode.code : LaneMode → Nat
  | .closed => 0
  | .entry => 1
  | .exit => 2
  | .internal => 3

def LaneState.code : LaneState → Nat
  | .closed => 0
  | .idle => 1
  | .settling => 2
  | .bound => 3
  | .passing => 4
  | .releasing => 5
  | .maintenance => 6
  | .fault => 7

def FailReason.code : FailReason → Nat
  | .noStable => 0
  | .overload => 1
  | .noData => 2
  | .aborted => 3

def BarrierState.code : BarrierState → Nat
  | .down => 0
  | .raising => 1
  | .up => 2
  | .lowering => 3
  | .fault => 4

def BarrierOrder.code : BarrierOrder → Nat
  | .raise => 1
  | .lower => 2

def Tracking.code : Tracking → Nat
  | .inactive => 0
  | .boundVisit => 1
  | .heldVisit => 2

def maintCode : MaintCode → Nat
  | .none => 0
  | .activate => 1
  | .deactivate => 2

def alarmCode : AlarmCode → Nat
  | .barrierMotor => 1
  | .armOff => 2
  | .supply => 3
  | .digitizer => 4

def DeckMethod.code : DeckMethod → Nat
  | .none => 0
  | .whole => 1
  | .axle => 2

def DeckState.code : DeckState → Nat
  | .noData => 0
  | .empty => 1
  | .motion => 2
  | .stable => 3
  | .overload => 4

def LoopState.code : LoopState → Nat
  | .stopped => 0
  | .running => 1
  | .pausing => 2
  | .paused => 3

def SlotStatus.code : SlotStatus → Nat
  | .ok => 0
  | .silent => 1
  | .check => 2
  | .address => 3
  | .kind => 4
  | .txVerify => 5
  | .unused => 6

def UnitState.code : UnitState → Nat
  | .absent => 0
  | .searching => 1
  | .good => 2
  | .lost => 3
  | .alarm => 4

def CountSelection.code : CountSelection → Nat
  | .rx => 0
  | .tx => 1
  | .both => 2

def ReportMode.code : ReportMode → Nat
  | .manual => 0
  | .interval => 1

def LoadStatus.code : LoadStatus → Nat
  | .loading => 0
  | .loaded => 1
  | .defaults => 2
  | .sumBad => 3
  | .absent => 4

def WriteResult.code : WriteResult → Nat
  | .ok => 0
  | .noAck => 1
  | .mismatch => 2

def putLane (n : Fin 4) : List Byte := put1 n.val
def putStamp (t : Stamp) : List Byte := put2 t.day ++ put2 t.minute

/-- R3: a weighing entry. -/
def Weighing.put (w : Weighing) : List Byte :=
  put1 w.role.code ++ putOpt putLane w.deck ++ putOpt (fun m => put1 m.code) w.method ++ putInt w.weight
    ++ putOpt (putList putInt) w.groups ++ put1 w.result.code ++ put1 w.standing.code ++ putMark w.legal
    ++ putStamp w.time

/-- R4: a tip entry. -/
def Tip.put (t : Tip) : List Byte :=
  put1 t.interval ++ put1 t.category ++ put1 t.source.code ++ putOpt putInt t.net

/-- R2: a visit record. -/
def Visit.put (v : Visit) : List Byte :=
  putOpt put4 v.ticket ++ put1 v.kind.code ++ put1 v.state.code
    ++ putOpt (fun st => put1 st.code) v.prior ++ putOpt (fun r => put1 r.code) v.reason
    ++ putOpt (putList (fun r => put1 r.code)) (if v.state = .held then some v.later else none)
    ++ putTag v.tag ++ put2 v.vehicle ++ putOpt put2 v.permit ++ putInt v.reservation
    ++ putMark v.inYard ++ putMark v.voidMark ++ putMark v.useTare ++ putOpt putLane v.lane
    ++ putOpt put2 v.bookingDay ++ putList Weighing.put v.weighings
    ++ putOpt (putList Tip.put) (if v.kind = .tip then some v.tips else none)
    ++ putOpt putInt v.netTotal ++ putOpt putMark v.legal
    ++ putOpt putStamp v.admittedAt ++ putOpt putStamp v.clearedAt ++ putOpt putStamp v.passedAt

/-- R26: a Change List entry. -/
def ChangeName.put : ChangeName → List Byte
  | .ticket t => put1 0 ++ put4 t
  | .handle h => put1 1 ++ put1 h

/-- R29, R32: a vehicle entry. -/
def Vehicle.put (v : Vehicle) : List Byte :=
  putTag v.tag ++ putOpt put2 v.defaultPermit ++ putInt v.payload ++ put1 v.axleGroups
    ++ putOpt (fun t => putInt t.kg) v.tare ++ putOpt (fun t => put2 t.day) v.tare
    ++ putOpt (fun t => put2 t.validity) v.tare ++ putMark v.refresh ++ putMark v.banned ++ put1 v.live

/-- R38: a permit. -/
def Permit.put (number : Nat) (p : Permit) : List Byte :=
  put2 number ++ put1 p.state.code ++ putInt p.balance ++ putInt p.reserved ++ put4 p.allowed.toNat
    ++ put1 p.primary ++ put2 p.expiry ++ put1 p.live

/-- R126: a capture result, with its reason where it FAILED. -/
def CaptureResult.put : CaptureResult → List Byte
  | .complete => put1 0 ++ putOpt put1 none
  | .part => put1 1 ++ putOpt put1 none
  | .failed r => put1 2 ++ putOpt put1 (some r.code)

/-- R69: a test result. The legal mark has a presence byte and is absent for a FAILED one (log 22). -/
def TestResult.put (r : TestResult) : List Byte :=
  r.result.put ++ put1 r.method.code ++ putOpt putInt r.weight ++ putOpt (putList putInt) r.groups
    ++ putOpt putMark r.legal ++ putStamp r.time

/-- R49: a tag entry. -/
def TagEntry.put (e : TagEntry) : List Byte := putTag e.tag ++ put1 e.frame ++ put2 e.age

/-- R75: the loop image. -/
def LoopImage.put (i : LoopImage) : List Byte :=
  putMark i.report.downClosed ++ putMark i.report.upClosed ++ putMark i.report.approach ++ putMark i.report.deck
    ++ putMark i.report.gate ++ putMark i.report.beyond ++ put1 (maintCode i.report.code) ++ putMark i.report.refused
    ++ put1 i.frame

/-- R72, R74: the lane record with its sequencer. -/
def putLaneStatus (l : Lane) (signal : Signal) (b : Barrier) : List Byte :=
  put1 l.mode.code ++ put1 l.state.code ++ putMark l.autoTake ++ putMark l.walkIn ++ putMark l.walkTare
    ++ putMark l.autoCapture ++ putOpt put4 l.bound ++ putOpt putTag l.boundTag ++ putOpt put4 l.heldVisit
    ++ putOpt putMark (if l.state = .settling ∨ l.state = .bound then some l.eligible else none)
    ++ putOpt put4 l.settle ++ putOpt put4 l.cycle ++ putOpt put4 l.recovery ++ putOpt put4 l.passage
    ++ putList TagEntry.put l.buffer
    ++ putOpt (fun r => put1 r.1.code ++ putTag r.2) l.lastRefusal ++ putOpt TestResult.put l.testResult
    ++ put1 (displayCode l.display.code) ++ put4 l.display.number ++ put1 (signalCode signal)
    ++ put1 b.state.code ++ put1 b.order.code ++ putOpt LoopImage.put b.image
    ++ put1 (driveCode (driveOf b l.state)) ++ putOpt put4 b.travel ++ putOpt put4 b.gateClear ++ put1 b.refusals
    ++ put1 b.tracking.code ++ putMark b.beyondSeen ++ putOpt put4 b.abandon

def Burst.put : Burst → List Byte
  | .open => put1 0
  | .fixed k => put1 k

/-- R112: engine state codes. -/
def Phase.code : Phase → Nat
  | .waiting => 1
  | .measuring => 2
  | .grouping => 3
  | .onGroup _ => 4

/-- R111: purposes, in the order of the rule. -/
def Purpose.code : Purpose → Nat
  | .visit _ _ => 0
  | .test => 1

/-- R111: the ticket a VISIT capture serves. -/
def Purpose.ticket? : Purpose → Option Nat
  | .visit t _ => some t
  | .test => none

/-- R111: the role of a VISIT capture. -/
def Purpose.role? : Purpose → Option Role
  | .visit _ role => some role
  | .test => none

/-- R111: a settled group with the zero mark of its reading. -/
def Group.put (g : Group) : List Byte := putInt g.weight ++ put1 (if g.inRange then 0 else 1)

/-- R111: the last outcome; a role stands for a VISIT capture. The rule lists no ticket here. -/
def LastOutcome.put (o : LastOutcome) : List Byte :=
  o.result.put ++ put1 o.purpose.code ++ putOpt (fun r => put1 r.code) o.purpose.role? ++ put1 o.method.code
    ++ putOpt putInt o.weight ++ putOpt putMark o.legal

/-- R111, R195: a Capture Engine, each conditional field with a presence byte of its own. -/
def Engine.put (e : Engine) : List Byte :=
  let axle := e.run.filter (fun c => c.method = .axleSum)
  put1 (match e.run with
    | none => 0
    | some c => c.phase.code)
    ++ putOpt (fun c => put1 c.purpose.code) e.run
    ++ putOpt put4 (e.run.bind (·.purpose.ticket?))
    ++ putOpt (fun r => put1 r.code) (e.run.bind (·.purpose.role?))
    ++ putOpt (fun c => put1 c.method.code) e.run
    ++ putOpt (fun c => c.burst.put) axle
    ++ putOpt (fun c => putList Group.put c.groups) axle
    ++ putOpt (fun c => put1 c.counted) axle
    ++ putOpt (fun c => putMark c.missed) axle
    ++ putOpt (fun c => putMark c.beyondSeen) axle
    ++ putOpt (fun c => put4 (c.timer.getD 0)) e.run
    ++ put1 e.failures
    ++ putOpt LastOutcome.put e.lastOutcome

/-- R91, R108: a deck record with its zero figures, its engine and its digitizer's state. An enabled deck's tracking
timer is sent as 0 once it has expired; the two zero figures have presence bytes, absent for a deck that is not enabled
(log 22). -/
def putDeckStatus (d : Deck) (offset range : Option Int) (e : Engine) (u : UnitState) : List Byte :=
  put1 d.method.code ++ putMark d.params.isSome
    ++ putOpt (fun p => put4 p.zero) d.params ++ putOpt (fun p => put4 p.span) d.params
    ++ putOpt (fun p => put4 p.capacity) d.params ++ putOpt (fun p => put4 p.division) d.params
    ++ putOpt (fun p => put2 p.minWeigh) d.params ++ put1 (if d.certified then 0 else 1)
    ++ putOpt (fun _ => put4 d.workingZero) d.params
    ++ putOpt (fun _ => put1 (if d.zeroFault then 1 else 0)) d.params ++ put1 d.state.code
    ++ putOpt (fun x => put4 x.raw ++ putMark x.overRange ++ put1 x.frame) d.last
    ++ putOpt (fun x => putInt x.kg) d.last ++ putOpt (fun x => putInt x.weight) d.last
    ++ putOpt (fun w => putInt w.ref ++ put2 w.age ++ put2 w.count ++ putMark w.settled) d.window
    ++ put1 d.noData ++ putOpt (fun _ => put4 (d.tracking.getD 0)) d.params ++ putMark (d.state = .overload)
    ++ putOpt putInt offset ++ putOpt putInt range ++ e.put ++ put1 u.code

/-- R181: a slot table entry as a byte. -/
def SlotEntry.code (e : SlotEntry) : Nat :=
  (match e.unit with
    | none => 15
    | some u => u.val) + (match e.dir with
    | .out => 0
    | .inward => 16)

/-- R152: the loop record. The published statuses are 23 bytes with no count, the outbound messages one list of bytes
a unit. The working status is a list of the slots that had a step, each its number byte and its status byte (log 22). -/
def putLoopStatus (l : Loop) (outbound : List (List Byte)) : List Byte :=
  put1 l.state.code ++ put1 l.frameLength ++ put1 l.period ++ put1 l.frameNo ++ putOpt put1 l.position
    ++ l.slots.flatMap (fun e => put1 e.code) ++ l.addresses.toList.flatMap put1
    ++ putOpt (fun p => p.statuses.flatMap (fun st => put1 st.code) ++ put1 p.frame) l.published
    ++ putList (fun (k, st) => put1 k ++ put1 st.code) l.working
    ++ putMark l.tableChanged ++ l.inject.toList.flatMap putMark ++ putMark l.autoStart
    ++ outbound.flatMap (putList (fun b => [b]))

def Snapshot.put (sn : Snapshot) : List Byte := put2 sn.count ++ putMark sn.overflow

/-- R154: a detector. The frames since the tolerated absence have a presence byte and are absent where none is held
(log 22). -/
def Detector.put (d : Detector) : List Byte :=
  putMark d.asserted ++ putMark d.seen ++ put2 d.run ++ putOpt put1 d.tolerated ++ put1 d.absence

/-- R154, R167: a unit record, the unit's slots and its loop address. -/
def putUnitStatus (u : Fin 8) (r : UnitRec) (slots : List Nat) (address : Nat) : List Byte :=
  put1 r.state.code ++ put2 r.goodRun ++ put2 r.badRun ++ putOpt (fun c => put1 (alarmCode c)) r.alarmCode
    ++ putOpt put1 (if r.state = .alarm then some r.alarmFree else none) ++ putMark r.alarmSeen
    ++ put2 r.counter ++ put1 r.selection.code ++ put1 r.report.code ++ putMark r.overflow
    ++ putOpt Snapshot.put r.snapshot
    ++ putOpt putMark (if u.val < 4 then some r.autoSwitch else none)
    ++ putOpt Detector.put (if u.val < 4 then some r.activate else none)
    ++ putOpt Detector.put (if u.val < 4 then some r.deactivate else none)
    ++ putList put1 slots ++ put1 address

/-- R184: what every answer to SETTING READ carries. -/
def LoaderView.put (v : LoaderView) : List Byte :=
  put1 v.status.code ++ put1 v.lockBoundary ++ putMark v.writing
    ++ putOpt (fun w => put1 w.result.code ++ put2 w.word) v.lastWrite

/-- R195: answer data, in the order the request's rule lists its fields. SETTING READ from either source carries the
word behind a presence byte and the mark that the store did not answer (log 22). -/
def Answer.put : Answer → List Byte
  | .empty => []
  | .ticket t => put4 t
  | .handle h => put1 h
  | .record slot v => v.put ++ (match slot with
    | none => []
    | some k => put1 k)
  | .changes names => putList ChangeName.put names
  | .vehiclePut index created => put2 index ++ putMark created
  | .vehicle index v inDate => v.put ++ put2 index ++ putOpt putMark inDate
  | .permitPut created => putMark created
  | .permit number p => p.put number
  | .balance kg => putInt kg
  | .laneState st => put1 st.code
  | .barrierState st => put1 st.code
  | .lane l signal b => putLaneStatus l signal b
  | .zeroOffset kg => putInt kg
  | .deck d offset range e u => putDeckStatus d offset range e u
  | .frameNumber n => put1 n
  | .loopState st => put1 st.code
  | .loop l outbound => putLoopStatus l outbound
  | .snapshot sn => sn.put
  | .unit u r slots address => putUnitStatus u r slots address
  | .setting word noAnswer view => putOpt (fun w => put2 w.toNat) word ++ putMark noAnswer ++ view.put
  | .settingRefused view => view.put
  | .clock day minute isSet => put2 day ++ put2 minute ++ putMark isSet
  | .identity part status writing => put2 part ++ put1 status.code ++ putMark writing
  | .notices latched mask levels => putWords latched.toList ++ putWords mask.toList ++ putWords levels.toList

/-! ### Response frames (R190, R191) -/

/-- R191: a response frame: condition, request code, status, busy fields, answer data. -/
def responseFrame (condition : Nat) (code : Byte) (st : Status) (busy : Bool) (busyCode : Byte)
    (data : List Byte) : List Byte :=
  let body := put1 condition ++ [code] ++ put1 st.code
    ++ put1 (if busy then Status.portBusy.code else Status.ok.code) ++ [busyCode] ++ data
  let frame := put2 (body.length + 1) ++ body
  frame ++ [-(byteSum frame)]

/-- R190: the response frame built from the buffer as it stands. -/
def Port.response (p : Port) : List Byte :=
  match p.buffer with
  | .none => responseFrame 0 0 .notReady p.busy p.busyCode []
  | .pending code => responseFrame 1 code .notReady p.busy p.busyCode []
  | .answer code st data => responseFrame 2 code st p.busy p.busyCode data.put

end Sys2Proof.Machine
end

