-- ==== Sys2Proof/Machine/Port.lean ====
section
/-! DEFINITION. The Request Port (R190 to R193): how a request is taken, dropped, answered or answered NOT_READY. -/

namespace Sys2Proof.Machine

/-- What a block gives back for a request (R193): the state, the status and the answer data. -/
abbrev Reply := State × Status × Answer

namespace State

/-- R192: the port takes a request that comes in a frame of its own while it is free, and the request that a taken
frame has handed to its block (log 2). -/
def portTakes (s : State) (c : Instr) : Bool :=
  match s.port.buffer with
  | .none => true
  | .pending _ => decide (s.port.handed = some c)
  | .answer _ _ _ => false

/-- R192: a frame dropped by a port that is not free. -/
def portBusy (s : State) (code : Byte) : State :=
  { s with port := { s.port with busy := true, busyCode := code } }

/-- R192: a request that the port does not take: the step of one that was taken within another step (log 31), or a frame
that is dropped. -/
def turnAway (s : State) (c : Instr) (code : Byte) : State :=
  if s.port.handed = some c then { s with port := { s.port with handed := none } } else s.portBusy code

/-- R193: the buffer enters ANSWER. -/
def answer (s : State) (code : Byte) (st : Status) (data : Answer) : State :=
  { s with port := { s.port with buffer := .answer code st data, handed := none } }

/-- R193: every request but IDENTIFY is answered NOT_READY. -/
def notReady (s : State) : Bool := decide (s.loader.status = .loading) || s.restarting

/-- R193: the block's reply becomes the answer. -/
def replied (r : Reply) (code : Byte) : State := r.1.answer code r.2.1 r.2.2

/-- A refusal that changes nothing (R193). -/
def refuse (s : State) (st : Status) : Reply := (s, st, .empty)

/-- An answer OK with no data. -/
def done (s : State) : Reply := (s, .ok, .empty)

end State

/-- R193, R194: the code of a request, as its byte. -/
def codeByte (c : Instr) : Byte := BitVec.ofNat 8 (requestCode c)

/-- R192: a request reaches the port: dropped when the port does not take it. -/
def onPort (c : Instr) (s : State) (body : State → State) : Result :=
  whileUp s (fun s => if s.portTakes c then body s else s.turnAway c (codeByte c))

/-- R193: a request reaches its block and is answered. -/
def request (c : Instr) (s : State) (body : State → Reply) : Result :=
  onPort c s (fun s =>
    if s.notReady then s.answer (codeByte c) .notReady .empty else State.replied (body s) (codeByte c))

/-- R1, R193: a parameter out of its range is answered BAD_PARAMETER before anything else. -/
def inRange (ok : Bool) (s : State) (body : State → Reply) : Reply :=
  if ok then body s else s.refuse .badParameter

/-- A request that names a lane or a deck, with its other parameters in range. -/
def onLane (lane : Nat) (s : State) (body : Fin 4 → State → Reply) : Reply :=
  match lane? lane with
  | none => s.refuse .badParameter
  | some n => body n s

/-- A request that names a unit. -/
def onUnit (unit : Nat) (s : State) (body : Fin 8 → State → Reply) : Reply :=
  match unit? unit with
  | none => s.refuse .badParameter
  | some u => body u s

/-- A request that names a record: NOT_FOUND where no live record bears the name (R1). -/
def onRecord (found : Option (Nat × Visit)) (s : State) (body : Nat → Visit → State → Reply) : Reply :=
  match found with
  | none => s.refuse .notFound
  | some (slot, v) => body slot v s

/-! ### Transactions (R190, R192) -/

namespace State

/-- R190: the host clocked out the whole of an answer. -/
def wasRead (x : Sending) (sent : List Byte) : Bool := x.wasAnswer && decide (x.frame.length ≤ sent.length)

/-- R190: at the rise of CS_N, the read. -/
def judgeRead (s : State) (x : Sending) (sent : List Byte) : State :=
  if wasRead x sent then
    { s with port := { s.port with
        buffer := .none, busy := false, busyCode := 0, handed := none, sending := none } }
  else { s with port := { s.port with sending := none } }

/-- R192: byte 2 of a frame, or the free value where it never came (log 10). -/
def frameCode (s : State) (rest : List Byte) : Byte :=
  match rest with
  | b :: _ => b
  | [] => Config.frameCode s.free

/-- Advances the counter of free values where byte 2 never came. -/
def spendFrameCode (s : State) (rest : List Byte) : State :=
  if rest.isEmpty then { s with free := s.free + 1 } else s

/-- R192: a request frame that was sent. -/
def judgeSent (s : State) (n : Byte) (rest : List Byte) (calEn : Bool) : State :=
  let code := s.frameCode rest
  let s := s.spendFrameCode rest
  match s.port.buffer with
  | .pending _ | .answer _ _ _ => s.portBusy code
  | .none =>
    match judgeFrame n rest calEn with
    | .failed st => s.answer code st .empty
    | .taken c => { s with port := { s.port with buffer := .pending code, handed := some c } }

/-- R190, R191: the frame in the bytes sent, if there is one: a first byte other than 0 opens it. -/
def judgeBytes (s : State) (sent : List Byte) (calEn : Bool) : State :=
  match sent with
  | [] => s
  | n :: rest => if n = 0 then s else s.judgeSent n rest calEn

end State

end Sys2Proof.Machine
end

