-- ==== Sys2Proof/Machine/Visits.lean ====
section
/-! DEFINITION. The meanings of the Visit Table's requests (R8, R14 to R16, R20, R24 to R26, R54, R170, R174 to R177).
-/

namespace Sys2Proof.Machine

namespace State

/-! ### ADMIT and CALL (R8, R11, R54) -/

/-- R8: the tag an ADMIT names; none where the handle's slot holds no BOOKED record. -/
def admitTag (s : State) : AdmitName → Option Tag
  | .tag t => some t
  | .handle h =>
    match s.visit h with
    | none => none
    | some v => if v.state = .booked then some v.tag else none

/-- R1: a tag is always in range, a handle is 0 to 191. -/
def admitNameOk : AdmitName → Bool
  | .tag _ => true
  | .handle h => handleOk h

/-- R11: a refused ADMIT. An unknown handle's tag is a free value (log 11). -/
def refuseAdmit (s : State) (n : Fin 4) (st : Status) (tag : Option Tag) : Reply :=
  if st = .laneBusy ∨ st = .tooSoon then s.refuse st
  else match tag with
  | some t => (s.refuseAtLane n st t, st, .empty)
  | none => ({ s.refuseAtLane n st (Config.refusedTag s.free) with free := s.free + 1 }, st, .empty)

/-- R8, R54: ADMIT at a lane. -/
def admitAt (s : State) (n : Fin 4) (name : AdmitName) : Reply :=
  if (s.lane n).mode ≠ .entry then s.refuse .badParameter
  else match s.admission n (s.admitTag name) with
  | .error st => s.refuseAdmit n st (s.admitTag name)
  | .ok c => (s.grantAdmission n c, .ok, .ticket s.issuedTicket)

/-- R18, R54: CALL at a lane. A bind that leaves the lane IDLE again has it try its buffer (R56). -/
def callAt (s : State) (n : Fin 4) (ticket : Nat) : Reply :=
  if (s.lane n).mode ≠ .exit ∧ (s.lane n).mode ≠ .internal then s.refuse .badParameter
  else match s.bindClaim n (s.byTicket ticket) with
  | .error st => s.refuse st
  | .ok s' => (s'.tryBuffer n).done

/-! ### BOOK, AMEND, LOOKUP (R14 to R16) -/

/-- R14: the permit a booking names, where the number fits the kind. -/
def bookingPermit? (kind : VisitKind) (permit : Nat) : Option (Option Nat) :=
  match kind with
  | .tip => if permitOk permit then some (some permit) else none
  | .load => if permit = 0 then some none else none

/-- R14: the named permit is missing from the Permit Table. -/
def permitMissing (s : State) : Option Nat → Bool
  | none => false
  | some number => (s.permits.get number).isNone

/-- R14: BOOK with its parameters in range. -/
def bookVisit (s : State) (tag : Tag) (kind : VisitKind) (permit : Option Nat) (useTare : Bool) (day : Nat) : Reply :=
  match s.vehicleByTag tag with
  | none => s.refuse .notFound
  | some (index, _) =>
    if s.permitMissing permit then s.refuse .notFound
    else if (s.byTagBooked tag).isSome then s.refuse .exists
    else match s.vt.records.lowestFree Config.visitSlots with
    | none => s.refuse .tableFull
    | some slot =>
      let v := newVisit kind tag index permit useTare (some day)
      ((((s.addLive v 1).setVisit slot v).touch slot), .ok, .handle slot)

/-- R15: AMEND of a record. -/
def amendVisit (s : State) (slot : Nat) (v : Visit) (useTare : Bool) (day : Nat) : Reply :=
  match v.state with
  | .booked => ((s.setVisit slot { v with useTare := useTare, bookingDay := some day }).touch slot).done
  | .inYard => ((s.setVisit slot { v with useTare := useTare }).touch slot).done
  | .admitting | .reweighing | .exiting | .cleared | .done | .held | .void => s.refuse .wrongState

/-- R16: the record a LOOKUP finds. -/
def lookupRecord (s : State) : LookupName → Option (Nat × Visit)
  | .ticket t => s.byTicket t
  | .handle h => s.byHandle h
  | .tag t =>
    match s.byTagInProgress t with
    | some r => some r
    | none => s.byTagBooked t

/-- R1: the ranges of a LOOKUP. -/
def lookupOk : LookupName → Bool
  | .ticket t => ticketOk t
  | .handle h => handleOk h
  | .tag _ => true

/-! ### HOLD, RELEASE HOLD, VOID (R24, R170, R174 to R177) -/

/-- R170: HOLD of a record. -/
def holdVisit (s : State) (slot : Nat) (v : Visit) : Reply :=
  match v.state with
  | .booked => if (s.byTagInProgress v.tag).isSome then s.refuse .inYard else (s.holdClaim slot .host).done
  | .inYard => (s.holdClaim slot .host).done
  | .held => (s.holdClaim slot .host).done
  | .admitting | .reweighing | .exiting | .cleared | .done | .void => s.refuse .wrongState

/-- R174: the record without its hold fields, in a state. -/
def unheld (v : Visit) (st : VisitState) : Visit :=
  { v with state := st, prior := none, reason := none, later := [] }

/-- R174: a release that needs no lane. -/
def restoreTo (s : State) (slot : Nat) (v : Visit) (st : VisitState) : State :=
  let v' := unheld v st
  let s := ((s.endTracking v.ticket).setVisit slot v').touch slot
  if v'.finished then s.complete slot else s

/-- R175: the lane mode that fits a prior state. -/
def modeFits (prior : VisitState) (mode : LaneMode) : Bool :=
  match prior, mode with
  | .admitting, .entry => true
  | .reweighing, .internal => true
  | .exiting, .exit => true
  | .cleared, .exit => true
  | _, _ => false

/-- R175: the record holds a VALID COMPLETE entry of a role from place `k` of its list on. -/
def holdsWeighing (v : Visit) (role : Role) (k : Nat) : Bool :=
  (v.weighings.drop k).any (fun w => decide (w.role = role) && w.counted)

/-- R175: the grant of a rebind carries the visit as eligible. -/
def eligibleAtRebind (v : Visit) (prior : VisitState) : Bool :=
  match prior with
  | .admitting => holdsWeighing v .entry 0
  | .reweighing => holdsWeighing v .reweigh v.stopMark
  | .cleared => true
  | .booked | .inYard | .exiting | .done | .held | .void => false

/-- R175: a release that binds the record to a lane. -/
def rebind (s : State) (slot : Nat) (v : Visit) (prior : VisitState) (lane : Option (Fin 4)) : Reply :=
  match lane with
  | none => s.refuse .badParameter
  | some n =>
    if !modeFits prior (s.lane n).mode then s.refuse .badParameter
    else if prior = .exiting ∧ v.inYard = false then s.refuse .wrongState
    else match s.laneRefusal n with
    | some st => s.refuse st
    | none =>
      ((s.endTracking v.ticket).bindRecord n slot (unheld v prior) prior (eligibleAtRebind v prior)).done

/-- R174: RELEASE HOLD of a record. -/
def releaseVisit (s : State) (slot : Nat) (v : Visit) (lane : Option (Fin 4)) : Reply :=
  match v.state, v.prior with
  | .held, some .booked =>
    if (s.byTagBooked v.tag).isSome then s.refuse .exists else (s.restoreTo slot v .booked).done
  | .held, some .inYard => (s.restoreTo slot v .inYard).done
  | .held, some .cleared =>
    if v.inYard then s.rebind slot v .cleared lane
    else (s.restoreTo slot v (if v.voidMark then .void else .done)).done
  | .held, some .admitting => s.rebind slot v .admitting lane
  | .held, some .reweighing => s.rebind slot v .reweighing lane
  | .held, some .exiting => s.rebind slot v .exiting lane
  | _, _ => s.refuse .wrongState

/-- R24: the record as VOID leaves it. -/
def voidedVisit (v : Visit) : Visit := { unheld v .void with voidMark := true, reservation := 0 }

/-- R24: VOID of an IN_YARD record, or of a HELD one with a prior state other than BOOKED. -/
def voidLive (s : State) (slot : Nat) (v : Visit) : State :=
  let s := s.endTracking v.ticket
  let s := match v.permit with
    | none => s
    | some number => s.addReserved number (-v.reservation)
  let s := (s.setVisit slot (voidedVisit v)).touch slot
  if v.inYard then s else s.complete slot

/-- R24, R177: VOID of a record. -/
def voidRecord (s : State) (slot : Nat) (v : Visit) : Reply :=
  if v.hasHandle then (s.removeVisit slot v).done
  else if v.state = .inYard ∨ v.state = .held then (s.voidLive slot v).done
  else s.refuse .wrongState

/-! ### RETIRE, NEXT DONE, TAKE CHANGES (R25, R26) -/

/-- R25: RETIRE of a record. -/
def retireVisit (s : State) (slot : Nat) (v : Visit) : Reply :=
  if v.finished then (s.removeVisit slot v).done else s.refuse .wrongState

/-- R25: the oldest record on the Completion List. -/
def nextDone (s : State) : Reply :=
  match s.vt.completion with
  | [] => s.refuse .notFound
  | slot :: _ =>
    match s.visit slot with
    | none => s.refuse .notFound
    | some v => (s, .ok, .record none v)

/-- R26: what a Change List entry names: the record's ticket, or its handle while it has none. -/
def changeName (s : State) (slot : Nat) : ChangeName :=
  match (s.visit slot).bind (·.ticket) with
  | some t => .ticket t
  | none => .handle slot

/-- R26: TAKE CHANGES. -/
def takeChanges (s : State) : Reply :=
  ({ s with vt := { s.vt with changes := s.vt.changes.drop 8 } }, .ok,
    .changes ((s.vt.changes.take 8).map s.changeName))

/-! ### TIP DECLARE (R20) -/

/-- R20, R4: a tip placed into a tip list in interval order. -/
def placeTip (t : Tip) : List Tip → List Tip
  | [] => [t]
  | u :: rest => if t.interval < u.interval then t :: u :: rest else u :: placeTip t rest

/-- R20: the category is in the permit's allowed set. -/
def categoryAllowed (s : State) (v : Visit) (category : Nat) : Bool :=
  match v.permit.bind (fun k => s.permits.get k) with
  | none => false
  | some p => p.allowed.getLsbD category

/-- R20: TIP DECLARE for a record. -/
def declareTip (s : State) (slot : Nat) (v : Visit) (category : Nat) : Reply :=
  let k := v.countedWeighings.length
  if v.kind = .load ∨ v.state ≠ .inYard then s.refuse .wrongState
  else if !s.categoryAllowed v category then s.refuse .categoryRefused
  else if k = 0 then s.refuse .wrongState
  else if k = Config.weighingPlaces then s.refuse .listFull
  else if v.tips.any (fun t => t.interval = k) then s.refuse .needsReweigh
  else ((s.setVisit slot { v with tips := placeTip ⟨k, category, .declared, none⟩ v.tips }).touch slot).done

/-! ### The host's bind claims (R53, R57) -/

/-- R8, R54: the reply to ADMIT. -/
def admitReply (s : State) (lane : Nat) (name : AdmitName) : Reply :=
  inRange (admitNameOk name) s (fun s => onLane lane s (fun n s => s.admitAt n name))

/-- R54: the reply to CALL. -/
def callReply (s : State) (lane ticket : Nat) : Reply :=
  inRange (ticketOk ticket) s (fun s => onLane lane s (fun n s => s.callAt n ticket))

/-- R174, R175: the reply to RELEASE HOLD. -/
def releaseReply (s : State) (name : RecordName) (lane : Option Nat) : Reply :=
  inRange (RecordName.inRange name && lane.all (fun k => decide (k < 4))) s (fun s =>
    onRecord (s.byName name) s (fun slot v s => s.releaseVisit slot v (lane.bind lane?)))

/-- R53: the reply to a request that is a bind claim at lane `n`; none for every other request. -/
def claimReply (s : State) (n : Fin 4) (c : Instr) : Option Reply :=
  match c with
  | .admitVisit lane name => if lane = n.val then some (s.admitReply lane name) else none
  | .call lane ticket => if lane = n.val then some (s.callReply lane ticket) else none
  | .releaseHold name lane => if lane = some n.val then some (s.releaseReply name lane) else none
  | _ => none

/-- R57: the host claim at lane `n` that a frame has handed on is taken within the step of another block. Its answer
stands, and its own step then finds it taken (log 31). None where no such claim waits. -/
def takeHandedClaim (s : State) (n : Fin 4) : Option State :=
  match s.port.buffer, s.port.handed with
  | .pending _, some c =>
    if s.notReady then none
    else (s.claimReply n c).map (fun r =>
      let t := replied r (codeByte c)
      { t with port := { t.port with handed := some c } })
  | _, _ => none

/-- R57: a host claim that waits may be taken between a lane's entry to IDLE and the try of a buffer that holds an
entry; whether it is, is a free value (log 31). -/
def meetClaim (s : State) (n : Fin 4) : State :=
  if !(s.lane n).autoTake || (s.lane n).buffer.isEmpty then s
  else match s.takeHandedClaim n with
  | none => s
  | some t =>
    if Config.claimFirst s.free then { t with free := t.free + 1 } else { s with free := s.free + 1 }

/-- R56, R57, R63: a lane that was not IDLE before and is IDLE now has entered IDLE, and tries its buffer, whatever a
host claim taken before the try has made of the lane. -/
def tryOnIdle (after : State) (n : Fin 4) (before : State) : State :=
  if (before.lane n).state ≠ .idle ∧ (after.lane n).state = .idle then (after.meetClaim n).makeTry n else after

end State

/-! ### The meanings -/

/-- R8, R54: ADMIT. -/
def execAdmit (lane : Nat) (name : AdmitName) (s : State) : Result :=
  request (.admitVisit lane name) s (fun s => s.admitReply lane name)

/-- R14: BOOK. -/
def execBook (tag : Tag) (kind permit useTare day : Nat) (s : State) : Result :=
  request (.book tag kind permit useTare day) s (fun s =>
    match VisitKind.ofCode? kind, flag? useTare with
    | some k, some u =>
      match State.bookingPermit? k permit with
      | none => s.refuse .badParameter
      | some p => inRange (dayOk day) s (fun s => s.bookVisit tag k p u day)
    | _, _ => s.refuse .badParameter)

/-- R16: LOOKUP. -/
def execLookup (name : LookupName) (s : State) : Result :=
  request (.lookup name) s (fun s => inRange (State.lookupOk name) s (fun s =>
    onRecord (s.lookupRecord name) s (fun slot v s => (s, .ok, .record (some slot) v))))

/-- R15: AMEND. -/
def execAmend (name : RecordName) (useTare day : Nat) (s : State) : Result :=
  request (.amend name useTare day) s (fun s => inRange (RecordName.inRange name && dayOk day) s (fun s =>
    match flag? useTare with
    | none => s.refuse .badParameter
    | some u => onRecord (s.byName name) s (fun slot v s => s.amendVisit slot v u day)))

/-- R170: HOLD. -/
def execHold (name : RecordName) (s : State) : Result :=
  request (.hold name) s (fun s => inRange (RecordName.inRange name) s (fun s =>
    onRecord (s.byName name) s (fun slot v s => s.holdVisit slot v)))

/-- R174, R175: RELEASE HOLD. -/
def execReleaseHold (name : RecordName) (lane : Option Nat) (s : State) : Result :=
  request (.releaseHold name lane) s (fun s => s.releaseReply name lane)

/-- R24, R177: VOID. -/
def execVoid (name : RecordName) (s : State) : Result :=
  request (.voidVisit name) s (fun s => inRange (RecordName.inRange name) s (fun s =>
    onRecord (s.byName name) s (fun slot v s => s.voidRecord slot v)))

/-- R25: RETIRE. -/
def execRetire (ticket : Nat) (s : State) : Result :=
  request (.retire ticket) s (fun s => inRange (ticketOk ticket) s (fun s =>
    onRecord (s.byTicket ticket) s (fun slot v s => s.retireVisit slot v)))

/-- R25: NEXT DONE. -/
def execNextDone (s : State) : Result := request .nextDone s State.nextDone

/-- R26: TAKE CHANGES. -/
def execTakeChanges (s : State) : Result := request .takeChanges s State.takeChanges

/-- R20: TIP DECLARE. -/
def execTipDeclare (ticket category : Nat) (s : State) : Result :=
  request (.tipDeclare ticket category) s (fun s =>
    inRange (ticketOk ticket && decide (category ≤ 31)) s (fun s =>
      onRecord (s.byTicket ticket) s (fun slot v s => s.declareTip slot v category)))

/-- R54: CALL. -/
def execCall (lane ticket : Nat) (s : State) : Result :=
  request (.call lane ticket) s (fun s => s.callReply lane ticket)

end Sys2Proof.Machine
end

