-- ==== Sys2Proof/Machine/Lanes.lean ====
section
/-! DEFINITION. The meanings of the Lane Controllers' requests (R52, R64, R65, R68, R70, R72, R89), and the entries to
and exits from Maintenance mode and FAULT that other steps share (R66, R68 to R70, R81). -/

namespace Sys2Proof.Machine

namespace State

/-! ### A completing reading between a request and its unbinding claim (R131) -/

/-- R131: a capture runs for the lane's bound visit. -/
def visitCaptureRuns (s : State) (n : Fin 4) : Bool :=
  match (s.engine n).run with
  | none => false
  | some c => c.purpose ≠ .test

/-- R94, R143: the deck takes the sample that the loop has delivered to it and that waits; none where none waits or the
deck would drop it. -/
def takeWaitingSample (s : State) (n : Fin 4) : Option State :=
  match s.loop.delivery, (s.deck n).params with
  | some ⟨.deckSample m raw overRange, frame⟩, some p =>
    if m = n ∧ s.digitizerDown n = false then
      some ({ s with loop := { s.loop with delivery := none } }.takeSample n p raw.toNat overRange frame)
    else none
  | _, _ => none

/-- The sample that led from `s` to `t` completed the capture at deck `n`. -/
def completesAt (s t : State) (n : Fin 4) : Bool :=
  s.visitCaptureRuns n && (t.engine n).run.isNone && decide ((t.engine n).lastOutcome.map (·.result) = some .complete)

/-- R64, R131: a lane that has taken LANE RELEASE, LANE RESET or MAINTAIN ON makes its unbinding claim next. A waiting
sample that completes the capture may be taken in between; whether it is, is a free value (log 39). The lane and its
barrier then pass over what the Visit Table reports. -/
def meetReading (s : State) (n : Fin 4) : State :=
  match s.takeWaitingSample n with
  | none => s
  | some t =>
    if s.completesAt t n then
      if Config.readingFirst s.free then
        ({ t with free := t.free + 1 }.setLane n (s.lane n)).setBarrier n (s.barrier n)
      else { s with free := s.free + 1 }
    else s

/-! ### Shared with other steps -/

/-- R66, R69: a fault of the lane's unit or barrier takes the lane to FAULT; CLOSED and FAULT do not change. -/
def faultLane (s : State) (n : Fin 4) (r : HoldReason) : State :=
  match (s.lane n).state with
  | .closed | .fault => s
  | .idle | .settling | .bound | .passing | .releasing | .maintenance => (s.holdAndAbort n r).enterFault n

/-- R81: the lane takes its barrier's report of FAULT; in MAINTENANCE it does not move (R69). -/
def barrierFaultAtLane (s : State) (n : Fin 4) : State :=
  if (s.lane n).state = .maintenance then s else s.faultLane n .barrierFault

/-- R79, R81: the barrier fails from a state other than FAULT and the lane takes the report. -/
def failBarrier (s : State) (n : Fin 4) : State :=
  if (s.barrier n).state = .fault then s
  else (s.setBarrier n (s.barrier n).fail).barrierFaultAtLane n

/-- R68: the lane enters Maintenance mode, its bound visit held first. -/
def startMaintenance (s : State) (n : Fin 4) : State := (s.holdAndAbort n .maintenance).enterMaintenance n

/-- R70: the lane leaves Maintenance mode for RELEASING, or for FAULT with its barrier in FAULT. -/
def endMaintenance (s : State) (n : Fin 4) : State :=
  let s' := s.abortCapture n
  if (s'.barrier n).state = .fault then s'.enterFault n else (s'.enterReleasing n none).tryOnIdle n s

/-! ### LANE MODE (R52) -/

/-- R52: the lane unit or the barrier puts an opening lane in FAULT. -/
def opensIntoFault (s : State) (n : Fin 4) : Bool :=
  decide ((s.unit (laneUnit n)).state = .lost) || decide ((s.unit (laneUnit n)).state = .alarm)
    || decide ((s.barrier n).state = .fault)

/-- R52: the settings of a LANE MODE are written, and the tag buffer emptied where the rule says so. -/
def writeMode (s : State) (n : Fin 4) (mode : LaneMode) (autoTake walkIn walkTare autoCapture : Bool) : State :=
  let l := s.lane n
  s.setLane n { l with
    mode := mode
    autoTake := autoTake
    walkIn := walkIn
    walkTare := walkTare
    autoCapture := autoCapture
    buffer := if l.mode = mode ∧ autoTake then l.buffer else [] }

/-- R52: the lane closes; its barrier order is LOWER (R77). -/
def closeLane (s : State) (n : Fin 4) : State :=
  (s.setLane n { s.lane n with state := .closed, boundTag := none, display := ⟨.closed, 0⟩ }).orderBarrier n .lower

/-- R52: a CLOSED lane opens. -/
def openLane (s : State) (n : Fin 4) : State :=
  if s.opensIntoFault n then s.enterFault n
  else s.setLane n { s.lane n with state := .idle, boundTag := none, display := ⟨.welcome, 0⟩ }

/-- R52: the lane's state after the settings are written. -/
def moveByMode (s : State) (n : Fin 4) : State :=
  match (s.lane n).state, (s.lane n).mode with
  | .idle, .closed => s.closeLane n
  | .closed, .entry => s.openLane n
  | .closed, .exit => s.openLane n
  | .closed, .internal => s.openLane n
  | _, _ => s

/-- R52: LANE MODE with its parameters in range. -/
def setMode (s : State) (n : Fin 4) (mode : LaneMode) (autoTake walkIn walkTare autoCapture : Bool) : Reply :=
  if (s.lane n).state = .idle ∨ (s.lane n).state = .closed then
    let s := (s.writeMode n mode autoTake walkIn walkTare autoCapture).moveByMode n
    (s, .ok, .laneState (s.lane n).state)
  else s.refuse .laneBusy

/-! ### LANE RELEASE (R64) -/

/-- R64: every entry appended during the binding is withdrawn. -/
def withdrawBinding (v : Visit) : List Weighing :=
  v.weighings.zipIdx.map (fun (w, k) => if v.bindMark ≤ k then { w with standing := .withdrawn } else w)

/-- R64: the visit goes back to IN_YARD. -/
def returnToYard (s : State) (slot : Nat) (v : Visit) : State :=
  (s.setVisit slot { v with state := .inYard, lane := none, weighings := withdrawBinding v }).touch slot

/-- R64: the visit is held with RELEASED and the lane enters RELEASING with it as its held visit. -/
def releaseHeld (s : State) (n : Fin 4) : State :=
  (s.holdAndAbort n .released).enterReleasing n (s.lane n).bound

/-- R64: the visit goes back to the yard and the lane enters RELEASING with no held visit. -/
def releaseToYard (s : State) (n : Fin 4) (slot : Nat) (v : Visit) : State :=
  ((s.returnToYard slot v).abortCapture n).enterReleasing n none

/-- R64: the claim of LANE RELEASE at a lane in SETTLING or BOUND. A visit in CLEARED at a BOUND lane, or one that its
clearance has held, is met only after a completing reading (`meetReading`, log 39). -/
def releaseClaim (s : State) (n : Fin 4) : Reply :=
  match (s.lane n).mode, s.boundRecord n with
  | .entry, _ => ((s.releaseHeld n).tryOnIdle n s).done
  | .closed, _ => ((s.releaseHeld n).tryOnIdle n s).done
  | _, none => ((s.releaseHeld n).tryOnIdle n s).done
  | _, some (slot, v) =>
    if v.state = .reweighing ∨ v.state = .exiting then ((s.releaseToYard n slot v).tryOnIdle n s).done
    else if v.state = .cleared ∧ (s.lane n).state = .settling then s.refuse .wrongState
    else ((s.releaseHeld n).tryOnIdle n s).done

/-- R64, R131: LANE RELEASE at a lane in SETTLING or BOUND. -/
def releaseLane (s : State) (n : Fin 4) : Reply := (s.meetReading n).releaseClaim n

/-! ### LANE RESET (R65) -/

/-- R65 step 2: the barrier's FAULT is cleared and it is ordered to LOWER. -/
def resetBarrier (s : State) (n : Fin 4) : State :=
  (s.setBarrier n ((s.barrier n).clearFault (s.frames .travel))).orderBarrier n .lower

/-- R65 step 3: the lane enters FAULT rather than RELEASING. -/
def resetFaults (s : State) (n : Fin 4) (before : LaneState) : Bool :=
  let u := (s.unit (laneUnit n)).state
  if before = .fault then decide (u ≠ .good)
  else decide (u = .lost) || decide (u = .alarm) || decide (u = .absent)

/-- R65: the held visit of a lane that LANE RESET takes to RELEASING. -/
def resetHeld (l : Lane) : Option Nat :=
  match l.bound with
  | some t => some t
  | none => if l.state = .releasing then l.heldVisit else none

/-- R65 step 3: the lane's next state; a lane that stays in FAULT does not change. -/
def resetMove (s : State) (n : Fin 4) (before : Lane) : State :=
  if s.resetFaults n before.state then (if before.state = .fault then s else s.enterFault n)
  else s.enterReleasing n (resetHeld before)

/-- R65: the claims of a LANE RESET of a lane that is not CLOSED. A lane that step 3 takes through RELEASING to IDLE, its
recovery 0 and its barrier DOWN, makes no try of the buffer that step 4 empties (log 35). -/
def resetClaims (s : State) (n : Fin 4) : State :=
  let s' := (((s.holdAndAbort n .laneReset).resetBarrier n).resetMove n (s.lane n))
  s'.setLane n { s'.lane n with buffer := [] }

/-- R65, R131: LANE RESET of a lane that is not CLOSED. -/
def resetLane (s : State) (n : Fin 4) : State := (s.meetReading n).resetClaims n

/-! ### Maintenance requests (R68, R70, R89) -/

/-- R68, R131: MAINTAIN ON. -/
def maintainOn (s : State) (n : Fin 4) : Reply :=
  match (s.lane n).state with
  | .closed | .fault => s.refuse .wrongState
  | .maintenance => s.done
  | .idle | .settling | .bound | .passing | .releasing => ((s.meetReading n).startMaintenance n).done

/-- R70: MAINTAIN OFF. The state answered is the one after the whole move (log 35): IDLE where a recovery of 0 and the
barrier DOWN end RELEASING in the same step. -/
def maintainOff (s : State) (n : Fin 4) : Reply :=
  if (s.lane n).state = .maintenance then
    (s.endMaintenance n, .ok, .laneState ((s.endMaintenance n).lane n).state)
  else s.refuse .wrongState

/-- R89: a barrier order by request. -/
def workBarrier (s : State) (n : Fin 4) (o : BarrierOrder) : Reply :=
  if (s.lane n).state = .maintenance ∧ (s.barrier n).state ≠ .fault then
    (s.orderBarrier n o, .ok, .barrierState ((s.orderBarrier n o).barrier n).state)
  else s.refuse .wrongState

end State

/-! ### The meanings -/

/-- R52: LANE MODE. -/
def execLaneMode (lane mode autoTake walkIn walkTare autoCapture : Nat) (s : State) : Result :=
  request (.laneMode lane mode autoTake walkIn walkTare autoCapture) s (fun s => onLane lane s (fun n s =>
    match LaneMode.ofCode? mode, flag? autoTake, flag? walkIn, flag? walkTare, flag? autoCapture with
    | some m, some a, some w, some t, some c => s.setMode n m a w t c
    | _, _, _, _, _ => s.refuse .badParameter))

/-- R64: LANE RELEASE. -/
def execLaneRelease (lane : Nat) (s : State) : Result :=
  request (.laneRelease lane) s (fun s => onLane lane s (fun n s =>
    if (s.lane n).state = .settling ∨ (s.lane n).state = .bound then s.releaseLane n else s.refuse .wrongState))

/-- R65: LANE RESET. -/
def execLaneReset (lane : Nat) (s : State) : Result :=
  request (.laneReset lane) s (fun s => onLane lane s (fun n s =>
    if (s.lane n).state = .closed then s.refuse .wrongState
    else (s.resetLane n, .ok, .laneState ((s.resetLane n).lane n).state)))

/-- R68: MAINTAIN ON. -/
def execMaintainOn (lane : Nat) (s : State) : Result :=
  request (.maintainOn lane) s (fun s => onLane lane s (fun n s => s.maintainOn n))

/-- R70: MAINTAIN OFF. -/
def execMaintainOff (lane : Nat) (s : State) : Result :=
  request (.maintainOff lane) s (fun s => onLane lane s (fun n s => s.maintainOff n))

/-- R89: BARRIER RAISE. -/
def execBarrierRaise (lane : Nat) (s : State) : Result :=
  request (.barrierRaise lane) s (fun s => onLane lane s (fun n s => s.workBarrier n .raise))

/-- R89: BARRIER LOWER. -/
def execBarrierLower (lane : Nat) (s : State) : Result :=
  request (.barrierLower lane) s (fun s => onLane lane s (fun n s => s.workBarrier n .lower))

/-- R72: LANE STATUS. -/
def execLaneStatus (lane : Nat) (s : State) : Result :=
  request (.laneStatus lane) s (fun s => onLane lane s (fun n s =>
    (s, .ok, .lane (s.lane n) (s.signal n) (s.barrier n))))

end Sys2Proof.Machine
end

