-- ==== Sys2Proof/Machine/Units.lean ====
section
/-! DEFINITION. The meanings of the Unit Supervisor's requests (R162, R166, R167), the report interval (R163), and the
entries into unit states that a publication makes due (R157, R159, R165, R166). -/

namespace Sys2Proof.Machine

/-- R162: COUNTER MODE replaces the selection and the mode and clears the counter. -/
def UnitRec.setCounter (r : UnitRec) (sel : CountSelection) (rep : ReportMode) : UnitRec :=
  { r with selection := sel, report := rep, counter := 0, overflow := false }

/-- R162: the counter and the overflow mark are copied out and cleared. -/
def UnitRec.copyCounter (r : UnitRec) : UnitRec :=
  { r with snapshot := some ⟨r.counter, r.overflow⟩, counter := 0, overflow := false }

namespace State

/-- R162: COUNTER REPORT. -/
def counterReport (s : State) (u : Fin 8) : Reply :=
  (s.setUnit u (s.unit u).copyCounter, .ok, .snapshot ⟨(s.unit u).counter, (s.unit u).overflow⟩)

/-- R166: AUTO SWITCH names a lane unit. -/
def autoSwitch (s : State) (u : Fin 8) (on : Nat) : Reply :=
  match flag? on with
  | none => s.refuse .badParameter
  | some b =>
    if u.val < 4 then (s.setUnit u { s.unit u with autoSwitch := b }).done else s.refuse .badParameter

/-- R167: UNIT STATUS. -/
def unitStatus (s : State) (u : Fin 8) : Reply :=
  (s, .ok, .unit u (s.unit u) ((s.loop.ownedBy u).map (·.1)) (s.loop.addresses.get u))

/-- R163: a tick of the report interval for one unit. -/
def tickUnit (u : Fin 8) (s : State) : State :=
  if (s.unit u).report = .interval then
    (s.setUnit u (s.unit u).copyCounter).latch .counterReport u.val
  else s

/-! ### Entries into unit states -/

/-- R160: a unit's LOST or ALARM reaches its lane or deck. -/
def reportDown (s : State) (u : Fin 8) (r : HoldReason) : State :=
  match served u with
  | .lane n => s.faultLane n r
  | .deck n => s.enterNoData n

/-- R100, R126: the lane of a deck whose entry to NO_DATA may have ended a binding tries its buffer if it is IDLE. -/
def tryServed (after : State) (u : Fin 8) (before : State) : State :=
  match served u with
  | .lane n => after.tryOnIdle n before
  | .deck n => after.tryOnIdle n before

/-- R157, R160: the unit enters a state, and its level sources follow. -/
def enterUnitState (s : State) (u : Fin 8) (st : UnitState) : State :=
  (s.setUnit u { s.unit u with state := st }).followLevels

/-- R157: a GOOD unit enters LOST. -/
def enterLost (s : State) (u : Fin 8) : State :=
  ((s.enterUnitState u .lost).reportDown u .unitLost).tryServed u s

/-- R159: the state an alarm clears to. -/
def clearedTo (r : UnitRec) : UnitState := if Config.recoveryFrames ≤ r.goodRun then .good else .lost

/-- R159: the alarm clears. The lane is in FAULT and the deck in NO_DATA already. -/
def clearAlarm (s : State) (u : Fin 8) : State :=
  let s' := s.enterUnitState u (clearedTo (s.unit u))
  if clearedTo (s.unit u) = .lost then (s'.reportDown u .unitLost).tryServed u s else s'

/-- R165: a detector asserts. -/
def assertDetector (s : State) (n : Fin 4) (k : DetectorKind) : State :=
  (s.setDetector n k { s.detector n k with
    asserted := true, run := 0, tolerated := none, absence := 0, reached := false }).followLevels

/-- R166: a detector deasserts; its absence run starts from 0 again (log 21). -/
def deassertDetector (s : State) (n : Fin 4) (k : DetectorKind) : State :=
  (s.setDetector n k Detector.cleared).followLevels

/-- R166, R68, R70: the rise of a detector moves the lane with automatic switching on. -/
def detectorMoves (s : State) (n : Fin 4) (k : DetectorKind) : State :=
  match k, (s.lane n).state with
  | .activate, .idle => s.startMaintenance n
  | .activate, .settling => s.startMaintenance n
  | .activate, .bound => s.startMaintenance n
  | .activate, .passing => s.startMaintenance n
  | .activate, .releasing => s.startMaintenance n
  | .deactivate, .maintenance => s.endMaintenance n
  | _, _ => s

end State

/-! ### The meanings -/

/-- R162: COUNTER MODE. -/
def execCounterMode (unit selection report : Nat) (s : State) : Result :=
  request (.counterMode unit selection report) s (fun s => onUnit unit s (fun u s =>
    match CountSelection.ofCode? selection, ReportMode.ofCode? report with
    | some sel, some rep => (s.setUnit u ((s.unit u).setCounter sel rep)).done
    | _, _ => s.refuse .badParameter))

/-- R162: COUNTER REPORT. -/
def execCounterReport (unit : Nat) (s : State) : Result :=
  request (.counterReport unit) s (fun s => onUnit unit s (fun u s => s.counterReport u))

/-- R166: AUTO SWITCH. -/
def execAutoSwitch (unit on : Nat) (s : State) : Result :=
  request (.autoSwitch unit on) s (fun s => onUnit unit s (fun u s => s.autoSwitch u on))

/-- R167: UNIT STATUS. -/
def execUnitStatus (unit : Nat) (s : State) : Result :=
  request (.unitStatus unit) s (fun s => onUnit unit s (fun u s => s.unitStatus u))

/-- R163: a tick of the one-second report interval. -/
def execReportIntervalTick (s : State) : Result := whileUp s (forUnits State.tickUnit)

/-- R157: a unit enters LOST. -/
def execUnitLostEntry (u : Fin 8) (s : State) : Result := when (s.lostDue u) s (fun s => s.enterLost u)

/-- R157: a unit enters GOOD. -/
def execUnitGoodEntry (u : Fin 8) (s : State) : Result := when (s.goodDue u) s (fun s => s.enterUnitState u .good)

/-- R159: an alarm clears. -/
def execAlarmClear (u : Fin 8) (s : State) : Result := when (s.alarmClearDue u) s (fun s => s.clearAlarm u)

/-- R165, R166: a detector asserts, and with automatic switching on its rise reaches the lane. -/
def execDetectorAssert (n : Fin 4) (k : DetectorKind) (s : State) : Result :=
  when (s.assertDue n k) s (fun s =>
    if (s.unit (laneUnit n)).autoSwitch then (s.assertDetector n k).detectorMoves n k else s.assertDetector n k)

/-- R166: a detector deasserts. -/
def execDetectorDeassert (n : Fin 4) (k : DetectorKind) (s : State) : Result :=
  when (s.deassertDue n k) s (fun s => s.deassertDetector n k)

end Sys2Proof.Machine
end

