-- ==== Sys2Proof/Machine/Expiries.lean ====
section
/-! DEFINITION. The expiries of the frame-counted timers (R51, R56, R58, R63, R78, R84, R86, R87, R103, R121) and a
deck's entry to NO_DATA (R99). -/

namespace Sys2Proof.Machine

namespace State

/-! ### Settling (R58, R115) -/

/-- R58 step 3: automatic capture: the list is judged first, then the deck. -/
def autoCaptureAt (s : State) (n : Fin 4) : State :=
  match s.boundRecord n with
  | none => s
  | some (_, v) =>
    if v.listFull then s.holdToReleasing n .listFull
    else if (s.deck n).params.isSome then s.startVisitCapture n none else s

/-- R58: the lane is BOUND, its settle timer stopped. -/
def enterBound (s : State) (n : Fin 4) : State := s.setLane n { s.lane n with state := .bound, settle := none }

/-- R58: what follows BOUND, in the rule's order. -/
def afterSettling (s : State) (n : Fin 4) : State :=
  if (s.lane n).eligible then s.enterPassing n
  else match (s.lane n).pendingCapture with
  | some c => (s.setLane n { s.lane n with pendingCapture := none }).startVisitCapture n c.burst
  | none => if (s.lane n).autoCapture then s.autoCaptureAt n else s

/-- R58: the settle timer expires. -/
def endSettling (s : State) (n : Fin 4) : State := ((s.enterBound n).afterSettling n).tryOnIdle n s

/-! ### The other lane timers -/

/-- R56: the cycle timer expires, and an IDLE lane tries its buffer. -/
def endCycle (s : State) (n : Fin 4) : State := (s.setLane n { s.lane n with cycle := none }).tryBuffer n

/-- R63: the recovery timer expires, and RELEASING ends if the barrier is DOWN. -/
def endRecovery (s : State) (n : Fin 4) : State :=
  ((s.setLane n { s.lane n with recovery := none }).endReleasing n).tryOnIdle n s

/-- R86, R87: PASSING ends with its visit held. -/
def endPassing (s : State) (n : Fin 4) (r : HoldReason) : State := (s.holdToReleasing n r).tryOnIdle n s

/-! ### Barrier timers -/

/-- R78: the barrier travels no longer: FAULT. -/
def endTravel (s : State) (n : Fin 4) : State :=
  let s' := s.setBarrier n { s.barrier n with travel := none }
  match (s.barrier n).state with
  | .raising | .lowering => s'.failBarrier n
  | .down | .up | .fault => s'

/-- R84: the gate-clear delay has passed. -/
def endGateClear (s : State) (n : Fin 4) : State :=
  s.setBarrier n ((s.barrier n).lowerNow (s.frames .travel))

/-! ### Capture, tracking and missing data -/

/-- R121: the capture limit. -/
def endCapture (s : State) (n : Fin 4) : State :=
  match (s.engine n).run with
  | none => s
  | some c => (if c.hasGroups then s.settleGathered n c true c.gathered else s.settleFailed n c .noStable).tryOnIdle n s

/-- R103: zero tracking may act again. -/
def trackingExpired (s : State) (n : Fin 4) : State := s.setDeck n { s.deck n with tracking := none }

/-- R99: four frames without a sample. -/
def missData (s : State) (n : Fin 4) : State := (s.enterNoData n).tryOnIdle n s

end State

/-! ### The meanings -/

/-- R58: SETTLE_TIMER_EXPIRY. -/
def execSettleTimerExpiry (n : Fin 4) (s : State) : Result := when (s.settleDue n) s (fun s => s.endSettling n)

/-- R56: CYCLE_TIMER_EXPIRY. -/
def execCycleTimerExpiry (n : Fin 4) (s : State) : Result := when (s.lane n).cycle.due s (fun s => s.endCycle n)

/-- R63: RECOVERY_TIMER_EXPIRY. -/
def execRecoveryTimerExpiry (n : Fin 4) (s : State) : Result :=
  when (s.lane n).recovery.due s (fun s => s.endRecovery n)

/-- R87: PASSAGE_TIMEOUT. -/
def execPassageTimeout (n : Fin 4) (s : State) : Result :=
  when (s.lane n).passage.due s (fun s => s.endPassing n .passageTimeout)

/-- R78: TRAVEL_TIMER_EXPIRY. -/
def execTravelTimerExpiry (n : Fin 4) (s : State) : Result :=
  when (s.barrier n).travel.due s (fun s => s.endTravel n)

/-- R84: GATE_CLEAR_TIMER_EXPIRY. -/
def execGateClearTimerExpiry (n : Fin 4) (s : State) : Result :=
  when (s.barrier n).gateClear.due s (fun s => s.endGateClear n)

/-- R86: ABANDON_TIMER_EXPIRY. -/
def execAbandonTimerExpiry (n : Fin 4) (s : State) : Result :=
  when (s.barrier n).abandon.due s (fun s => s.endPassing n .abandoned)

/-- R121: CAPTURE_TIMER_EXPIRY. -/
def execCaptureTimerExpiry (n : Fin 4) (s : State) : Result := when (s.captureDue n) s (fun s => s.endCapture n)

/-- R103: TRACKING_TIMER_EXPIRY. -/
def execTrackingTimerExpiry (n : Fin 4) (s : State) : Result :=
  when (s.deck n).tracking.due s (fun s => s.trackingExpired n)

/-- R99: NO_DATA_ENTRY. -/
def execNoDataEntry (n : Fin 4) (s : State) : Result := when (s.noDataDue n) s (fun s => s.missData n)

end Sys2Proof.Machine
end

