-- ==== Sys2Proof/Machine/Messages.lean ====
section
/-! DEFINITION. The messages the loop delivers to their blocks (R143): LANE_STATUS (R75, R78 to R88), TAG_READ (R55),
UNIT_ALARM (R79, R158), DECK_SAMPLE (R94). -/

namespace Sys2Proof.Machine

namespace State

/-! ### LANE_STATUS -/

/-- R165: the maintenance code of an image sets the code seen mark of its detector. -/
def seeCode (s : State) (n : Fin 4) (code : MaintCode) : State :=
  match code with
  | .none => s
  | .activate => s.setDetector n .activate { s.detector n .activate with seen := true }
  | .deactivate => s.setDetector n .deactivate { s.detector n .deactivate with seen := true }

/-- R75: the image is replaced whole. -/
def setImage (s : State) (n : Fin 4) (r : LaneReport) (frame : Nat) : State :=
  s.setBarrier n { s.barrier n with image := some ⟨r, frame⟩ }

/-- R78 to R84: the barrier judges the image, and the lane takes a change to FAULT (R81) or to DOWN (R63). -/
def judgeBarrier (s : State) (n : Fin 4) : State :=
  let b := (s.barrier n).judge (s.frames .travel) (s.frames .gateClear)
  let s' := s.setBarrier n b
  if b.state = (s.barrier n).state then s'
  else match b.state with
  | .fault => s'.barrierFaultAtLane n
  | .down => s'.endReleasing n
  | .raising | .up | .lowering => s'

/-- R61, R85: the passage of the bound visit is complete: it moves on, and the lane enters RELEASING. -/
def completePassage (s : State) (n : Fin 4) : State :=
  let s' := match s.boundRecord n with
    | none => s
    | some (slot, v) => s.passage n slot v
  s'.enterReleasing n none

/-- R88, R173: the passage of the held visit is complete: it is credited, and the lane stops watching. -/
def completeUnattended (s : State) (n : Fin 4) : State :=
  let s' := match (s.lane n).heldVisit with
    | none => s
    | some t => s.creditPassage n t
  (s'.setTracking n .inactive (s'.barrier n).beyondSeen).setLane n { s'.lane n with heldVisit := none }

/-- R85, R88: passage tracking judges the image. -/
def trackPassage (s : State) (n : Fin 4) : State :=
  let b := (s.barrier n).track
  let s := s.setBarrier n b
  match b.tracking with
  | .inactive => s
  | .boundVisit => if b.passed then s.completePassage n else s
  | .heldVisit => if b.passed then s.completeUnattended n else s

/-- R86: the abandon timer follows its condition. -/
def watchAbandoned (s : State) (n : Fin 4) : State :=
  s.setBarrier n ((s.barrier n).watchAbandon (s.frames .abandon))

/-- R75: a LANE_STATUS is taken; the order of judgement is log 19's. -/
def takeImage (s : State) (n : Fin 4) (r : LaneReport) (frame : Nat) : State :=
  ((((((s.seeCode n r.code).setImage n r frame).captureImage n r).judgeBarrier n).trackPassage n).watchAbandoned
    n).tryOnIdle n s

/-! ### TAG_READ -/

/-- R55: the lane drops the read. -/
def dropsTag (s : State) (n : Fin 4) (tag : Tag) : Bool :=
  let l := s.lane n
  (match l.state with
    | .closed | .maintenance | .fault => true
    | .idle | .settling | .bound | .passing | .releasing => false)
  || !l.autoTake || decide (l.boundTag = some tag)

/-- R55: the buffer with its newer entry refreshed, where the read refreshes it. -/
def refreshed? (s : State) (n : Fin 4) (tag : Tag) (frame : Nat) : Option (List TagEntry) :=
  match (s.lane n).buffer.getLast? with
  | none => none
  | some e =>
    if e.tag = tag ∧ e.age < s.tagWindow then some ((s.lane n).buffer.dropLast ++ [⟨tag, frame, 0⟩]) else none

/-- R55: a read is added, and tried at once at an IDLE lane (R56). -/
def addTag (s : State) (n : Fin 4) (tag : Tag) (frame : Nat) : State :=
  (s.setLane n { s.lane n with buffer := (s.lane n).buffer ++ [⟨tag, frame, 0⟩] }).tryBuffer n

/-- R55: a TAG_READ is taken. -/
def readTag (s : State) (n : Fin 4) (tag : Tag) (frame : Nat) : State :=
  if s.dropsTag n tag then s
  else match s.refreshed? n tag frame with
  | some buffer => s.setLane n { s.lane n with buffer := buffer }
  | none => if (s.lane n).buffer.length < 2 then s.addTag n tag frame else s.latch .tagOverrun n.val

/-! ### UNIT_ALARM -/

/-- R158: the unit record takes an alarm. -/
def alarmed (r : UnitRec) (code : AlarmCode) : UnitRec :=
  { r with
    alarmCode := some code
    alarmSeen := true
    alarmFree := 0
    state := if r.state = .absent then .absent else .alarm }

/-- R158: the alarm puts the unit in ALARM from another state. -/
def entersAlarm (r : UnitRec) : Bool := decide (r.state ≠ .alarm) && decide (r.state ≠ .absent)

/-- R160: the alarm claim on the unit's lane or deck, made at the entry to ALARM. -/
def alarmClaim (s : State) (u : Fin 8) (entered : Bool) : State := if entered then s.reportDown u .unitAlarm else s

/-- R79: the alarm code faults the barrier of a lane unit. -/
def armAlarm (code : AlarmCode) : Bool := decide (code = .barrierMotor) || decide (code = .armOff)

/-- R79: the two claims of a BARRIER_MOTOR or ARM_OFF alarm at a lane, in an order left open (log 13). -/
def armClaims (s : State) (n : Fin 4) (entered : Bool) : State :=
  let first := Config.barrierClaimFirst s.free
  let s := { s with free := s.free + 1 }
  if first then (s.failBarrier n).alarmClaim (laneUnit n) entered
  else (s.alarmClaim (laneUnit n) entered).failBarrier n

/-- R79, R158: a UNIT_ALARM is taken. -/
def takeAlarm (s : State) (u : Fin 8) (code : AlarmCode) : State :=
  let entered := entersAlarm (s.unit u)
  let s' := (s.setUnit u (alarmed (s.unit u) code)).followLevels
  match served u with
  | .lane n => if armAlarm code then s'.armClaims n entered else s'.alarmClaim u entered
  | .deck n => (s'.alarmClaim u entered).tryOnIdle n s

/-! ### DECK_SAMPLE -/

/-- R94: a DECK_SAMPLE is taken, or dropped by a deck that is not enabled or whose digitizer is down. -/
def takeDeckSample (s : State) (n : Fin 4) (raw : Nat) (overRange : Bool) (frame : Nat) : State :=
  match (s.deck n).params with
  | none => s
  | some p => if s.digitizerDown n then s else (s.takeSample n p raw overRange frame).tryOnIdle n s

end State

/-- R143: a message step takes place when the loop delivers that message; its blocks take it with its frame number. A
message waits only while the loop turns: it is taken before the loop enters PAUSED (log 15), and LOOP STOP leaves none
(R132, R147, log 32). -/
def deliver (c : Instr) (s : State) (take : Nat → State → State) : Result :=
  whileUp s (fun s =>
    match s.loop.delivery with
    | none => s
    | some d =>
      if d.step = c then take d.frame { s with loop := { s.loop with delivery := none } } else s)

/-! ### The meanings -/

/-- R75: LANE_STATUS_MESSAGE. -/
def execLaneStatusMessage (n : Fin 4) (r : LaneReport) (s : State) : Result :=
  deliver (.laneStatusMessage n r) s (fun frame s => s.takeImage n r frame)

/-- R55: TAG_READ. -/
def execTagRead (n : Fin 4) (tag : Tag) (s : State) : Result :=
  deliver (.tagRead n tag) s (fun frame s => s.readTag n tag frame)

/-- R158: UNIT_ALARM. -/
def execUnitAlarm (u : Fin 8) (code : AlarmCode) (s : State) : Result :=
  deliver (.unitAlarm u code) s (fun _ s => s.takeAlarm u code)

/-- R94: DECK_SAMPLE. -/
def execDeckSample (n : Fin 4) (raw : BitVec 24) (overRange : Bool) (s : State) : Result :=
  deliver (.deckSample n raw overRange) s (fun frame s => s.takeDeckSample n raw.toNat overRange frame)

end Sys2Proof.Machine
end

