-- ==== Sys2Proof/Machine/Notifications.lean ====
section
/-! DEFINITION. The meanings of the port's own steps and requests and of the Notice Unit's (R190 to R193, R197, R198).
-/

namespace Sys2Proof.Machine

namespace State

/-- R190: the buffer's condition is ANSWER. -/
def answerReady (s : State) : Bool :=
  match s.port.buffer with
  | .answer _ _ _ => true
  | .none | .pending _ => false

/-- R190: a fall of CS_N: the response frame is built from the buffer as it stands. -/
def beginTransaction (s : State) : State :=
  { s with port := { s.port with sending := some ⟨s.answerReady, s.port.response⟩ } }

/-- R190, R192: a rise of CS_N: the read, then the frame. -/
def endTransaction (s : State) (x : Sending) (sent : List Byte) (calEn : Bool) : State :=
  ({ s with calEn := calEn }.judgeRead x sent).judgeBytes sent calEn

/-- R193: IDENTIFY. -/
def identify (s : State) : Reply :=
  (s, .ok, .identity Config.partNumber s.loader.status s.loader.writing.isSome)

/-- R198: NOTICE REPORT: the three sets, then the latch is cleared. -/
def noticeReport (s : State) : Reply :=
  ({ s with notices := { s.notices with latched := Vector.replicate 20 0 } }, .ok,
    .notices s.notices.latched s.notices.mask s.notices.levels)

/-- R197: NOTICE MASK. -/
def setMask (s : State) (words : List Word) : State := { s with notices := { s.notices with mask := maskOf words } }

/-- R197: NOTICE EDGE. -/
def setEdges (s : State) (words : List Word) : State := { s with notices := { s.notices with edges := edgesOf words } }

end State

/-! ### The meanings -/

/-- R190: TRANSACTION_START. -/
def execTransactionStart (s : State) : Result := when s.port.sending.isNone s State.beginTransaction

/-- R190, R192: TRANSACTION_END. -/
def execTransactionEnd (sent : List Byte) (calEn : Bool) (s : State) : Result :=
  whileUp s (fun s =>
    match s.port.sending with
    | none => s
    | some x => s.endTransaction x sent calEn)

/-- R193: IDENTIFY, answered in every state of the loader. -/
def execIdentify (s : State) : Result :=
  onPort .identify s (fun s => State.replied s.identify (codeByte .identify))

/-- R198: NOTICE REPORT. -/
def execNoticeReport (s : State) : Result := request .noticeReport s State.noticeReport

/-- R197: NOTICE MASK. -/
def execNoticeMask (words : List Word) (s : State) : Result :=
  request (.noticeMask words) s (fun s => (s.setMask words).done)

/-- R197: NOTICE EDGE. -/
def execNoticeEdge (words : List Word) (s : State) : Result :=
  request (.noticeEdge words) s (fun s => (s.setEdges words).done)

end Sys2Proof.Machine
end

