-- ==== Sys2Proof/Machine/Permits.lean ====
section
/-! DEFINITION. The meanings of the Permit Table's requests (R39 to R43, R45) and the expiry judgement (R44). -/

namespace Sys2Proof.Machine

/-- R39, R40: an expiry day lies before today, with the clock set. -/
def State.expiredBy (s : State) (expiry : Nat) : Bool := s.clock.isSet && decide (expiry < s.clock.day)

/-- R40: the state a replaced permit takes. -/
def replacedState (before : PermitState) (past : Bool) : PermitState :=
  if past then .expired else match before with
  | .active => .active
  | .suspended => .suspended
  | .expired => .active

/-- R44: a permit at an expiry judgement for a day. -/
def Permit.judgeExpiry (p : Permit) (day : Nat) : Permit := if p.expiry < day then { p with state := .expired } else p

namespace State

/-- R44: the Permit Table judges expiry against the clock's day. -/
def judgeExpiry (s : State) : State :=
  { s with permits := s.permits.map (fun e => (e.1, e.2.judgeExpiry s.clock.day)) }

/-- R39, R40: PERMIT PUT with its parameters in range. The answer's one mark is set where the permit was created and
clear where it was replaced (log 22). -/
def putPermit (s : State) (number : Nat) (allowed : BitVec 32) (primary expiry : Nat) : Reply :=
  match s.permits.get number with
  | some p =>
    let replaced := { p with
      allowed := allowed, primary := primary, expiry := expiry, state := replacedState p.state (s.expiredBy expiry) }
    ({ s with permits := s.permits.put number replaced }, .ok, .permitPut false)
  | none =>
    if Config.permitCount ≤ s.permits.length then s.refuse .tableFull
    else
      let created : Permit :=
        { state := if s.expiredBy expiry then .expired else .active, balance := 0, reserved := 0
          allowed := allowed, primary := primary, expiry := expiry, live := 0 }
      ({ s with permits := s.permits.put number created }, .ok, .permitPut true)

/-- R41: the permit a PERMIT GET finds, with its number. -/
def findPermit (s : State) : PermitName → Option (Nat × Permit)
  | .number n => (s.permits.get n).map (fun p => (n, p))
  | .next n => s.permits.find? (fun e => decide (n < e.1))

/-- R1, R41: the ranges of a PERMIT GET; the next permit may be asked for from 0 on. Number 0 is out of range, as in the
other requests that name a permit (log 24). -/
def permitNameOk : PermitName → Bool
  | .number n => permitOk n
  | .next n => decide (n ≤ 65535)

/-- R41: PERMIT GET. -/
def getPermit (s : State) (name : PermitName) : Reply :=
  match s.findPermit name with
  | none => s.refuse .notFound
  | some (number, p) => (s, .ok, .permit number p)

/-- R42: PERMIT ADJUST with its amount in range. -/
def adjustPermit (s : State) (number : Nat) (amount : Int) : Reply :=
  match s.permits.get number with
  | none => s.refuse .notFound
  | some p =>
    if (p.balance + amount).natAbs ≤ 2000000000 then
      ({ s with permits := s.permits.put number { p with balance := p.balance + amount } }, .ok,
        .balance (p.balance + amount))
    else s.refuse .badParameter

/-- R43: PERMIT SUSPEND and PERMIT RESUME give an ACTIVE or SUSPENDED permit a state. -/
def markPermit (s : State) (number : Nat) (st : PermitState) : Reply :=
  match s.permits.get number with
  | none => s.refuse .notFound
  | some p =>
    if p.state = .expired then s.refuse .wrongState
    else { s with permits := s.permits.put number { p with state := st } }.done

/-- R45: PERMIT DROP. -/
def dropPermit (s : State) (number : Nat) : Reply :=
  match s.permits.get number with
  | none => s.refuse .notFound
  | some p =>
    if 0 < p.live then s.refuse .inUse
    else ({ s with permits := s.permits.drop number }, .ok, .balance p.balance)

end State

/-- R38, R39: the parameters of a PERMIT PUT are in range. -/
def permitRanges (number : Nat) (allowed : BitVec 32) (primary expiry : Nat) : Bool :=
  permitOk number && decide (allowed ≠ 0) && decide (primary ≤ 31) && allowed.getLsbD primary && dayOk expiry

/-- R39, R40: PERMIT PUT. -/
def execPermitPut (number : Nat) (allowed : BitVec 32) (primary expiry : Nat) (s : State) : Result :=
  request (.permitPut number allowed primary expiry) s (fun s =>
    inRange (permitRanges number allowed primary expiry) s (fun s => s.putPermit number allowed primary expiry))

/-- R41: PERMIT GET. -/
def execPermitGet (name : PermitName) (s : State) : Result :=
  request (.permitGet name) s (fun s => inRange (State.permitNameOk name) s (fun s => s.getPermit name))

/-- R42: PERMIT ADJUST. Number 0 is answered BAD_PARAMETER by R1 (log 24). -/
def execPermitAdjust (number : Nat) (amount : Int) (s : State) : Result :=
  request (.permitAdjust number amount) s (fun s =>
    inRange (permitOk number && decide (amount.natAbs ≤ 2000000000)) s (fun s => s.adjustPermit number amount))

/-- R43: PERMIT SUSPEND. Number 0 is answered BAD_PARAMETER by R1, not NOT_FOUND (log 24). -/
def execPermitSuspend (number : Nat) (s : State) : Result :=
  request (.permitSuspend number) s (fun s => inRange (permitOk number) s (fun s => s.markPermit number .suspended))

/-- R43: PERMIT RESUME. Number 0 is answered BAD_PARAMETER by R1 (log 24). -/
def execPermitResume (number : Nat) (s : State) : Result :=
  request (.permitResume number) s (fun s => inRange (permitOk number) s (fun s => s.markPermit number .active))

/-- R45: PERMIT DROP. Number 0 is answered BAD_PARAMETER by R1 (log 24). -/
def execPermitDrop (number : Nat) (s : State) : Result :=
  request (.permitDrop number) s (fun s => inRange (permitOk number) s (fun s => s.dropPermit number))

end Sys2Proof.Machine
end

