-- ==== Sys2Proof/Machine/Slots.lean ====
section
/-! DEFINITION. The steps of the Yard Loop's slots: MARKER, LANE_COMMAND, POLL, IN_SLOT_END, LOOP_PAUSED (R139 to R147).
Slots no unit owns have no step (log 16). -/

namespace Sys2Proof.Machine

namespace State

/-- R139: the loop has run every owned slot of the frame in progress. -/
def frameRun (s : State) : Bool := s.loop.polled.isNone && (s.loop.nextOwned s.slotNow).isNone

/-- R140, R147: a slot may begin with its step: the loop is RUNNING, or a RESUME has begun the slot before the pause
that is under way, so that it runs to its end. -/
def slotTurns (s : State) (k : Nat) : Bool :=
  decide (s.loop.state = .running) || (decide (s.loop.state = .pausing) && decide (s.loop.begun = some k))

/-- R139, R146, R147: a marker slot begins: the one that LOOP START or a RESUME has opened, or the one that closes the
frame in progress; in PAUSING too where a RESUME has begun it (log 17). -/
def markerDue (s : State) : Bool :=
  s.loopClear && ((s.loop.markerOpen && (decide (s.loop.state = .running) || decide (s.loop.state = .pausing)))
    || (!s.loop.markerOpen && s.slotTurns 0 && s.frameRun))

/-- R139: the marker slot: publication of a complete frame and the opening of the next, then the MARKER. -/
def markerSlot (s : State) (readBack : List BitSamples) : State :=
  if s.loop.markerOpen then s.sendMarker readBack else (s.publish.openFrame).sendMarker readBack

/-- The loop turns, between slots, and slot `k` is the next one a unit owns. -/
def slotBegins (s : State) (k : Nat) : Bool :=
  s.loopClear && s.slotTurns k && !s.loop.markerOpen && s.loop.polled.isNone
    && decide (s.loop.nextOwned s.slotNow = some k)

/-- R140: slot `k` begins as an OUT slot of a lane unit. -/
def commandBegins (s : State) (k : Nat) : Bool :=
  s.slotBegins k && (match s.loop.owner k with
    | some (u, .out) => decide (u.val < 4)
    | _ => false)

/-- R140: slot `k` begins as an IN slot of a digitizer. -/
def pollBegins (s : State) (k : Nat) : Bool :=
  s.slotBegins k && (match s.loop.owner k with
    | some (u, .inward) => decide (4 ≤ u.val)
    | _ => false)

/-- R140: the unit that owns slot `k`; U0 where none does. -/
def slotUnit (s : State) (k : Nat) : Fin 8 :=
  match s.loop.owner k with
  | some (u, _) => u
  | none => 0

/-- R140, R141: a LANE_COMMAND is sent and judged. In PAUSING its slot, begun by a RESUME, is the one that ends (R147).
-/
def sendCommand (s : State) (k : Nat) (readBack : List BitSamples) : State :=
  let u := s.slotUnit k
  let bs := s.outbound u
  let s := ((s.transmit k bs).clearInject u).setWorking k (if verified bs readBack then .ok else .txVerify)
  { s with loop := { s.loop with slotDone := decide (s.loop.state = .pausing) } }

/-- R140, R141: a POLL is sent and judged; the slot waits for its end. -/
def sendPoll (s : State) (k : Nat) (readBack : List BitSamples) : State :=
  let u := s.slotUnit k
  let bs := s.outbound u
  let s := (s.transmit k bs).clearInject u
  { s with loop := { s.loop with polled := some (verified bs readBack) } }

/-- R142: an IN slot of a digitizer ends: the one whose POLL has been sent. -/
def pollEnds (s : State) (k : Nat) : Bool :=
  s.loopClear && s.loop.polled.isSome && decide (s.loop.position = some k)
    && (decide (s.loop.state = .running) || decide (s.loop.state = .pausing))

/-- R142, R147: an IN slot of a lane unit ends; while PAUSING it can only be the slot in progress. -/
def listenEnds (s : State) (k : Nat) : Bool :=
  s.loopClear && !s.loop.markerOpen && s.loop.polled.isNone && decide (s.loop.nextOwned s.slotNow = some k)
    && (decide (s.loop.state = .running) || (decide (s.loop.state = .pausing) && !s.loop.slotDone
      && (!s.loop.pauseShown || decide (s.loop.shown = k))))
    && (match s.loop.owner k with
      | some (u, .inward) => decide (u.val < 4)
      | _ => false)

/-- R142: the status of an IN slot and the message it delivers. -/
def inSlotStatus (s : State) (k : Nat) (heard : Heard) : SlotStatus × Option Instr :=
  if s.loop.polled = some false then (.txVerify, none)
  else judgeHeard (s.slotUnit k) (s.loop.addresses.get (s.slotUnit k)) heard

/-- R142, R143: an IN slot ends; a message judged OK waits to be taken with the frame's number. -/
def endInSlot (s : State) (k : Nat) (heard : Heard) : State :=
  let (st, c) := s.inSlotStatus k heard
  let frame := s.loop.frameNo
  let s := s.setWorking k st
  { s with loop := { s.loop with
      position := some k
      polled := none
      slotDone := decide (s.loop.state = .pausing)
      begun := none
      delivery := c.map (fun c => ⟨c, frame⟩) } }

/-- R147: the slot in progress of a PAUSING loop has ended, and it is slot `q`. A slot that a RESUME has begun takes its
step first. -/
def pauseDue (s : State) (q : Nat) : Bool :=
  s.loopClear && decide (s.loop.state = .pausing) && !s.loop.markerOpen && s.loop.polled.isNone
    && (if s.loop.slotDone then decide (q = s.slotNow)
      else decide (s.loop.begun ≠ some 0) && decide (s.firstInProgress ≤ q) && decide (q ≤ s.loop.frameLength)
        && (!s.loop.pauseShown || decide (q = s.loop.shown))
        && (match s.loop.nextOwned s.slotNow with
          | none => true
          | some k => decide (q < k)))

/-- R147: the loop enters PAUSED with its position at slot `q`. -/
def enterPaused (s : State) (q : Nat) : State :=
  { s with loop := { s.loop with
      state := .paused
      position := some q
      slotDone := false
      begun := none
      pauseShown := false
      tableChanged := false } }

end State

/-! ### The meanings -/

/-- R139: MARKER. -/
def execMarker (readBack : List BitSamples) (s : State) : Result := when s.markerDue s (fun s => s.markerSlot readBack)

/-- R140: LANE_COMMAND. -/
def execLaneCommand (slot : Nat) (readBack : List BitSamples) (s : State) : Result :=
  when (s.commandBegins slot) s (fun s => s.sendCommand slot readBack)

/-- R140: POLL. -/
def execPoll (slot : Nat) (readBack : List BitSamples) (s : State) : Result :=
  when (s.pollBegins slot) s (fun s => s.sendPoll slot readBack)

/-- R142: the end of an IN slot. -/
def execInSlotEnd (slot : Nat) (heard : Heard) (s : State) : Result :=
  when (s.pollEnds slot || s.listenEnds slot) s (fun s => s.endInSlot slot heard)

/-- R147: LOOP_PAUSED. -/
def execLoopPaused (slot : Nat) (s : State) : Result := when (s.pauseDue slot) s (fun s => s.enterPaused slot)

end Sys2Proof.Machine
end

