-- ==== Sys2Proof/Machine/Store.lean ====
section
/-! DEFINITION. The meanings of the Settings Loader's and the Yard Clock's requests and steps (R182 to R184, R188,
R189). -/

namespace Sys2Proof.Machine

namespace State

/-- R184: what every answer to SETTING READ carries. -/
def loaderView (s : State) : LoaderView :=
  ⟨s.loader.status, s.loader.lockBoundary, s.loader.writing.isSome, s.loader.lastWrite⟩

/-- R184: a refused SETTING READ, also one answered NOT_READY, carries the loader's figures too (log 30). -/
def refuseSetting (s : State) (st : Status) : Reply := (s, st, .settingRefused s.loaderView)

/-- R184: SETTING READ of a word of the active image. -/
def readActive (s : State) (word : Nat) : Reply :=
  if word ≤ 255 then (s, .ok, .setting (some (s.loader.image.getD word 0)) false s.loaderView)
  else s.refuseSetting .badParameter

/-- R184, R193: the loader reads the store; the request stays PENDING. -/
def startStoreRead (s : State) (code : Byte) (word : Nat) : State :=
  { s with
    loader := { s.loader with reading := some word }
    port := { s.port with buffer := .pending code, handed := none } }

/-- R184: SETTING READ from STORE. -/
def readStore (s : State) (code : Byte) (word : Nat) : State :=
  if 2047 < word then State.replied (s.refuseSetting .badParameter) code
  else if s.loader.writing.isSome then State.replied (s.refuseSetting .storeBusy) code
  else s.startStoreRead code word

/-- R184: the source of a SETTING READ, ACTIVE (0) or STORE (1). -/
def readSetting (s : State) (code : Byte) (word source : Nat) : State :=
  match source with
  | 0 => State.replied (s.readActive word) code
  | 1 => s.readStore code word
  | _ => State.replied (s.refuseSetting .badParameter) code

/-- R184: the answer of a store read. -/
def finishStoreRead (s : State) (answer : Option Word) : State :=
  { s with loader := { s.loader with reading := none } }.answer (codeByte (.settingRead 0 1)) .ok
    (.setting answer answer.isNone s.loaderView)

/-- R182: a write of the word needs CAL_EN. -/
def locked (s : State) (word : Nat) : Bool := decide (1 ≤ word) && decide (word ≤ s.loader.lockBoundary)

/-- R183: a write of the store begins. -/
def startWrite (s : State) (word value : Nat) : State :=
  { s with loader := { s.loader with writing := some ⟨word, value⟩ } }

/-- R183: SETTING WRITE, with CAL_EN sampled. -/
def writeSetting (s : State) (word value : Nat) : Reply :=
  if 2047 < word ∨ 65535 < value then s.refuse .badParameter
  else if s.loader.writing.isSome then s.refuse .storeBusy
  else if s.locked word && !s.calEn then s.refuse .certifiedLock
  else (s.startWrite word value, .accepted, .empty)

/-- R183: the result of a write, from the read-back (absent where the store did not acknowledge). -/
def writeResult (value : Nat) (readBack : Option Word) : WriteResult :=
  match readBack with
  | none => .noAck
  | some w => if w.toNat = value then .ok else .mismatch

/-- R183: the write ends. -/
def finishWrite (s : State) (x : StoreWrite) (readBack : Option Word) : State :=
  { s with loader := { s.loader with
      writing := none, lastWrite := some ⟨writeResult x.value readBack, x.word⟩ } }.latch .storeDone 0

/-! ### The Yard Clock (R188, R189) -/

/-- R188: CLOCK SET. -/
def setClock (s : State) (day minute : Nat) : State :=
  { s with clock := ⟨day, minute, 0, true⟩ }.judgeExpiry

/-- R17: a booking lapses on a day. -/
def lapses (v : Visit) (day : Nat) : Bool :=
  decide (v.state = .booked) && (match v.bookingDay with
    | none => false
    | some d => decide (d < day))

/-- R17: the bookings that lapse against the clock's day. -/
def lapsing (s : State) : List (Nat × Visit) := s.vt.records.filter (fun e => lapses e.2 s.clock.day)

/-- R17: booking lapse. -/
def lapseBookings (s : State) : State :=
  let gone := s.lapsing
  let s := gone.foldl (fun s e => s.removeVisit e.1 e.2) s
  if gone.isEmpty then s else s.latch .bookingLapsed 0

/-- R189: the day change; at the end of day 65,535 the minute alone returns to 0. -/
def changeDay (s : State) : State :=
  if s.clock.day < 65535 then
    { s with clock := { s.clock with day := s.clock.day + 1, minute := 0, second := 0 } }.lapseBookings.judgeExpiry
  else { s with clock := { s.clock with minute := 0, second := 0 } }

/-- R188: the second count would pass 59 at minute 1,439. -/
def dayEnds (s : State) : Bool := s.clock.isSet && decide (s.clock.minute = 1439) && decide (s.clock.second = 59)

/-- R188: a timebase second while the clock runs, but for the last one of a day. -/
def nextSecond (s : State) : State :=
  if s.clock.second < 59 then { s with clock := { s.clock with second := s.clock.second + 1 } }
  else { s with clock := { s.clock with second := 0, minute := s.clock.minute + 1 } }

/-- R188, R189: a timebase second. -/
def clockSecond (s : State) : State :=
  if s.dayEnds then s.changeDay else if s.clock.isSet then s.nextSecond else s

end State

/-! ### The meanings -/

/-- R184, R193: SETTING READ. -/
def execSettingRead (word source : Nat) (s : State) : Result :=
  onPort (.settingRead word source) s (fun s =>
    let code := codeByte (.settingRead word source)
    if s.notReady then State.replied (s.refuseSetting .notReady) code else s.readSetting code word source)

/-- R183: SETTING WRITE. -/
def execSettingWrite (word value : Nat) (calEn : Bool) (s : State) : Result :=
  request (.settingWrite word value calEn) s (fun s => { s with calEn := calEn }.writeSetting word value)

/-- R188: CLOCK SET. -/
def execClockSet (day minute : Nat) (s : State) : Result :=
  request (.clockSet day minute) s (fun s =>
    inRange (dayOk day && decide (minute ≤ 1439)) s (fun s => (s.setClock day minute).done))

/-- R188: CLOCK READ. -/
def execClockRead (s : State) : Result :=
  request .clockRead s (fun s => (s, .ok, .clock s.clock.day s.clock.minute s.clock.isSet))

/-- R184: the I2C read of a store word ends. -/
def execStoreReadEnd (answer : Option Word) (s : State) : Result :=
  when s.loader.reading.isSome s (fun s => s.finishStoreRead answer)

/-- R183: the store's write cycle ends. -/
def execWriteCycleEnd (readBack : Option Word) (s : State) : Result :=
  whileUp s (fun s =>
    match s.loader.writing with
    | none => s
    | some x => s.finishWrite x readBack)

/-- R188: a timebase second. -/
def execYardClockSecond (s : State) : Result := whileUp s State.clockSecond

/-- R189: the minute passes 1,439. -/
def execDayChange (s : State) : Result := when s.dayEnds s State.changeDay

end Sys2Proof.Machine
end

