-- ==== Sys2Proof/Machine/StartUp.lean ====
section
/-! DEFINITION. Start-up: the hard reset (R186), the load of the settings image (R180, R181), RELOAD (R185) and RESTART
(R187), with the values each block takes (R7, R27, R48, R73, R90, R110, R133, R153, R168, R178, R199). -/

namespace Sys2Proof.Machine

/-! ### Judging a load (R179, R180) -/

/-- R180: the sum of the words, modulo 65,536. -/
def imageSum (image : List Word) : Word := image.foldl (· + ·) 0

/-- R180: the outcome of a load. -/
def loadOutcome (read : Option (List Word)) : LoadStatus :=
  match read with
  | none => .absent
  | some ws =>
    if ws.getD 0 0 ≠ Config.signature then .defaults
    else if imageSum ws ≠ Config.imageSum then .sumBad else .loaded

/-- R179: the active image after a load. -/
def loadedImage (read : Option (List Word)) : List Word :=
  match read with
  | none => defaultImage
  | some ws => if loadOutcome read = .loaded then ws else defaultImage

/-- R179: the lock boundary after a load. -/
def loadedBoundary (read : Option (List Word)) : Nat :=
  if loadOutcome read = .loaded then min 255 (imageWord (loadedImage read) 1) else 255

/-! ### What each block takes from a load -/

/-- R181: the first of a lane's two words. -/
def laneBase (n : Fin 4) : Nat := 51 + 2 * n.val

/-- R73, R181: the mode of a lane; CLOSED where the load is not LOADED or the word names no mode. -/
def imageMode (status : LoadStatus) (image : List Word) (n : Fin 4) : LaneMode :=
  if status = .loaded then (LaneMode.ofCode? (imageWord image (laneBase n))).getD .closed else .closed

/-- R73, R181: a flag of a lane; clear where the load is not LOADED or the mode word names no mode. -/
def imageFlag (status : LoadStatus) (image : List Word) (n : Fin 4) (bit : Nat) : Bool :=
  decide (status = .loaded) && (LaneMode.ofCode? (imageWord image (laneBase n))).isSome
    && (image.getD (laneBase n + 1) 0).getLsbD bit

/-- R73: the lane's state at the end of LOADING. -/
def loadedState (mode : LaneMode) (barrierFault : Bool) : LaneState :=
  if mode = .closed then .closed else if barrierFault then .fault else .idle

/-- R71: the display of a lane in CLOSED, IDLE or FAULT. -/
def restDisplay (st : LaneState) : Display :=
  match st with
  | .idle => ⟨.welcome, 0⟩
  | .fault => ⟨.seeOffice, 0⟩
  | .closed | .settling | .bound | .passing | .releasing | .maintenance => ⟨.closed, 0⟩

/-- R73: a lane record at the end of LOADING; the cycle timer, last refusal and test result are those it had. -/
def Lane.fromImage (l : Lane) (status : LoadStatus) (image : List Word) (n : Fin 4) (barrierFault : Bool) : Lane :=
  let mode := imageMode status image n
  let st := loadedState mode barrierFault
  { Lane.reset with
    mode := mode
    state := st
    autoTake := imageFlag status image n 0
    walkIn := imageFlag status image n 1
    walkTare := imageFlag status image n 3
    autoCapture := imageFlag status image n 2
    cycle := l.cycle
    display := restDisplay st
    lastRefusal := l.lastRefusal
    testResult := l.testResult }

/-- R90: a sequencer after a load: order LOWER, tracking inactive, its timers but the travel timer stopped. -/
def Barrier.afterLoad (b : Barrier) : Barrier :=
  { b with order := .lower, gateClear := none, abandon := none, refusals := 0, tracking := .inactive,
           beyondSeen := false }

/-- R168: a unit record after a load, its ownership judged from the new table. -/
def UnitRec.afterLoad (r : UnitRec) (owns autoSwitch afterReset : Bool) : UnitRec :=
  { r with
    state := if owns then .searching else .absent
    goodRun := 0
    badRun := 0
    alarmFree := 0
    alarmSeen := false
    alarmCode := if afterReset then none else r.alarmCode
    autoSwitch := autoSwitch
    activate := Detector.cleared
    deactivate := Detector.cleared }

/-- R168, R181: automatic switching of a unit from the lane words; digitizers have none. -/
def imageAutoSwitch (status : LoadStatus) (image : List Word) (u : Fin 8) : Bool :=
  match served u with
  | .lane n => imageFlag status image n 4
  | .deck _ => false

/-- R133: an engine after a load. -/
def Engine.afterLoad (e : Engine) : Engine := { e with run := none, failures := 0 }

namespace State

/-- R7: the next-ticket counter takes the initial ticket after a hard reset alone. -/
def loadTicket (s : State) : State :=
  if s.loader.afterReset then
    { s with vt := { s.vt with nextTicket := if s.loader.status = .loaded then initialTicket s.loader.image else 1 } }
  else s

/-- R180: each block sets itself from the active image. -/
def loadBlocks (s : State) : State :=
  let status := s.loader.status
  let image := s.loader.image
  let loop := s.loop.reloadFrom status image
  { s with
    loop := loop
    lanes := Vector.ofFn (fun n => (s.lane n).fromImage status image n (decide ((s.barrier n).state = .fault)))
    barriers := mapEach Barrier.afterLoad s.barriers
    decks := Vector.ofFn (fun n => deckFromImage status image n)
    engines := mapEach Engine.afterLoad s.engines
    units := Vector.ofFn (fun u =>
      (s.unit u).afterLoad (loop.ownsSlot u) (imageAutoSwitch status image u) s.loader.afterReset)
    notices := { s.notices with mask := imageMask image, edges := imageEdges image } }

/-- R179, R180: the loader judges what it read. -/
def judgeLoad (s : State) (read : Option (List Word)) : State :=
  { s with loader := { s.loader with
      status := loadOutcome read
      image := loadedImage read
      lockBoundary := loadedBoundary read } }

/-- R180, R153, R199: the end of a load: the image is judged, every block takes its words, the levels that the load has
changed are latched, and the loop starts where auto-start is set. -/
def endLoad (s : State) (read : Option (List Word)) : State :=
  ((s.judgeLoad read).loadTicket.loadBlocks.recallLevels.followLevels).autoStartLoop

/-! ### RELOAD (R185) -/

/-- R185: a lane or the loop keeps RELOAD from being taken. -/
def reloadBlocked (s : State) : Bool :=
  allLanes.any (fun n => decide ((s.lane n).state ≠ .idle) && decide ((s.lane n).state ≠ .closed))
    || decide (s.loop.state ≠ .stopped)

/-- R73, R168: during LOADING every lane is CLOSED and every unit ABSENT. -/
def closeForLoad (s : State) : State :=
  { s with
    lanes := mapEach (fun l => { l with state := .closed, display := ⟨.closed, 0⟩ }) s.lanes
    units := mapEach UnitRec.leave s.units }

/-- R185: RELOAD. -/
def reload (s : State) : Reply :=
  if s.reloadBlocked then s.refuse .laneBusy
  else if s.loader.writing.isSome then s.refuse .storeBusy
  else { s.closeForLoad.setLevelsAside with loader := { s.loader with status := .loading, afterReset := false } }.done

/-! ### RESTART (R187) -/

/-- R153: the loop at a RESTART. -/
def restartLoop (s : State) : State :=
  let l := s.loop.reloadFrom s.loader.status s.loader.image
  { s with loop := { l with
      state := .stopped
      frameNo := 0
      markerOpen := false
      polled := none
      slotDone := false
      published := none
      inject := Vector.replicate 8 false
      delivery := none } }

/-- R125, R133: the engines at a RESTART: a running capture ends unreported. -/
def restartEngines (s : State) : State := { s with engines := Vector.replicate 4 Engine.reset }

/-- R27, R62, R178: every bound visit is held with RESTART. The records join the Change List lane by lane, L0 first
(log 27). -/
def restartHolds (s : State) : State := forLanes (fun n s => s.holdBound n .restart) s

/-- R178: the held visit of a lane at a RESTART. -/
def restartHeld (l : Lane) : Option Nat :=
  match l.bound with
  | some t => some t
  | none => if l.state = .releasing then l.heldVisit else none

/-- R73: a lane record at a RESTART. -/
def restartLane (l : Lane) (recovery : Timer) : Lane :=
  let kept := { Lane.reset with
    mode := l.mode, autoTake := l.autoTake, walkIn := l.walkIn, walkTare := l.walkTare, autoCapture := l.autoCapture }
  if l.state = .closed then kept
  else { kept with
    state := .releasing, heldVisit := restartHeld l, recovery := recovery, display := releasingDisplay (restartHeld l) }

/-- R73, R90: the lanes and their sequencers at a RESTART. -/
def restartLanes (s : State) : State :=
  { s with
    lanes := mapEach (fun l => restartLane l (Timer.load (s.frames .recovery))) s.lanes
    barriers := Vector.ofFn (fun n => { Barrier.reset with
      tracking := if (restartHeld (s.lane n)).isSome then .heldVisit else .inactive }) }

/-- R110: a deck record at a RESTART. -/
def restartDeck (d : Deck) : Deck :=
  { d with state := .noData, last := none, window := none, noData := 4, tracking := none, sampled := false }

/-- R168: a unit record at a RESTART. -/
def restartUnit (r : UnitRec) (owns : Bool) : UnitRec :=
  { UnitRec.reset with
    state := if owns then .searching else .absent
    selection := r.selection
    report := r.report
    autoSwitch := r.autoSwitch }

/-- R110, R168, R199: the decks, the units and the notice settings at a RESTART. -/
def restartOthers (s : State) : State :=
  { s with
    decks := mapEach restartDeck s.decks
    units := Vector.ofFn (fun u => restartUnit (s.unit u) (s.loop.ownsSlot u))
    notices := { s.notices with mask := imageMask s.loader.image, edges := imageEdges s.loader.image } }

/-- R187: RESTART. -/
def restart (s : State) : State :=
  { s.restartLoop.restartEngines.restartHolds.restartLanes.restartOthers.followLevels with restarting := true }

/-- R187, R199: the restart ends: the latch is cleared, and the loop starts where auto-start is set. -/
def endRestart (s : State) : State :=
  { s with restarting := false, notices := { s.notices with latched := Vector.replicate 20 0 } }.autoStartLoop

/-- R186: the hard reset. The queue, the sampled pin and the counter of free values are no part of the part's state. -/
def hardReset (s : State) : State :=
  { State.reset with pending := s.pending, calEn := s.calEn, free := s.free }

/-- R186: RST_N is low: the port takes and answers nothing. -/
def holdReset (s : State) : State := { s with rstLow := true, port := { s.port with sending := none } }

end State

/-! ### The meanings -/

/-- R186: HARD_RESET. -/
def execHardReset (s : State) : Result := .next s.hardReset

/-- R186: RST_N_LOW. -/
def execRstNLow (s : State) : Result := .next s.holdReset

/-- R180: LOAD_END. -/
def execLoadEnd (read : Option (List Word)) (s : State) : Result :=
  when (decide (s.loader.status = .loading)) s (fun s => s.endLoad read)

/-- R185: RELOAD. -/
def execReload (s : State) : Result := request .reload s State.reload

/-- R187: RESTART. -/
def execRestart (s : State) : Result := request .restart s (fun s => s.restart.done)

/-- R187: RESTART_END. -/
def execRestartEnd (s : State) : Result := when s.restarting s State.endRestart

end Sys2Proof.Machine
end

