-- ==== Sys2Proof/Machine/Vehicles.lean ====
section
/-! DEFINITION. The meanings of the Vehicle Register's requests (R30, R32, R33, R37). -/

namespace Sys2Proof.Machine

namespace State

/-- R29, R30: the stored tare parameter is in its ranges. -/
def tareParamOk : TareParam → Bool
  | .none => true
  | .keep => true
  | .weight kg day validity =>
    decide (0 ≤ kg) && decide (kg ≤ 200000) && dayOk day && decide (validity ≤ 3650)

/-- R30: the stored tare an entry has after a PUT, from the one it had. -/
def putTare (before : Option Tare) : TareParam → Option Tare
  | .none => none
  | .keep => before
  | .weight kg day validity => some ⟨kg, day, validity⟩

/-- R30: VEHICLE PUT with its parameters in range; `veh` is the new entry but for its stored tare and live visits. The
answer's mark is set where the entry was created and clear where it was replaced (log 22). -/
def putVehicle (s : State) (veh : Vehicle) (tare : TareParam) : Reply :=
  match s.vehicleByTag veh.tag with
  | some (index, old) =>
    let stored := putTare old.tare tare
    if veh.refresh ∧ stored = none then s.refuse .badParameter
    else ({ s with vehicles := s.vehicles.put index { veh with tare := stored, live := old.live } }, .ok,
      .vehiclePut index false)
  | none =>
    let stored := putTare none tare
    if veh.refresh ∧ stored = none then s.refuse .badParameter
    else match s.vehicles.lowestFree Config.vehiclePositions with
    | none => s.refuse .tableFull
    | some index =>
      ({ s with vehicles := s.vehicles.put index { veh with tare := stored, live := 0 } }, .ok,
        .vehiclePut index true)

/-- R35: a stored tare is in date today. -/
def tareInDate (s : State) (t : Tare) : Bool := decide (s.clock.day ≤ t.day + t.validity)

/-- R32: the in-date mark; absent without a stored tare or while the clock is unset. -/
def inDateMark (s : State) (v : Vehicle) : Option Bool := if s.clock.isSet then v.tare.map s.tareInDate else none

/-- R32: the entry a VEHICLE GET finds. -/
def findVehicle (s : State) : VehicleName → Option (Nat × Vehicle)
  | .tag t => s.vehicleByTag t
  | .index i => (s.vehicles.get i).map (fun v => (i, v))

/-- R32: an index is 0 to 1,023. -/
def vehicleNameOk : VehicleName → Bool
  | .tag _ => true
  | .index i => decide (i < Config.vehiclePositions)

/-- R32: VEHICLE GET. -/
def getVehicle (s : State) (name : VehicleName) : Reply :=
  match s.findVehicle name with
  | none => s.refuse .notFound
  | some (index, v) => (s, .ok, .vehicle index v (s.inDateMark v))

/-- R33: VEHICLE DROP. -/
def dropVehicle (s : State) (tag : Tag) : Reply :=
  match s.vehicleByTag tag with
  | none => s.refuse .notFound
  | some (index, v) =>
    if 0 < v.live then s.refuse .inUse else { s with vehicles := s.vehicles.drop index }.done

/-- R37: a weighing that may be stored as a tare. -/
def storable (w : Weighing) : Bool := w.counted && w.legal && decide (w.role ≠ .storedTare)

/-- R37: the vehicle of a record takes a stored tare. -/
def storeTare (s : State) (v : Visit) (t : Tare) : State :=
  match s.vehicles.get v.vehicle with
  | none => s
  | some veh => { s with vehicles := s.vehicles.put v.vehicle { veh with tare := some t } }

/-- R37: TARE STORE for a record. -/
def tareStore (s : State) (v : Visit) (index validity : Nat) : Reply :=
  match v.weighings[index - 1]? with
  | none => s.refuse .notFound
  | some w =>
    if storable w then (s.storeTare v ⟨w.weight, w.time.day, validity⟩).done else s.refuse .wrongState

end State

/-- R29, R30: the numbers of a VEHICLE PUT are in their ranges. -/
def vehicleRanges (permit : Nat) (payload : Int) (groups : Nat) (tare : TareParam) : Bool :=
  decide (permit ≤ 65535) && decide (1 ≤ payload) && decide (payload ≤ 200000) && decide (groups ≤ 8)
    && State.tareParamOk tare

/-- R30: VEHICLE PUT. -/
def execVehiclePut (tag : Tag) (permit : Nat) (payload : Int) (groups refresh banned : Nat) (tare : TareParam)
    (s : State) : Result :=
  request (.vehiclePut tag permit payload groups refresh banned tare) s (fun s =>
    match flag? refresh, flag? banned with
    | some r, some b => inRange (vehicleRanges permit payload groups tare) s (fun s =>
        s.putVehicle
          { tag := tag, defaultPermit := if permit = 0 then none else some permit, payload := payload
            axleGroups := groups, tare := none, refresh := r, banned := b, live := 0 } tare)
    | _, _ => s.refuse .badParameter)

/-- R32: VEHICLE GET. -/
def execVehicleGet (name : VehicleName) (s : State) : Result :=
  request (.vehicleGet name) s (fun s => inRange (State.vehicleNameOk name) s (fun s => s.getVehicle name))

/-- R33: VEHICLE DROP. -/
def execVehicleDrop (tag : Tag) (s : State) : Result :=
  request (.vehicleDrop tag) s (fun s => s.dropVehicle tag)

/-- R37: TARE STORE. -/
def execTareStore (ticket index validity : Nat) (s : State) : Result :=
  request (.tareStore ticket index validity) s (fun s =>
    inRange (ticketOk ticket && decide (1 ≤ index) && decide (index ≤ 6) && decide (validity ≤ 3650)) s (fun s =>
      onRecord (s.byTicket ticket) s (fun _ v s => s.tareStore v index validity)))

end Sys2Proof.Machine
end

