-- ==== Sys2Proof/Machine/Weighings.lean ====
section
/-! DEFINITION. The meanings of CAPTURE, TERMINATE, ZERO and DECK STATUS (R105, R108, R114, R123, R130). -/

namespace Sys2Proof.Machine

namespace State

/-! ### CAPTURE (R59, R114, R130) -/

/-- R114 check 4: the running capture would end PARTIAL on truncation. -/
def truncatesToEntry (s : State) (n : Fin 4) : Bool :=
  match (s.engine n).run with
  | none => false
  | some c => c.hasGroups

/-- R114 check 4: the bound visit's list has no room. -/
def captureListFull (s : State) (n : Fin 4) : Bool :=
  match s.boundRecord n with
  | none => false
  | some (_, v) =>
    if s.truncatesToEntry n then decide (Config.weighingPlaces ≤ v.weighings.length + 1) else v.listFull

/-- R59: the CAPTURE waits for BOUND. -/
def pendCapture (s : State) (n : Fin 4) (burst : Option Burst) : State :=
  s.setLane n { s.lane n with pendingCapture := some ⟨burst⟩ }

/-- R114: CAPTURE at a lane, its burst length in range. -/
def captureAt (s : State) (n : Fin 4) (burst : Option Burst) : Reply :=
  if (s.deck n).params = none then s.refuse .badParameter
  else match (s.lane n).state with
  | .settling =>
    if s.captureListFull n then s.refuse .listFull else (s.pendCapture n burst, .accepted, .empty)
  | .bound =>
    if s.captureListFull n then s.refuse .listFull
    else (((s.truncateCapture n).startVisitCapture n burst).tryOnIdle n s, .accepted, .empty)
  | .maintenance => ((s.truncateCapture n).startCapture n .test burst, .accepted, .empty)
  | .closed | .idle | .passing | .releasing | .fault => s.refuse .wrongState

/-! ### TERMINATE (R123) -/

/-- R123: the running capture ends. -/
def endByRequest (s : State) (n : Fin 4) (c : Capture) : State :=
  if !c.hasGroups then s.settleFailed n c .aborted
  else s.settleGathered n c (decide (c.burst ≠ .open) || c.missed) c.gathered

/-- R59, R123: TERMINATE at a lane. -/
def terminateAt (s : State) (n : Fin 4) : Reply :=
  match (s.engine n).run with
  | some c => ((s.endByRequest n c).tryOnIdle n s).done
  | none =>
    if (s.lane n).pendingCapture.isSome then
      (s.setLane n { s.lane n with pendingCapture := none }).done
    else s.refuse .wrongState

/-! ### ZERO and DECK STATUS (R105, R108) -/

/-- R105: a successful ZERO. -/
def zeroDeck (s : State) (n : Fin 4) (raw : Nat) : State :=
  s.setDeck n { s.deck n with
    workingZero := raw
    zeroFault := false
    window := none
    tracking := Timer.load (s.frames .dwell) }

/-- R105: ZERO of a deck. -/
def zeroAt (s : State) (n : Fin 4) : Reply :=
  match (s.deck n).params, (s.deck n).last with
  | none, _ => s.refuse .badParameter
  | some _, none => s.refuse .wrongState
  | some p, some x =>
    if !(s.deck n).emptyAndStable || (s.engine n).run.isSome then s.refuse .wrongState
    else if !p.inZeroRange x.raw then s.refuse .zeroRange
    else (s.zeroDeck n x.raw, .ok, .zeroOffset (p.zeroOffset x.raw))

/-- R108: DECK STATUS. -/
def deckStatus (s : State) (n : Fin 4) : Reply :=
  let d := s.deck n
  (s, .ok, .deck d (d.params.map (fun p => p.zeroOffset d.workingZero)) (d.params.map (fun p => p.zeroRange))
    (s.engine n) (s.unit (digitizer n)).state)

end State

/-! ### The meanings -/

/-- R195: a burst length that may be left out: absent, or in its range. -/
def burstParam? : Option Nat → Option (Option Burst)
  | none => some none
  | some k => (burst? k).map some

/-- R114: CAPTURE. -/
def execCapture (lane : Nat) (burst : Option Nat) (s : State) : Result :=
  request (.capture lane burst) s (fun s => onLane lane s (fun n s =>
    match burstParam? burst with
    | none => s.refuse .badParameter
    | some b => s.captureAt n b))

/-- R123: TERMINATE. -/
def execTerminate (lane : Nat) (s : State) : Result :=
  request (.terminate lane) s (fun s => onLane lane s (fun n s => s.terminateAt n))

/-- R105: ZERO. -/
def execZero (deck : Nat) (s : State) : Result :=
  request (.zero deck) s (fun s => onLane deck s (fun n s => s.zeroAt n))

/-- R108: DECK STATUS. -/
def execDeckStatus (deck : Nat) (s : State) : Result :=
  request (.deckStatus deck) s (fun s => onLane deck s (fun n s => s.deckStatus n))

end Sys2Proof.Machine
end

