-- ==== Sys2Proof/Machine/YardLoop.lean ====
section
/-! DEFINITION. The meanings of the Yard Loop's requests (R146 to R150, R152). -/

namespace Sys2Proof.Machine

namespace State

/-- R147: a lane state that keeps the loop from pausing or stopping. -/
def laneInUse (s : State) : Bool :=
  allLanes.any (fun n => match (s.lane n).state with
    | .settling | .bound | .passing | .releasing => true
    | .closed | .idle | .maintenance | .fault => false)

/-- R147: the loop enters a state, and the request is answered with it. -/
def enterLoop (s : State) (st : LoopState) : State := { s with loop := { s.loop with state := st } }

/-- R146: LOOP START. -/
def loopStart (s : State) : Reply :=
  if s.loop.state = .stopped then (s.startLoop, .ok, .frameNumber s.startLoop.loop.frameNo)
  else s.refuse .loopState

/-- R147: LOOP PAUSE. -/
def loopPause (s : State) : Reply :=
  if s.loop.state ≠ .running then s.refuse .loopState
  else if s.laneInUse then s.refuse .laneBusy
  else (s.enterLoop .pausing, .ok, .loopState .pausing)

/-- R147: the loop goes on from a slot that has ended: the slot after it begins. -/
def resumeAfter (s : State) : State :=
  { s with loop := { s.loop with
      state := .running, slotDone := false, pauseShown := false, begun := some s.slotAfter } }

/-- R147: a pause is called off. Where the slot in progress has ended, the loop goes on with the next. -/
def callOffPause (s : State) : State :=
  if s.loop.slotDone then s.resumeAfter
  else { s with loop := { s.loop with state := .running, pauseShown := false } }

/-- R147, R151: a resume after SLOT SET: the partial frame is discarded and a new frame opened. -/
def resumeAnew (s : State) : State :=
  let s := s.discardFrame
  { s with loop := { s.loop with
      period := s.loop.frameLength + 1, tableChanged := false, state := .running } }.openFrame

/-- R147: LOOP RESUME. -/
def loopResume (s : State) : Reply :=
  match s.loop.state with
  | .pausing => (s.callOffPause, .ok, .loopState .running)
  | .paused =>
    if s.loop.tableChanged then (s.resumeAnew, .ok, .loopState .running)
    else (s.resumeAfter, .ok, .loopState .running)
  | .stopped | .running => s.refuse .loopState

/-- R132, R147: the loop enters STOPPED. No message is received there: one that has not been delivered yet goes with the
slot that is cut off (log 32). -/
def stopLoop (s : State) : State :=
  let s := s.discardFrame
  { s with loop := { s.loop with state := .stopped, delivery := none } }

/-- R147: LOOP STOP. -/
def loopStop (s : State) : Reply :=
  if s.loop.state = .stopped then s.refuse .loopState
  else if s.laneInUse then s.refuse .laneBusy
  else (s.stopLoop, .ok, .loopState .stopped)

/-- R148, R149: the loop is RUNNING or PAUSING. -/
def loopTurning (s : State) : Bool := decide (s.loop.state = .running) || decide (s.loop.state = .pausing)

/-- R148: the new table and frame length are taken, and ownership is judged (R155). -/
def takeSlots (s : State) (frameLength : Nat) (slots : List SlotEntry) : State :=
  { s with loop := { s.loop with
      frameLength := frameLength
      slots := slots
      tableChanged := s.loop.tableChanged || decide (s.loop.state = LoopState.paused) } }.judgeOwnership

/-- R148: SLOT SET. -/
def slotSet (s : State) (frameLength : Nat) (entries : List Byte) : Reply :=
  match entries.mapM (fun b => slotEntry? b.toNat) with
  | none => s.refuse .badParameter
  | some slots =>
    if !slotsOk frameLength slots then s.refuse .badParameter
    else if s.loopTurning then s.refuse .loopState
    else (s.takeSlots frameLength slots).done

/-- R149: another unit has the address. -/
def addressTaken (s : State) (u : Fin 8) (address : Nat) : Bool :=
  allUnits.any (fun v => decide (v ≠ u) && decide (s.loop.addresses.get v = address))

/-- R149: UNIT ADDRESS. -/
def unitAddress (s : State) (u : Fin 8) (address : Nat) : Reply :=
  if address = 0 ∨ 30 < address then s.refuse .badParameter
  else if s.loopTurning then s.refuse .loopState
  else if s.addressTaken u address then s.refuse .inUse
  else { s with loop := { s.loop with addresses := s.loop.addresses.set u address } }.done

/-- R150: INJECT. -/
def injectUnit (s : State) (u : Fin 8) : State :=
  { s with loop := { s.loop with inject := s.loop.inject.set u true } }

/-- R134: the slot in progress is one that no step names: the loop turns, no marker slot has been opened, no POLL waits,
and the slot in progress has not ended (log 16). -/
def slotOpen (s : State) : Bool :=
  s.loopTurning && !s.loop.markerOpen && s.loop.polled.isNone && !s.loop.slotDone

/-- R134: the slot that LOOP STATUS shows in progress: any from the first to the last that can be; which of them is a
free value (log 40). -/
def positionDrawn (s : State) : Nat :=
  s.firstInProgress
    + Config.slotInProgress s.free % (s.loop.lastInProgress s.slotNow - s.firstInProgress + 1)

/-- R147, R152: the slot drawn is not drawn anew below itself, and in PAUSING it is the slot in which the pause falls
(log 40). -/
def drawPosition (s : State) : State :=
  { s with
    free := s.free + 1
    loop := { s.loop with shown := s.positionDrawn, pauseShown := decide (s.loop.state = .pausing) } }

/-- R152: the answer to LOOP STATUS with the loop's position. -/
def loopAnswer (s : State) (position : Option Nat) : Answer :=
  .loop { s.loop with position := position } (allUnits.map s.outbound)

/-- R152: LOOP STATUS. A marker slot that a RESUME has begun is the slot in progress. -/
def loopStatus (s : State) : Reply :=
  if s.loop.begun = some 0 then (s, .ok, s.loopAnswer (some 0))
  else if !s.slotOpen then (s, .ok, s.loopAnswer s.loop.position)
  else if s.loop.pauseShown then (s, .ok, s.loopAnswer (some s.loop.shown))
  else (s.drawPosition, .ok, s.loopAnswer (some s.positionDrawn))

end State

/-! ### The meanings -/

/-- R146: LOOP START. -/
def execLoopStart (s : State) : Result := request .loopStart s State.loopStart

/-- R147: LOOP PAUSE. -/
def execLoopPause (s : State) : Result := request .loopPause s State.loopPause

/-- R147: LOOP RESUME. -/
def execLoopResume (s : State) : Result := request .loopResume s State.loopResume

/-- R147: LOOP STOP. -/
def execLoopStop (s : State) : Result := request .loopStop s State.loopStop

/-- R148: SLOT SET. -/
def execSlotSet (frameLength : Nat) (entries : List Byte) (s : State) : Result :=
  request (.slotSet frameLength entries) s (fun s => s.slotSet frameLength entries)

/-- R149: UNIT ADDRESS. -/
def execUnitAddress (unit address : Nat) (s : State) : Result :=
  request (.unitAddress unit address) s (fun s => onUnit unit s (fun u s => s.unitAddress u address))

/-- R150: INJECT. -/
def execInject (unit : Nat) (s : State) : Result :=
  request (.inject unit) s (fun s => onUnit unit s (fun u s => (s.injectUnit u).done))

/-- R152: LOOP STATUS. -/
def execLoopStatus (s : State) : Result := request .loopStatus s State.loopStatus

end Sys2Proof.Machine
end

