-- ==== Sys2Proof/Machine/Dispatch.lean ====
section
/-! DEFINITION. The effect of each command: one arm per constructor of Instr, each one call of its meaning. -/

namespace Sys2Proof.Machine

def exec (i : Instr) (s : State) : Host.Outcome State Fault Refusal :=
  match i with
  | .hardReset => Sys2Proof.Machine.execHardReset s
  | .loadEnd read => Sys2Proof.Machine.execLoadEnd read s
  | .transactionStart => Sys2Proof.Machine.execTransactionStart s
  | .transactionEnd sent calEn => Sys2Proof.Machine.execTransactionEnd sent calEn s
  | .identify => Sys2Proof.Machine.execIdentify s
  | .noticeReport => Sys2Proof.Machine.execNoticeReport s
  | .noticeMask words => Sys2Proof.Machine.execNoticeMask words s
  | .noticeEdge words => Sys2Proof.Machine.execNoticeEdge words s
  | .admitVisit lane name => Sys2Proof.Machine.execAdmit lane name s
  | .book tag kind permit useTare day => Sys2Proof.Machine.execBook tag kind permit useTare day s
  | .lookup name => Sys2Proof.Machine.execLookup name s
  | .amend name useTare day => Sys2Proof.Machine.execAmend name useTare day s
  | .hold name => Sys2Proof.Machine.execHold name s
  | .releaseHold name lane => Sys2Proof.Machine.execReleaseHold name lane s
  | .voidVisit name => Sys2Proof.Machine.execVoid name s
  | .retire ticket => Sys2Proof.Machine.execRetire ticket s
  | .nextDone => Sys2Proof.Machine.execNextDone s
  | .takeChanges => Sys2Proof.Machine.execTakeChanges s
  | .tipDeclare ticket category => Sys2Proof.Machine.execTipDeclare ticket category s
  | .call lane ticket => Sys2Proof.Machine.execCall lane ticket s
  | .vehiclePut tag permit payload groups refresh banned tare => Sys2Proof.Machine.execVehiclePut tag permit payload groups refresh banned tare s
  | .vehicleGet name => Sys2Proof.Machine.execVehicleGet name s
  | .vehicleDrop tag => Sys2Proof.Machine.execVehicleDrop tag s
  | .tareStore ticket index validity => Sys2Proof.Machine.execTareStore ticket index validity s
  | .permitPut number allowed primary expiry => Sys2Proof.Machine.execPermitPut number allowed primary expiry s
  | .permitGet name => Sys2Proof.Machine.execPermitGet name s
  | .permitAdjust number amount => Sys2Proof.Machine.execPermitAdjust number amount s
  | .permitSuspend number => Sys2Proof.Machine.execPermitSuspend number s
  | .permitResume number => Sys2Proof.Machine.execPermitResume number s
  | .permitDrop number => Sys2Proof.Machine.execPermitDrop number s
  | .laneMode lane mode autoTake walkIn walkTare autoCapture => Sys2Proof.Machine.execLaneMode lane mode autoTake walkIn walkTare autoCapture s
  | .laneRelease lane => Sys2Proof.Machine.execLaneRelease lane s
  | .laneReset lane => Sys2Proof.Machine.execLaneReset lane s
  | .maintainOn lane => Sys2Proof.Machine.execMaintainOn lane s
  | .maintainOff lane => Sys2Proof.Machine.execMaintainOff lane s
  | .barrierRaise lane => Sys2Proof.Machine.execBarrierRaise lane s
  | .barrierLower lane => Sys2Proof.Machine.execBarrierLower lane s
  | .laneStatus lane => Sys2Proof.Machine.execLaneStatus lane s
  | .capture lane burst => Sys2Proof.Machine.execCapture lane burst s
  | .terminate lane => Sys2Proof.Machine.execTerminate lane s
  | .zero deck => Sys2Proof.Machine.execZero deck s
  | .deckStatus deck => Sys2Proof.Machine.execDeckStatus deck s
  | .loopStart => Sys2Proof.Machine.execLoopStart s
  | .loopPause => Sys2Proof.Machine.execLoopPause s
  | .loopResume => Sys2Proof.Machine.execLoopResume s
  | .loopStop => Sys2Proof.Machine.execLoopStop s
  | .slotSet frameLength entries => Sys2Proof.Machine.execSlotSet frameLength entries s
  | .unitAddress unit address => Sys2Proof.Machine.execUnitAddress unit address s
  | .inject unit => Sys2Proof.Machine.execInject unit s
  | .loopStatus => Sys2Proof.Machine.execLoopStatus s
  | .counterMode unit selection report => Sys2Proof.Machine.execCounterMode unit selection report s
  | .counterReport unit => Sys2Proof.Machine.execCounterReport unit s
  | .autoSwitch unit on => Sys2Proof.Machine.execAutoSwitch unit on s
  | .unitStatus unit => Sys2Proof.Machine.execUnitStatus unit s
  | .settingRead word source => Sys2Proof.Machine.execSettingRead word source s
  | .settingWrite word value calEn => Sys2Proof.Machine.execSettingWrite word value calEn s
  | .reload => Sys2Proof.Machine.execReload s
  | .restart => Sys2Proof.Machine.execRestart s
  | .clockSet day minute => Sys2Proof.Machine.execClockSet day minute s
  | .clockRead => Sys2Proof.Machine.execClockRead s
  | .storeReadEnd answer => Sys2Proof.Machine.execStoreReadEnd answer s
  | .writeCycleEnd readBack => Sys2Proof.Machine.execWriteCycleEnd readBack s
  | .restartEnd => Sys2Proof.Machine.execRestartEnd s
  | .yardClockSecond => Sys2Proof.Machine.execYardClockSecond s
  | .dayChange => Sys2Proof.Machine.execDayChange s
  | .reportIntervalTick => Sys2Proof.Machine.execReportIntervalTick s
  | .marker readBack => Sys2Proof.Machine.execMarker readBack s
  | .laneCommand slot readBack => Sys2Proof.Machine.execLaneCommand slot readBack s
  | .poll slot readBack => Sys2Proof.Machine.execPoll slot readBack s
  | .inSlotEnd slot heard => Sys2Proof.Machine.execInSlotEnd slot heard s
  | .laneStatusMessage unit report => Sys2Proof.Machine.execLaneStatusMessage unit report s
  | .tagRead unit tag => Sys2Proof.Machine.execTagRead unit tag s
  | .unitAlarm unit code => Sys2Proof.Machine.execUnitAlarm unit code s
  | .deckSample deck raw overRange => Sys2Proof.Machine.execDeckSample deck raw overRange s
  | .loopPaused slot => Sys2Proof.Machine.execLoopPaused slot s
  | .settleTimerExpiry lane => Sys2Proof.Machine.execSettleTimerExpiry lane s
  | .cycleTimerExpiry lane => Sys2Proof.Machine.execCycleTimerExpiry lane s
  | .recoveryTimerExpiry lane => Sys2Proof.Machine.execRecoveryTimerExpiry lane s
  | .passageTimeout lane => Sys2Proof.Machine.execPassageTimeout lane s
  | .travelTimerExpiry lane => Sys2Proof.Machine.execTravelTimerExpiry lane s
  | .gateClearTimerExpiry lane => Sys2Proof.Machine.execGateClearTimerExpiry lane s
  | .abandonTimerExpiry lane => Sys2Proof.Machine.execAbandonTimerExpiry lane s
  | .captureTimerExpiry deck => Sys2Proof.Machine.execCaptureTimerExpiry deck s
  | .trackingTimerExpiry deck => Sys2Proof.Machine.execTrackingTimerExpiry deck s
  | .noDataEntry deck => Sys2Proof.Machine.execNoDataEntry deck s
  | .unitLostEntry unit => Sys2Proof.Machine.execUnitLostEntry unit s
  | .unitGoodEntry unit => Sys2Proof.Machine.execUnitGoodEntry unit s
  | .alarmClear unit => Sys2Proof.Machine.execAlarmClear unit s
  | .detectorAssert unit kind => Sys2Proof.Machine.execDetectorAssert unit kind s
  | .detectorDeassert unit kind => Sys2Proof.Machine.execDetectorDeassert unit kind s
  | .rstNLow => Sys2Proof.Machine.execRstNLow s

end Sys2Proof.Machine
end

