-- ==== Sys2Proof/WellFormed.lean ====
section
/-! DEFINITION. The check of a command's operands: each operand a request carries fits the form R195 gives it, and
a list has the length its rule gives. A value outside its STATED range still fits its form: the rules answer such a
request with BAD_PARAMETER, so it is a well-formed command. -/

namespace Sys2Proof

/-- Fits one byte. -/
abbrev fits8 (n : Nat) : Bool := n < 256
/-- Fits two bytes. -/
abbrev fits16 (n : Nat) : Bool := n < 65536
/-- Fits four bytes. -/
abbrev fits32 (n : Nat) : Bool := n < 4294967296
/-- Fits four bytes in two's complement. -/
abbrev fitsS32 (x : Int) : Bool := -2147483648 ≤ x && x < 2147483648

def RecordName.wf : RecordName → Bool
  | .ticket t => fits32 t
  | .handle h => fits8 h

def AdmitName.wf : AdmitName → Bool
  | .tag _ => true
  | .handle h => fits8 h

def LookupName.wf : LookupName → Bool
  | .ticket t => fits32 t
  | .handle h => fits8 h
  | .tag _ => true

def VehicleName.wf : VehicleName → Bool
  | .tag _ => true
  | .index i => fits16 i

def PermitName.wf : PermitName → Bool
  | .number n => fits16 n
  | .next n => fits16 n

def TareParam.wf : TareParam → Bool
  | .none => true
  | .weight kg day validity => fitsS32 kg && fits16 day && fits16 validity
  | .keep => true

/-- R195, R191: the operands fit the request's form; a slot named by a loop step is 1 to 22; an image read whole
has 256 words (R180). -/
def Instr.wf : Instr → Bool
  | .hardReset | .transactionStart | .identify | .noticeReport | .nextDone | .takeChanges => true
  | .loadEnd read => match read with
    | none => true
    | some ws => ws.length == 256
  | .transactionEnd _ _ => true
  | .noticeMask ws => ws.length == 20
  | .noticeEdge ws => ws.length == 7
  | .admitVisit lane name => fits8 lane && name.wf
  | .book _ kind permit useTare day => fits8 kind && fits16 permit && fits8 useTare && fits16 day
  | .lookup name => name.wf
  | .amend name useTare day => name.wf && fits8 useTare && fits16 day
  | .hold name => name.wf
  | .releaseHold name lane => name.wf && lane.all (fits8 ·)
  | .voidVisit name => name.wf
  | .retire t => fits32 t
  | .tipDeclare t c => fits32 t && fits8 c
  | .call lane t => fits8 lane && fits32 t
  | .vehiclePut _ permit payload groups refresh banned tare =>
    fits16 permit && fitsS32 payload && fits8 groups && fits8 refresh && fits8 banned && tare.wf
  | .vehicleGet name => name.wf
  | .vehicleDrop _ => true
  | .tareStore t i v => fits32 t && fits8 i && fits16 v
  | .permitPut n _ primary expiry => fits16 n && fits8 primary && fits16 expiry
  | .permitGet name => name.wf
  | .permitAdjust n amount => fits16 n && fitsS32 amount
  | .permitSuspend n | .permitResume n | .permitDrop n => fits16 n
  | .laneMode lane mode a w t c => fits8 lane && fits8 mode && fits8 a && fits8 w && fits8 t && fits8 c
  | .laneRelease n | .laneReset n | .maintainOn n | .maintainOff n | .barrierRaise n | .barrierLower n => fits8 n
  | .laneStatus n | .terminate n | .zero n | .deckStatus n => fits8 n
  | .capture lane burst => fits8 lane && burst.all (fits8 ·)
  | .loopStart | .loopPause | .loopResume | .loopStop | .loopStatus => true
  | .slotSet len entries => fits8 len && entries.length == 22
  | .unitAddress u a => fits8 u && fits8 a
  | .inject u | .counterReport u | .unitStatus u => fits8 u
  | .counterMode u sel rep => fits8 u && fits8 sel && fits8 rep
  | .autoSwitch u on => fits8 u && fits8 on
  | .settingRead w src => fits16 w && fits8 src
  | .settingWrite w v _ => fits16 w && fits16 v
  | .reload | .restart | .clockRead => true
  | .clockSet d m => fits16 d && fits16 m
  | .storeReadEnd _ | .writeCycleEnd _ | .restartEnd | .yardClockSecond | .dayChange | .reportIntervalTick => true
  | .marker _ => true
  | .laneCommand slot _ | .poll slot _ | .inSlotEnd slot _ => 1 ≤ slot && slot ≤ 22
  | .loopPaused slot => slot ≤ 22
  | .laneStatusMessage _ _ | .tagRead _ _ | .unitAlarm _ _ | .deckSample _ _ _ => true
  | .settleTimerExpiry _ | .cycleTimerExpiry _ | .recoveryTimerExpiry _ | .passageTimeout _ => true
  | .travelTimerExpiry _ | .gateClearTimerExpiry _ | .abandonTimerExpiry _ | .captureTimerExpiry _ => true
  | .trackingTimerExpiry _ | .noDataEntry _ | .unitLostEntry _ | .unitGoodEntry _ | .alarmClear _ => true
  | .detectorAssert _ _ | .detectorDeassert _ _ | .rstNLow => true

end Sys2Proof
end

