-- ==== Sys2Proof/Safety.lean ====
section
/-! DEFINITION. The terms the statements are written in: when the part takes a request, what a state in good order is,
and which parts of the state a command leaves alone. -/

namespace Sys2Proof.Machine

/-- R192, R193: the port takes the request `c` now and its block will judge it: RST_N is high, the port is free (or
holds `c` itself, handed on by a frame), no load and no restart is under way. -/
structure Accepts (s : State) (c : Instr) : Prop where
  up     : s.rstLow = false
  taken  : s.portTakes c = true
  loaded : s.loader.status ≠ .loading
  steady : s.restarting = false

/-- The three keyed tables are in their one canonical form: keys strictly rising. -/
structure TablesCanonical (s : State) : Prop where
  records  : s.vt.records.wf
  vehicles : s.vehicles.wf
  permits  : s.permits.wf

/-- R196: the live levels the Notice Unit holds are those its blocks drive. -/
def LevelsFollow (s : State) : Prop := s.notices.levels = s.drivenLevels

/-- R26: the Change List names each record at most once, and only records that are in the table. -/
structure ChangesLawful (s : State) : Prop where
  once : s.vt.changes.Nodup
  live : ∀ slot ∈ s.vt.changes, (s.visit slot).isSome = true

/-- R196, R197: no word of the latch, of the mask or of the edge selections has a bit that names no position. -/
structure NoticesLegal (s : State) : Prop where
  latched : ∀ k : Fin 20, s.notices.latched.get k &&& ~~~ (positionBits.get k) = 0
  mask    : ∀ k : Fin 20, s.notices.mask.get k &&& ~~~ (positionBits.get k) = 0
  edges   : ∀ k : Fin 7, s.notices.edges.get k &&& ~~~ (levelBits.get k) = 0

/-- The tables in order and the live levels in agreement with the blocks that drive them. -/
def InGoodOrder (s : State) : Prop := TablesCanonical s ∧ LevelsFollow s

/-! ### The laws of the Visit Table, the lanes, the permits and the register -/

/-- R5: the states in which a visit is bound to a lane. -/
def VisitState.isBound : VisitState → Bool
  | .admitting | .reweighing | .exiting | .cleared => true
  | .booked | .inYard | .done | .held | .void => false

/-- R5: the lane states in which a lane names a bound visit. -/
def LaneState.hasVisit : LaneState → Bool
  | .settling | .bound | .passing => true
  | .closed | .idle | .releasing | .maintenance | .fault => false

/-- R172: the state that gives a record's fields their meaning: its own, or the prior one of a HELD record. -/
def Visit.standsAs (v : Visit) : VisitState := if v.state = .held then v.prior.getD .held else v.state

/-- R1, R2, R3, R5, R12, R13, R127, R172: what holds of each record by itself. -/
structure VisitLawful (v : Visit) : Prop where
  named    : v.ticket = none ↔ v.standsAs = .booked
  ticket   : ∀ t, v.ticket = some t → 1 ≤ t ∧ t ≤ 99999999
  bound    : v.lane.isSome = v.state.isBound
  held     : v.state = .held → v.reason.isSome = true ∧ (v.standsAs.isBound = true ∨ v.standsAs = .booked ∨
    v.standsAs = .inYard)
  free     : v.state ≠ .held → v.prior = none ∧ v.reason = none ∧ v.later = []
  outside  : v.standsAs = .booked ∨ v.standsAs = .admitting ∨ v.standsAs = .done → v.inYard = false
  inside   : v.standsAs = .inYard ∨ v.standsAs = .reweighing ∨ v.state = .exiting ∨ v.state = .cleared → v.inYard = true
  permit   : v.permit.isSome = decide (v.kind = .tip)
  reserved : v.reservation ≠ 0 → v.kind = .tip ∧ (v.standsAs = .admitting ∨ v.standsAs = .inYard ∨
    v.standsAs = .reweighing ∨ v.standsAs = .exiting)
  places   : v.weighings.length ≤ 6
  legal    : ∀ w ∈ v.weighings, w.legal = true → w.result = .complete

/-- R1, R7, R25: the laws of the Visit Table: its slots, its ticket numbers, the records of one tag, the next-ticket
counter and the Completion List. -/
structure VisitsLawful (s : State) : Prop where
  each       : ∀ slot v, s.visit slot = some v → slot < 192 ∧ VisitLawful v
  tickets    : ∀ a b v w t, s.visit a = some v → s.visit b = some w → v.ticket = some t → w.ticket = some t → a = b
  booked     : ∀ a b v w, s.visit a = some v → s.visit b = some w → v.tag = w.tag → v.state = .booked →
    w.state = .booked → a = b
  inProgress : ∀ a b v w, s.visit a = some v → s.visit b = some w → v.tag = w.tag → v.state ≠ .booked →
    w.state ≠ .booked → v.finished = false → w.finished = false → a = b
  next       : 1 ≤ s.vt.nextTicket ∧ s.vt.nextTicket ≤ 99999999
  once       : s.vt.completion.Nodup
  finished   : ∀ slot, slot ∈ s.vt.completion ↔ ∃ v, s.visit slot = some v ∧ v.finished = true

/-- R13: the occupancy law. -/
def OccupancyLawful (s : State) : Prop := s.vt.occupancy = (s.vt.records.filter (fun e => e.2.inYard)).length

/-- R5, R60, R73, R88: the binding law, the modes of the lanes that bind, which visits may pass, the visits that lanes
in RELEASING watch for, and the lanes during a load. -/
structure BindingsLawful (s : State) : Prop where
  visit   : ∀ slot v n, s.visit slot = some v → v.lane = some n → (s.lane n).state.hasVisit = true ∧
    (s.lane n).bound = v.ticket ∧ State.modeFits v.state (s.lane n).mode = true
  passes  : ∀ slot v n, s.visit slot = some v → v.lane = some n → (s.lane n).state = .passing ∨
    ((s.lane n).state = .settling ∧ (s.lane n).eligible = true) → v.state ≠ .exiting
  lane    : ∀ n, (s.lane n).state.hasVisit = true → ∃ slot v, s.visit slot = some v ∧ v.lane = some n
  free    : ∀ n, (s.lane n).state.hasVisit = false → (s.lane n).bound = none
  watched : ∀ n t, (s.lane n).heldVisit = some t → (s.lane n).state = .releasing ∧ ∃ slot v prior,
    s.visit slot = some v ∧ v.ticket = some t ∧ v.state = .held ∧ v.prior = some prior ∧
    State.modeFits prior (s.lane n).mode = true ∧ v.inYard = decide ((s.lane n).mode ≠ .entry)
  once    : ∀ m n t, (s.lane m).heldVisit = some t → (s.lane n).heldVisit = some t → m = n
  loading : s.loader.status = .loading → ∀ n, (s.lane n).state = .closed

/-- R77, R85, R88: a barrier is ordered to RAISE at a lane in PASSING or MAINTENANCE alone, and its tracking agrees with
its lane. -/
structure BarriersLawful (s : State) : Prop where
  passing : ∀ n, (s.lane n).state = .passing → (s.barrier n).order = .raise ∧ (s.barrier n).tracking = .boundVisit
  raised  : ∀ n, (s.barrier n).order = .raise → (s.lane n).state = .passing ∨ (s.lane n).state = .maintenance
  bound   : ∀ n, (s.barrier n).tracking = .boundVisit → (s.lane n).state = .passing
  held    : ∀ n, (s.barrier n).tracking = .heldVisit ↔ (s.lane n).heldVisit.isSome = true

/-- R12: the reservation law. -/
def ReservationsLawful (s : State) : Prop :=
  ∀ number p, s.permits.get number = some p →
    p.reserved = ((s.vt.records.filter (fun e => e.2.permit = some number)).map (fun e => e.2.reservation)).sum

/-- R28, R34: the retention law: what a live record names is in its table, and each live-visit count is the number of
the records that name the entry. No two vehicle entries share a tag. -/
structure RetentionLawful (s : State) : Prop where
  vehicle  : ∀ slot v, s.visit slot = some v → ∃ veh, s.vehicles.get v.vehicle = some veh ∧ veh.tag = v.tag
  permit   : ∀ slot v number, s.visit slot = some v → v.permit = some number → (s.permits.get number).isSome = true
  vehicles : ∀ index veh, s.vehicles.get index = some veh →
    veh.live = (s.vt.records.filter (fun e => e.2.vehicle = index)).length
  permits  : ∀ number p, s.permits.get number = some p →
    p.live = (s.vt.records.filter (fun e => e.2.permit = some number)).length
  tags     : ∀ a b v w, s.vehicles.get a = some v → s.vehicles.get b = some w → v.tag = w.tag → a = b

/-- The laws that the rules name, together: each step keeps each of them where all of them hold. -/
structure Lawful (s : State) : Prop where
  tables       : TablesCanonical s
  visits       : VisitsLawful s
  occupancy    : OccupancyLawful s
  bindings     : BindingsLawful s
  barriers     : BarriersLawful s
  reservations : ReservationsLawful s
  retention    : RetentionLawful s

/-! ### What a load of the settings image gives each block -/

/-- R181: word `k` of an image. -/
def wordAt (image : List Word) (k : Nat) : Nat := (image.getD k 0).toNat

/-- R181: a setting of two words has its low 16 bits in the lower word. -/
def doubleAt (image : List Word) (k : Nat) : Nat := wordAt image k + 65536 * wordAt image (k + 1)

/-- R138: a frame length and a slot table suit the units. -/
def SlotsSuitUnits (length : Nat) (slots : List SlotEntry) : Prop :=
  let owned (u : Fin 8) := (slots.take length).filter (fun e => decide (e.unit = some u))
  length ≤ 22 ∧ (∀ n : Fin 4, ∀ e ∈ owned (digitizer n), e.dir = .inward) ∧
  ∀ n : Fin 4, owned (laneUnit n) = [] ∨
    ((owned (laneUnit n)).countP (fun e => decide (e.dir = .out)) = 1 ∧
      1 ≤ (owned (laneUnit n)).countP (fun e => decide (e.dir = .inward)))

/-- R148, R181, R195: the entry bytes of a SLOT SET spell these slots: bits 3 to 0 the unit, 15 for none; bit 4 the
direction. -/
def SpellsSlots (entries : List Byte) (slots : List SlotEntry) : Prop :=
  slots.length = entries.length ∧ ∀ (k : Nat) (b : Byte) (e : SlotEntry), entries[k]? = some b → slots[k]? = some e →
    ((b.toNat % 16 = 15 ∧ e.unit = none) ∨ ∃ u : Fin 8, b.toNat % 16 = u.val ∧ e.unit = some u) ∧
    e.dir = if b.toNat / 16 % 2 = 0 then .out else .inward

/-- R138, R181: an image holds these slots and addresses, and they meet the conditions on them. -/
structure HoldsLoopWords (image : List Word) (slots : List SlotEntry) (addresses : Vector Nat 8) : Prop where
  count     : slots.length = 22
  units     : ∀ k e, slots[k]? = some e → (wordAt image (60 + k) % 16 = 15 ∧ e.unit = none) ∨
    ∃ u : Fin 8, wordAt image (60 + k) % 16 = u.val ∧ e.unit = some u
  dirs      : ∀ k e, slots[k]? = some e →
    e.dir = if wordAt image (60 + k) / 16 % 2 = 0 then .out else .inward
  suit      : SlotsSuitUnits (wordAt image 59) slots
  given     : ∀ u : Fin 8, addresses.get u = wordAt image (82 + u.val) ∧ 1 ≤ addresses.get u ∧ addresses.get u ≤ 30
  differ    : ∀ u v : Fin 8, u ≠ v → addresses.get u ≠ addresses.get v

/-- R153: the loop's tables come from an image whose load was LOADED and whose loop words meet R138, and are the loop's
defaults otherwise (log 34 for a slot word that names no unit). -/
def TakesLoopWords (status : LoadStatus) (image : List Word) (l : Loop) : Prop :=
  (∀ slots addresses, status = .loaded → HoldsLoopWords image slots addresses →
    l.frameLength = wordAt image 59 ∧ l.slots = slots ∧ l.addresses = addresses ∧
      (l.autoStart = true ↔ wordAt image 90 % 2 = 1)) ∧
  ((status ≠ .loaded ∨ ∀ slots addresses, ¬ HoldsLoopWords image slots addresses) →
    l.frameLength = 0 ∧ l.slots = List.replicate 22 ⟨none, .out⟩ ∧ l.addresses = #v[1, 2, 3, 4, 5, 6, 7, 8] ∧
      l.autoStart = false)

/-- R91, R92: the nine words of a deck, from word `b` on, name a method and lie in their ranges. -/
def DeckWordsInRange (image : List Word) (b : Nat) : Prop :=
  (wordAt image b = 1 ∨ wordAt image b = 2) ∧ doubleAt image (b + 1) ≤ 16777215 ∧
  1 ≤ doubleAt image (b + 3) ∧ doubleAt image (b + 3) ≤ 1048576 ∧
  500 ≤ doubleAt image (b + 5) ∧ doubleAt image (b + 5) ≤ 100000 ∧
  (wordAt image (b + 7) = 5 ∨ wordAt image (b + 7) = 10 ∨ wordAt image (b + 7) = 20 ∨ wordAt image (b + 7) = 50) ∧
  20 ≤ wordAt image (b + 8) ∧ wordAt image (b + 8) ≤ 2000

/-- R92, R93, R110, R181, R182: deck `n` after a load (log 9 for the working zero of a deck without parameters). -/
def TakesDeckWords (status : LoadStatus) (image : List Word) (n : Fin 4) (d : Deck) : Prop :=
  let b := 2 + 9 * n.val
  (status = .loaded → DeckWordsInRange image b → d = { Deck.reset with
    method := if wordAt image b = 1 then .whole else .axle
    params := some ⟨doubleAt image (b + 1), doubleAt image (b + 3), doubleAt image (b + 5), wordAt image (b + 7),
      wordAt image (b + 8)⟩
    certified := decide (b + 8 ≤ min 255 (wordAt image 1))
    workingZero := doubleAt image (b + 1) }) ∧
  (status ≠ .loaded ∨ ¬ DeckWordsInRange image b → d = Deck.reset)

/-- R73, R168, R181: the mode and the flags of lane `n`, and automatic switching of its unit, from its two words. -/
def TakesLaneWords (status : LoadStatus) (image : List Word) (n : Fin 4) (l : Lane) (u : UnitRec) : Prop :=
  let flag (k : Nat) : Bool := (image.getD (52 + 2 * n.val) 0).getLsbD k
  (status = .loaded → wordAt image (51 + 2 * n.val) ≤ 3 →
    [LaneMode.closed, .entry, .exit, .internal][wordAt image (51 + 2 * n.val)]? = some l.mode ∧
    l.autoTake = flag 0 ∧ l.walkIn = flag 1 ∧ l.autoCapture = flag 2 ∧ l.walkTare = flag 3 ∧
    u.autoSwitch = flag 4) ∧
  (status ≠ .loaded ∨ 3 < wordAt image (51 + 2 * n.val) →
    l.mode = .closed ∧ l.autoTake = false ∧ l.walkIn = false ∧ l.autoCapture = false ∧ l.walkTare = false ∧
    u.autoSwitch = false)

/-- R181, R196, R199: the mask and the edge selections an image holds, in words 91 to 117. -/
def TakesNoticeWords (image : List Word) (x : Notices) : Prop :=
  (∀ k : Fin 20, x.mask.get k = image.getD (91 + k.val) 0 &&& positionBits.get k) ∧
  ∀ k : Fin 7, x.edges.get k = image.getD (111 + k.val) 0 &&& levelBits.get k

/-- R146, R151: a loop record as a LOOP START leaves it, its marker slot opened (log 17). -/
def startedLoop (l : Loop) : Loop :=
  { l with
    state := .running, period := l.frameLength + 1, frameNo := (l.frameNo + 1) % 256, working := []
    position := some 0, markerOpen := true, polled := none, slotDone := false, begun := none, shown := 0
    pauseShown := false }

/-- R90: a sequencer whose travel timer waits for the loop's start, as the loop starts. -/
def travelStarted (b : Barrier) (frames : Nat) : Barrier :=
  if b.travelAtStart then { b with travel := some frames, travelAtStart := false } else b

/-! ### The admission checks (R8, R9) -/

/-- R9: the checks up to the fourth pass for the vehicle of a tag at an IDLE lane whose cycle timer has expired. -/
structure MayEnter (s : State) (tag : Tag) (index : Nat) (veh : Vehicle) : Prop where
  clock   : s.clock.isSet = true
  known   : s.vehicleByTag tag = some (index, veh)
  allowed : veh.banned = false
  outside : s.byTagInProgress tag = none

/-- R8: the candidate of an admission asks for a visit of this kind on this permit: the tag's booking, or a walk-in. -/
inductive Seeks (s : State) (n : Fin 4) (tag : Tag) (veh : Vehicle) : VisitKind → Option Nat → Prop
  | booking (slot : Nat) (v : Visit) : s.byTagBooked tag = some (slot, v) → Seeks s n tag veh v.kind v.permit
  | walkIn (slot : Nat) : s.byTagBooked tag = none → (s.lane n).walkIn = true →
      s.vt.records.lowestFree 192 = some slot → Seeks s n tag veh .tip veh.defaultPermit

/-- R9: the first of the checks 2 to 9 that fails for a tag at lane `n`, as the status it gives. -/
inductive FailsCheck (s : State) (n : Fin 4) (tag : Tag) : Status → Prop
  | clock : s.clock.isSet = false → FailsCheck s n tag .clockUnset
  | unknown : s.clock.isSet = true → s.vehicleByTag tag = none → FailsCheck s n tag .notFound
  | banned (index : Nat) (veh : Vehicle) : s.clock.isSet = true → s.vehicleByTag tag = some (index, veh) →
      veh.banned = true → FailsCheck s n tag .banned
  | inside (index : Nat) (veh : Vehicle) : s.clock.isSet = true → s.vehicleByTag tag = some (index, veh) →
      veh.banned = false → (s.byTagInProgress tag).isSome = true → FailsCheck s n tag .inYard
  | unbooked (index : Nat) (veh : Vehicle) : MayEnter s tag index veh → s.byTagBooked tag = none →
      (s.lane n).walkIn = false → FailsCheck s n tag .noBooking
  | full (index : Nat) (veh : Vehicle) : MayEnter s tag index veh → s.byTagBooked tag = none →
      (s.lane n).walkIn = true → s.vt.records.lowestFree 192 = none → FailsCheck s n tag .tableFull
  | inactive (index : Nat) (veh : Vehicle) (permit : Option Nat) : MayEnter s tag index veh →
      Seeks s n tag veh .tip permit →
      (∀ number p, permit = some number → s.permits.get number = some p → p.state ≠ .active) →
      FailsCheck s n tag .permitInactive
  | poor (index : Nat) (veh : Vehicle) (number : Nat) (p : Permit) : MayEnter s tag index veh →
      Seeks s n tag veh .tip (some number) → s.permits.get number = some p → p.state = .active →
      p.balance - p.reserved < veh.payload → FailsCheck s n tag .noBalance
  | crowdedTip (index : Nat) (veh : Vehicle) (number : Nat) (p : Permit) : MayEnter s tag index veh →
      Seeks s n tag veh .tip (some number) → s.permits.get number = some p → p.state = .active →
      veh.payload ≤ p.balance - p.reserved → occupancyLimit s.loader.image ≤ s.vt.occupancy + s.numAdmitting →
      FailsCheck s n tag .occupancyLimit
  | crowdedLoad (index : Nat) (veh : Vehicle) (permit : Option Nat) : MayEnter s tag index veh →
      Seeks s n tag veh .load permit → occupancyLimit s.loader.image ≤ s.vt.occupancy + s.numAdmitting →
      FailsCheck s n tag .occupancyLimit

/-! ### Readings and captures -/

/-- R94 to R96: a DECK_SAMPLE waits for an enabled deck whose digitizer is neither LOST nor in ALARM, and gives a weight
that is no overload. -/
structure Sampled (s : State) (n : Fin 4) (raw : BitVec 24) (frame : Nat) (p : DeckParams) (weight : Int) : Prop where
  up      : s.rstLow = false
  waits   : s.loop.delivery = some ⟨.deckSample n raw false, frame⟩
  enabled : (s.deck n).params = some p
  heard   : (s.unit (digitizer n)).state ≠ .lost ∧ (s.unit (digitizer n)).state ≠ .alarm
  weighs  : weight =
    roundDiv (roundDiv (((raw.toNat : Int) - (s.deck n).workingZero) * p.span) 65536) p.division * p.division
  within  : weight ≤ (p.capacity + 9 * p.division : Int)

/-- R97, R98: the deck state that a sample of this weight gives. -/
inductive ReadsAs (s : State) (n : Fin 4) (p : DeckParams) (weight : Int) : DeckState → Prop
  | empty : weight.natAbs ≤ 5 * p.division → ReadsAs s n p weight .empty
  | stable (w : Window) : 5 * p.division < weight.natAbs → (s.deck n).window = some w →
      (weight - w.ref).natAbs ≤ p.division → s.frames .dwell ≤ w.age → 3 ≤ w.count → ReadsAs s n p weight .stable
  | started : 5 * p.division < weight.natAbs →
      (∀ w, (s.deck n).window = some w → p.division < (weight - w.ref).natAbs) → ReadsAs s n p weight .motion
  | settling (w : Window) : 5 * p.division < weight.natAbs → (s.deck n).window = some w →
      (weight - w.ref).natAbs ≤ p.division → w.age < s.frames .dwell ∨ w.count < 3 → ReadsAs s n p weight .motion

/-- R120: a burst has its length, or eight groups. -/
def BurstFull (c : Capture) : Prop := 8 ≤ c.counted ∨ ∃ k, c.burst = .fixed k ∧ k ≤ c.counted

/-- R119: the capture with a group recorded. -/
def withGroup (c : Capture) (weight : Int) (inRange : Bool) : Capture :=
  { c with phase := .onGroup true, groups := c.groups ++ [⟨weight, inRange⟩], counted := c.counted + 1 }

/-- R119: the capture with a group missed. -/
def withoutGroup (c : Capture) : Capture := { c with phase := .grouping, counted := c.counted + 1, missed := true }

/-- R119, R120: an AXLE_SUM capture goes on after a reading, and how. -/
inductive AxleGoesOn (c : Capture) (weight : Int) (inRange : Bool) : DeckState → Capture → Prop
  | between : c.phase = .grouping → ¬ (c.burst = .open ∧ c.beyondSeen = true ∧ 1 ≤ c.counted) →
      AxleGoesOn c weight inRange .empty c
  | arrives : c.phase = .grouping → AxleGoesOn c weight inRange .motion { c with phase := .onGroup false }
  | records : c.phase = .grouping ∨ c.phase = .onGroup false → ¬ BurstFull (withGroup c weight inRange) →
      AxleGoesOn c weight inRange .stable (withGroup c weight inRange)
  | waits : c.phase = .onGroup false → AxleGoesOn c weight inRange .motion c
  | rocks : c.phase = .onGroup true → AxleGoesOn c weight inRange .motion c
  | stands : c.phase = .onGroup true → AxleGoesOn c weight inRange .stable c
  | leaves : c.phase = .onGroup true → AxleGoesOn c weight inRange .empty { c with phase := .grouping }
  | misses : c.phase = .onGroup false → ¬ BurstFull (withoutGroup c) →
      AxleGoesOn c weight inRange .empty (withoutGroup c)

/-- R119, R120: a reading ends the burst of an AXLE_SUM capture, with what the capture has then gathered. -/
inductive AxleEnds (c : Capture) (weight : Int) (inRange : Bool) : DeckState → Capture → Prop
  | runsOut : c.phase = .grouping → c.burst = .open → c.beyondSeen = true → 1 ≤ c.counted →
      AxleEnds c weight inRange .empty c
  | records : c.phase = .grouping ∨ c.phase = .onGroup false → BurstFull (withGroup c weight inRange) →
      AxleEnds c weight inRange .stable (withGroup c weight inRange)
  | misses : c.phase = .onGroup false → BurstFull (withoutGroup c) →
      AxleEnds c weight inRange .empty (withoutGroup c)

/-- R122, R126: a capture, already stopped, FAILS: the failure of a VISIT capture is counted, a test weighing writes its
result; CAPTURE_DONE is latched. -/
structure CaptureFails (s t : State) (n : Fin 4) (c : Capture) (r : FailReason) : Prop where
  engine : t.engine n = ⟨none, (s.engine n).failures + (if c.purpose = .test then 0 else 1),
    some ⟨.failed r, c.purpose, c.method, none, none⟩⟩
  lane   : t.lane n = if c.purpose = .test
    then { s.lane n with testResult := some ⟨.failed r, c.method, none, none, none, s.now⟩ } else s.lane n
  notice : t.notices.isLatched .captureDone n.val = true

/-- R112, R126: a capture may fail without an effect on its binding: a test weighing, or the first two failures. -/
def MayFail (s : State) (n : Fin 4) (c : Capture) : Prop :=
  c.purpose = .test ∨ ((∃ ticket role, c.purpose = .visit ticket role) ∧ (s.engine n).failures < 2)

/-- R116: the burst length of a capture as it starts: the one asked for, if one was; OPEN for a test weighing; else the
axle groups of the visit's vehicle, where 0 gives OPEN. -/
def startingBurst (s : State) (purpose : Purpose) (asked : Option Burst) : Burst :=
  let axleGroups (ticket : Nat) : Nat :=
    match (s.byTicket ticket).bind (fun r => s.vehicles.get r.2.vehicle) with
    | some veh => veh.axleGroups
    | none => 0
  match asked, purpose with
  | some b, _ => b
  | none, .test => .open
  | none, .visit ticket _ => if axleGroups ticket = 0 then .open else .fixed (axleGroups ticket)

/-- R115 to R117: a capture as it starts at lane `n`, with the burst length asked for, if one was. -/
def captureStarted (s : State) (n : Fin 4) (purpose : Purpose) (asked : Option Burst) : Capture where
  phase := if (s.deck n).method = .axle then .grouping
    else if (s.barrier n).report.deck && !(s.barrier n).report.approach && !(s.barrier n).report.gate
    then .measuring else .waiting
  purpose := purpose
  method := if (s.deck n).method = .axle then .axleSum else .whole
  burst := startingBurst s purpose asked
  groups := []
  counted := 0
  missed := false
  beyondSeen := decide ((s.deck n).method = .axle) && (s.barrier n).report.beyond
  timer := some (s.frames .captureLimit)

/-- R113: the role that a bound visit's state gives its weighing. -/
def RoleOf (v : Visit) (role : Role) : Prop :=
  (v.state = .admitting ∧ role = .entry) ∨ (v.state = .reweighing ∧ role = .reweigh) ∨
    (v.state = .exiting ∧ role = .exit)

/-- R120, R126, R127, R130: an AXLE_SUM test weighing ends with the sum of the groups of `c`, COMPLETE or PARTIAL. -/
structure TestSums (s t : State) (n : Fin 4) (c : Capture) (result : CaptureResult) (legal : Bool) : Prop where
  lane   : t.lane n = { s.lane n with testResult := some ⟨result, .axleSum, some (c.groups.map (·.weight)).sum,
    some (c.groups.map (·.weight)), some legal, s.now⟩ }
  last   : (t.engine n).lastOutcome =
    some ⟨result, .test, .axleSum, some (c.groups.map (·.weight)).sum, some legal⟩
  legal  : legal = true ↔ result = .complete ∧ (s.deck n).certified = true ∧ (∀ g ∈ c.groups, g.inRange = true) ∧
    ∃ p, (s.deck n).params = some p ∧ (p.minWeigh * p.division : Int) ≤ (c.groups.map (·.weight)).sum
  notice : t.notices.isLatched .captureDone n.val = true

/-- R126, R127, R128: the weighing of an AXLE_SUM capture that ends PARTIAL. -/
def partialEntry (s : State) (n : Fin 4) (c : Capture) (role : Role) (standing : Standing) : Weighing where
  role := role
  deck := some n
  method := some .axleSum
  weight := (c.groups.map (·.weight)).sum
  groups := some (c.groups.map (·.weight))
  result := .part
  standing := standing
  legal := false
  time := s.now

/-- R118, R127: the VALID COMPLETE weighing of a WHOLE capture, with its legal mark. -/
def wholeEntry (s : State) (n : Fin 4) (role : Role) (weight : Int) (legal : Bool) : Weighing where
  role := role
  deck := some n
  method := some .whole
  weight := weight
  groups := none
  result := .complete
  standing := .valid
  legal := legal
  time := s.now

/-- R18: the STORED_TARE entry of an EXIT bind. -/
def storedEntry (s : State) (x : Tare) : Weighing where
  role := .storedTare
  deck := none
  method := none
  weight := x.kg
  groups := none
  result := .complete
  standing := .valid
  legal := true
  time := s.now

/-- R128: the weighing list of a record with a new VALID COMPLETE entry, the earlier ones of its role in the stop
withdrawn. -/
def withEntry (v : Visit) (e : Weighing) : List Weighing :=
  v.weighings.zipIdx.map (fun (w, k) =>
    if v.stopMark ≤ k ∧ w.standing = .valid ∧ (w.role = e.role ∨ (e.role = .exit ∧ w.role = .storedTare))
    then { w with standing := .withdrawn } else w) ++ [e]

/-! ### What a lane does with its visit -/

/-- R60, R85: the lane has let its visit pass. -/
structure LetsPass (s t : State) (n : Fin 4) (ticket : Nat) : Prop where
  lane    : t.lane n = { s.lane n with
    state := .passing, eligible := false, settle := none, passage := some (s.frames .passage)
    pendingCapture := none, display := ⟨if (s.lane n).mode = .exit then .ticket else .proceed, ticket⟩ }
  order   : (t.barrier n).order = .raise
  tracks  : (t.barrier n).tracking = .boundVisit ∧ (t.barrier n).beyondSeen = false

/-- R62, R63, R88, R169: the lane has entered RELEASING with a visit that was held there, and watches for it. -/
structure Releases (s t : State) (n : Fin 4) (ticket : Nat) : Prop where
  lane    : t.lane n = { s.lane n with
    bound := none, eligible := false, settle := none, passage := none, pendingCapture := none
    state := .releasing, heldVisit := some ticket, recovery := some (s.frames .recovery)
    display := ⟨.seeOffice, ticket⟩ }
  barrier : (t.barrier n).order = .lower ∧ (t.barrier n).tracking = .heldVisit
  notice  : t.notices.isLatched .visitHeld n.val = true

/-- R53: the lane and its engine have taken a grant. -/
structure Binds (s t : State) (n : Fin 4) (ticket : Nat) (tag : Tag) (eligible : Bool) : Prop where
  lane   : t.lane n = { s.lane n with
    state := .settling, bound := some ticket, boundTag := some tag, eligible := eligible
    settle := some (s.frames .settle), cycle := Timer.load (s.frames .cycle), display := ⟨.weighing, ticket⟩ }
  engine : t.engine n = { s.engine n with failures := 0 }

/-- R176: lane `n` has stopped watching for the visit of a ticket, if it did watch for it. -/
def StopsWatching (s t : State) (n : Fin 4) (ticket : Option Nat) : Prop :=
  let watched := ticket ≠ none ∧ (s.lane n).state = .releasing ∧ (s.lane n).heldVisit = ticket
  (watched → t.lane n = { s.lane n with heldVisit := none, display := ⟨.welcome, 0⟩ } ∧
    t.barrier n = { s.barrier n with tracking := .inactive }) ∧
  (¬ watched → t.lane n = s.lane n ∧ t.barrier n = s.barrier n)

/-! ### Clearance (R21, R22, R36) -/

/-- R3: the counted weighings. -/
def countedOf (v : Visit) : List Weighing :=
  v.weighings.filter (fun w => decide (w.standing = .valid) && decide (w.result = .complete))

/-- R21: the division that judges a difference: that of the deck of the later weighing, or of the earlier where the
later is a STORED_TARE entry; none where that deck has none (log 12). -/
def judgingDivision (s : State) (earlier later : Weighing) : Option Nat :=
  (if later.role = .storedTare then earlier.deck else later.deck).bind (fun d => (s.deck d).params.map (·.division))

/-- R21: the differences that a clearance judges, in the order of the intervals, each with its division. -/
def differencesOf (s : State) (v : Visit) : List (Int × Option Nat) :=
  let ws := countedOf v
  match v.kind with
  | .tip => (ws.zip (ws.drop 1)).map (fun (a, b) => (a.weight - b.weight, judgingDivision s a b))
  | .load => match ws.head?, ws.getLast? with
    | some a, some b => [(b.weight - a.weight, judgingDivision s a b)]
    | _, _ => []

/-- R21: the nets of a clearance that completes: a small negative difference is recorded as 0. -/
def netsOf (s : State) (v : Visit) : List Int := (differencesOf s v).map (fun d => max d.1 0)

/-- R21: two weighings count, and no difference lies below −1 division. -/
def ClearanceCompletes (s : State) (v : Visit) : Prop :=
  2 ≤ (countedOf v).length ∧
    ∀ d ∈ differencesOf s v, 0 ≤ d.1 ∨ ∃ division : Nat, d.2 = some division ∧ -(division : Int) ≤ d.1

/-- R21: fewer than two weighings count, or a difference lies below −1 division. -/
def ClearanceHolds (s : State) (v : Visit) : Prop :=
  (countedOf v).length < 2 ∨
    ∃ d ∈ differencesOf s v, ∃ division : Nat, d.2 = some division ∧ d.1 < -(division : Int)

/-- R21 steps 1 and 3: the entry of each interval, a DEFAULT one where none was declared, then those beyond the last. -/
def filledWith (v : Visit) (primary : Nat) : List Tip :=
  let n := (countedOf v).length - 1
  (List.range' 1 n).map (fun k => (v.tips.find? (fun t => decide (t.interval = k))).getD ⟨k, primary, .default, none⟩)
    ++ v.tips.filter (fun t => decide (n < t.interval))

/-- R21, R22, R36, R47: the record `v`, its EXIT or STORED_TARE entry in it, has been cleared; `p` is its permit where
it is a TIP record, and `veh` its vehicle. -/
structure Cleared (s t : State) (n : Fin 4) (slot : Nat) (v : Visit) (number : Nat) (p : Permit) (veh : Vehicle) :
    Prop where
  record  : ∃ legal, t.visit slot = some { v with
      tips := if v.kind = .tip
        then (filledWith v p.primary).map (fun x => { x with net := some ((netsOf s v).getD (x.interval - 1) 0) })
        else v.tips
      netTotal := some (netsOf s v).sum, legal := some legal, reservation := 0
      clearedAt := some s.now, state := .cleared } ∧
    (legal = true ↔ ∀ w, (v.kind = .tip ∧ w ∈ countedOf v) ∨ (v.kind = .load ∧
      ((countedOf v).head? = some w ∨ (countedOf v).getLast? = some w)) → w.legal = true)
  permit  : t.permits = if v.kind = .tip then s.permits.put number { p with
      balance := max (-2000000000) (p.balance - (netsOf s v).sum), reserved := p.reserved - v.reservation }
    else s.permits
  refresh : ∀ w, (countedOf v).getLast? = some w → t.vehicles =
    if v.kind = .tip ∧ veh.refresh = true ∧ w.role = .exit ∧ w.legal = true
    then s.vehicles.put v.vehicle { veh with
      tare := veh.tare.map (fun x => { x with kg := w.weight, day := s.clock.day }) }
    else s.vehicles
  notice  : t.notices.isLatched .cleared n.val = true

/-- R21, R169: the record has been held with NEGATIVE_NET; it keeps the DEFAULT entries of its intervals (log 38). -/
structure HeldUncleared (s t : State) (slot : Nat) (v : Visit) (p : Permit) : Prop where
  record   : t.visit slot = some { v with
    tips := if v.kind = .tip then filledWith v p.primary else v.tips
    state := .held, prior := some .exiting, reason := some .negativeNet, later := [], lane := none }
  permits  : t.permits = s.permits
  vehicles : t.vehicles = s.vehicles

/-! ### The loop's slots and frames -/

/-- R99, R147, R159, R166: the marks that the units and the decks keep of the frame in progress are cleared: with a
partial frame, and as a frame opens. -/
structure FrameMarksCleared (s t : State) : Prop where
  units : ∀ u : Fin 8, t.unit u = { s.unit u with
    alarmSeen := false
    activate := { (s.unit u).activate with seen := false }
    deactivate := { (s.unit u).deactivate with seen := false } }
  decks : ∀ n : Fin 4, t.deck n = { s.deck n with sampled := false }

/-- R140, R142, R147: the part listens in IN slot `k` of unit `u`: the slot of a lane unit is the next owned one, the
POLL of a digitizer has been sent and verified, and a PAUSING loop has not ended its slot and has not shown another
(logs 15, 16, 17, 40). -/
structure Listens (s : State) (k : Nat) (u : Fin 8) : Prop where
  up    : s.rstLow = false
  clear : s.loopClear = true
  owner : s.loop.owner k = some (u, .inward)
  turns : s.loop.state = .running ∨ s.loop.state = .pausing
  slot  : (u.val < 4 ∧ s.loop.markerOpen = false ∧ s.loop.polled = none ∧
      s.loop.nextOwned (s.loop.position.getD 0) = some k ∧
      (s.loop.state = .pausing → s.loop.slotDone = false ∧ (s.loop.pauseShown = true → s.loop.shown = k))) ∨
    (4 ≤ u.val ∧ s.loop.polled = some true ∧ s.loop.position = some k)

/-- R142, R143: the loop after the end of IN slot `k`: its status, and the message it delivers. -/
def slotEnded (s : State) (k : Nat) (st : SlotStatus) (d : Option Instr) : State :=
  { s with loop := { s.loop with
    polled := none, position := some k, slotDone := decide (s.loop.state = .pausing), begun := none
    working := s.loop.working.put k st, delivery := d.map (fun c => ⟨c, s.loop.frameNo⟩) } }

/-- R142: IN slot `k` in which these bytes were heard, and whatever after them, ends with a status and a delivery. -/
def Heeds (s : State) (k : Nat) (bs : List Byte) (st : SlotStatus) (d : Option Instr) : Prop :=
  ∀ (more : List Byte) (framed : Bool),
    exec (.inSlotEnd k (.bytes (bs ++ more) framed)) s = .next (slotEnded s k st d)

/-! ### What a frame end gives each unit (R156, R159, R161, R164 to R166) -/

/-- R165, R166: a detector judges a published frame; `reached` says that the entry it makes due waits (log 15). -/
def DetectorCounts (d e : Detector) (dwell : Nat) : Prop :=
  e.asserted = d.asserted ∧ e.seen = false ∧
  (d.asserted = true → e.run = d.run ∧ e.tolerated = d.tolerated ∧ e.reached = d.reached ∧
    e.absence = if d.seen then 0 else min 16 (d.absence + 1)) ∧
  (d.asserted = false → e.absence = d.absence ∧ (e.reached = true ↔ 1 ≤ e.run ∧ dwell ≤ e.run) ∧
    (d.run = 0 → d.seen = true → e.run = 1 ∧ e.tolerated = none) ∧
    (d.run = 0 → d.seen = false → e.run = 0 ∧ e.tolerated = d.tolerated) ∧
    (0 < d.run → d.seen = true → e.run = d.run + 1 ∧ (d.tolerated = none → e.tolerated = none) ∧
      ∀ k, d.tolerated = some k → e.tolerated = if 16 ≤ k + 1 then none else some (k + 1)) ∧
    (0 < d.run → d.seen = false → d.tolerated = none → e.run = d.run + 1 ∧ e.tolerated = some 0) ∧
    (0 < d.run → d.seen = false → d.tolerated ≠ none → e.run = 0 ∧ e.tolerated = none))

/-- R156: a published frame is good for a unit. -/
def GoodFrame (l : Loop) (u : Fin 8) (statuses : List SlotStatus) : Prop :=
  (∃ k, l.owner k = some (u, .inward) ∧ statuses.getD k .unused = .ok) ∧
  ∀ k, l.owner k = some (u, .out) → statuses.getD k .unused ≠ .txVerify

/-- R161: how many of the unit's slots in a published frame its selection counts. -/
def errorsOf (l : Loop) (u : Fin 8) (selection : CountSelection) (statuses : List SlotStatus) : Nat :=
  (l.ownedBy u).countP (fun x => match statuses.getD x.1 .unused with
    | .silent | .check | .address | .kind => decide (selection ≠ .tx)
    | .txVerify => decide (selection ≠ .rx)
    | .ok | .unused => false)

/-- R156, R159, R161, R164, R165, R166: a unit that owns a slot has judged a published frame. -/
structure UnitCounts (s t : State) (u : Fin 8) (statuses : List SlotStatus) : Prop where
  good      : GoodFrame s.loop u statuses →
    (t.unit u).goodRun = min 65535 ((s.unit u).goodRun + 1) ∧ (t.unit u).badRun = 0
  bad       : ¬ GoodFrame s.loop u statuses →
    (t.unit u).goodRun = 0 ∧ (t.unit u).badRun = min 65535 ((s.unit u).badRun + 1)
  free      : (t.unit u).alarmFree = if (s.unit u).state = .alarm
    then (if (s.unit u).alarmSeen then 0 else min 4 ((s.unit u).alarmFree + 1)) else (s.unit u).alarmFree
  counter   : (t.unit u).counter =
    min 65535 ((s.unit u).counter + errorsOf s.loop u (s.unit u).selection statuses)
  overflow  : (t.unit u).overflow = true ↔ (s.unit u).overflow = true ∨
    (1 ≤ errorsOf s.loop u (s.unit u).selection statuses ∧
      65535 ≤ (s.unit u).counter + errorsOf s.loop u (s.unit u).selection statuses)
  notice    : (t.unit u).overflow = true → (s.unit u).overflow = false →
    t.notices.isLatched .counterOverflow u.val = true
  detectors :
    DetectorCounts (s.unit u).activate (t.unit u).activate
      (framesOf (if (s.unit u).autoSwitch then 3000 else 200) s.loop.period) ∧
    DetectorCounts (s.unit u).deactivate (t.unit u).deactivate
      (framesOf (if (s.unit u).autoSwitch then 3000 else 200) s.loop.period)
  rest      : t.unit u = { s.unit u with
    goodRun := (t.unit u).goodRun, badRun := (t.unit u).badRun, alarmFree := (t.unit u).alarmFree, alarmSeen := false
    counter := (t.unit u).counter, overflow := (t.unit u).overflow
    activate := (t.unit u).activate, deactivate := (t.unit u).deactivate }

/-! ### The tag buffer (R55 to R57) -/

/-- R56: entries whose age is at or above the tag window. -/
def Stale (s : State) (entries : List TagEntry) : Prop := ∀ e ∈ entries, s.tagWindow ≤ e.age

/-- R18, R56, R57: the lane refuses the claim of a tag with a status that consumes its entry. -/
inductive RefusesTag (s : State) (n : Fin 4) (tag : Tag) : Status → Prop
  | check (st : Status) : (s.lane n).mode = .entry → FailsCheck s n tag st → RefusesTag s n tag st
  | unknown : (s.lane n).mode = .exit ∨ (s.lane n).mode = .internal → s.byTagInProgress tag = none →
      RefusesTag s n tag .notFound
  | elsewhere (slot : Nat) (v : Visit) : (s.lane n).mode = .exit ∨ (s.lane n).mode = .internal →
      s.byTagInProgress tag = some (slot, v) → v.state ≠ .inYard → v.state ≠ .void → RefusesTag s n tag .wrongState

/-- R63: a lane record as it leaves RELEASING for IDLE. -/
def idleAgain (l : Lane) : Lane :=
  { l with state := .idle, heldVisit := none, boundTag := none, recovery := none, display := ⟨.welcome, 0⟩ }

/-! ### What a command leaves -/

/-- The answer to a request, with status and data, waits in the port (R193); nothing else differs from `s`. -/
def answered (s : State) (c : Instr) (st : Status) (data : Answer) : State :=
  { s with port := { s.port with buffer := .answer (BitVec.ofNat 8 (requestCode c)) st data, handed := none } }

/-- R26: the Change List with a record on it: a record already on it keeps its place. -/
def withChange (changes : List Nat) (slot : Nat) : List Nat :=
  if slot ∈ changes then changes else changes ++ [slot]

/-- Every record but the one in a slot is as it was. -/
def OtherVisitsKept (s t : State) (slot : Nat) : Prop := ∀ k, k ≠ slot → t.visit k = s.visit k

/-- Every lane, barrier, deck and engine but those of lane `n` is as it was. -/
def OtherLanesKept (s t : State) (n : Fin 4) : Prop :=
  ∀ m : Fin 4, m ≠ n → t.lane m = s.lane m ∧ t.barrier m = s.barrier m ∧ t.deck m = s.deck m ∧ t.engine m = s.engine m

/-- The clock, the loader, the loop and the unit records are as they were. -/
def FieldKept (s t : State) : Prop :=
  t.clock = s.clock ∧ t.loader = s.loader ∧ t.loop = s.loop ∧ t.units = s.units

/-! ### How an admission and a VISIT capture end -/

/-- R7, R10, R12, R53: an admission at lane `n` has been granted to the record `v` of `slot`: a BOOKED one, or a walk-in
as it is created. -/
structure Admits (s t : State) (n : Fin 4) (slot : Nat) (v : Visit) (veh : Vehicle) : Prop where
  record : t.visit slot = some { v with
    ticket := some s.issuedTicket, state := .admitting, lane := some n, bookingDay := none
    reservation := if v.kind = .tip then veh.payload else 0, admittedAt := some s.now
    bindMark := v.weighings.length }
  others : OtherVisitsKept s t slot
  rest   : t = { s with
    vt := { s.vt with
      records := t.vt.records, changes := withChange s.vt.changes slot
      nextTicket := if s.issuedTicket < 99999999 then s.issuedTicket + 1 else 1 }
    vehicles := t.vehicles, permits := t.permits, lanes := t.lanes, engines := t.engines, notices := t.notices }
  binds  : Binds s t n s.issuedTicket v.tag false
  lanes  : OtherLanesKept s t n
  notice : t.notices.isLatched .admitted n.val = true

/-- R62, R111: the running VISIT capture `c` of lane `n` serves the record bound there, and two captures of the binding
have failed. -/
structure AtThirdFailure (s : State) (n : Fin 4) (c : Capture) (ticket slot : Nat) (v : Visit) : Prop where
  serves   : ∃ role, c.purpose = .visit ticket role
  two      : (s.engine n).failures = 2
  tables   : TablesCanonical s
  lane     : (s.lane n).state = .bound ∧ (s.lane n).bound = some ticket
  record   : s.byTicket ticket = some (slot, v) ∧ v.lane = some n ∧ v.state ≠ .held
  recovers : 0 < s.frames .recovery

/-- R62, R122, R126: the third failure of a binding holds the visit with CAPTURE_FAILED. -/
structure ThirdFails (s t : State) (n : Fin 4) (c : Capture) (ticket slot : Nat) (v : Visit) (r : FailReason) :
    Prop where
  records  : t.vt = { s.vt with
    records := s.vt.records.put slot { v with
      state := .held, prior := some v.state, reason := some .captureFailed, later := [], lane := none }
    changes := withChange s.vt.changes slot }
  releases : Releases s t n ticket
  engine   : t.engine n = ⟨none, 3, some ⟨.failed r, c.purpose, c.method, none, none⟩⟩
  notice   : t.notices.isLatched .captureDone n.val = true

/-- R19, R120, R126 to R128: an AXLE_SUM VISIT capture ends with the sum of its groups: a PARTIAL entry leaves the lane
as it is, and a COMPLETE one lets the visit pass. -/
structure VisitSums (s t : State) (n : Fin 4) (c : Capture) (ticket slot : Nat) (v : Visit) (role : Role)
    (isPart : Bool) : Prop where
  record : ∃ legal,
    let complete := { partialEntry s n c role .valid with result := .complete, legal := legal }
    let entries := if isPart then v.weighings ++ [partialEntry s n c role .valid] else withEntry v complete
    t.vt = { s.vt with
      records := s.vt.records.put slot { v with weighings := entries }, changes := withChange s.vt.changes slot } ∧
    (legal = true ↔ isPart = false ∧ (s.deck n).certified = true ∧ (∀ g ∈ c.groups, g.inRange = true) ∧
      ∃ p, (s.deck n).params = some p ∧ (p.minWeigh * p.division : Int) ≤ (c.groups.map (·.weight)).sum) ∧
    t.engine n = ⟨none, (s.engine n).failures, some
      ⟨if isPart then .part else .complete, c.purpose, .axleSum, some (c.groups.map (·.weight)).sum, some legal⟩⟩
  stays  : isPart = true → t.lane n = s.lane n ∧ t.barrier n = s.barrier n
  passes : isPart = false → LetsPass s t n ticket
  notice : t.notices.isLatched .captureDone n.val = true

end Sys2Proof.Machine
end

