-- ==== Sys2Proof/Certificates/Slice0/Obligations.lean ====
section
/-! DEFINITION. The statements for the provers, chapter by chapter. A clause that rests on a choice of the model's own
names the log entry. -/

open Sys2Proof Sys2Proof.Machine

/-! ### The step, the queue and the pin RST_N -/

/-- A step takes the command at the front of the queue. -/
def Obligations.StepTakesFrontCommand : Prop :=
  ∀ (c : Instr) (rest : List Instr) (s : State),
    step { s with pending := c :: rest } = exec c { s with pending := rest }

/-- No rule stops the part: every command, in every state, answers a next state, in which the queue stands and the
counter of free values has not fallen (that counter is the model's, log 14; a step whose condition does not hold answers
the state as it was, log 1). With RST_N low every command but HARD_RESET and RST_N_LOW leaves the state as it was: R186
says so of the requests and of what the part drives on the loop; that its own steps wait too is log 1's choice. -/
def Obligations.EveryCommandAnswersNextState : Prop :=
  (∀ (c : Instr) (s : State), ∃ t, exec c s = .next t ∧ t.pending = s.pending ∧ s.free ≤ t.free) ∧
  ∀ (c : Instr) (s : State), s.rstLow = true → c ≠ .hardReset → c ≠ .rstNLow → exec c s = .next s

/-- R186: RST_N_LOW stops the port; what else stands while RST_N is low is log 8's. R27, R48, R49, R73, R90, R110,
R133, R153, R168, R179, R199: what a hard reset leaves in every block; the sampled CAL_EN and the counter of free
values are no state of the part (logs 7, 14), and the values of State.reset that no rule gives are log 9's. R187, R178:
RESTART keeps the tables, the lists, the clock, the image and every record that is not bound, holds each bound one with
RESTART and gives each block its restart values from the active image (the opened frame is log 17's, a message
undelivered log 32's, the detectors' absence run of 0 log 21's, loop words with a slot word that names no unit log
34's, the drawn slot log 40's). RESTART_END clears the latch and starts the loop where auto-start is set, with no mark
of the frame it opens (log 32). -/
def Obligations.ResetsLeaveEachBlock : Prop :=
  (∀ s : State, exec .rstNLow s = .next { s with rstLow := true, port := { s.port with sending := none } }) ∧
  (∀ s : State, ∃ t, exec .hardReset s = .next t ∧
    t = { State.reset with pending := s.pending, calEn := s.calEn, free := s.free } ∧ t.rstLow = false ∧
    t.vt.records = [] ∧ t.vt.occupancy = 0 ∧ t.vt.changes = [] ∧ t.vt.completion = [] ∧
    t.vehicles = [] ∧ t.permits = [] ∧
    (∀ n : Fin 4, (t.lane n).state = .closed ∧ (t.lane n).buffer = [] ∧ (t.lane n).bound = none ∧
      (t.barrier n).state = .lowering ∧ (t.barrier n).order = .lower ∧ (t.barrier n).image = none ∧
      (t.deck n).state = .noData ∧ (t.deck n).params = none ∧ (t.engine n).run = none) ∧
    t.loop.state = .stopped ∧ t.loop.frameNo = 0 ∧ t.loop.published = none ∧
    (∀ u : Fin 8, (t.unit u).counter = 0 ∧ (t.unit u).report = .manual ∧ (t.unit u).selection = .both) ∧
    t.loader.status = .loading ∧ t.loader.writing = none ∧ t.loader.lastWrite = none ∧
    t.clock.isSet = false ∧ t.port.buffer = .none ∧ t.port.busy = false ∧ t.notices.attn = false) ∧
  (∀ s : State, Accepts s .restart → TablesCanonical s → ∃ t added,
    let boundAt (n : Fin 4) (slot : Nat) (v : Visit) :=
      ∃ ticket, (s.lane n).bound = some ticket ∧ s.byTicket ticket = some (slot, v)
    let held (n : Fin 4) := match (s.lane n).bound with
      | some ticket => some ticket
      | none => if (s.lane n).state = .releasing then (s.lane n).heldVisit else none
    exec .restart s = .next (answered t .restart .ok .empty) ∧
    t = { s with
      restarting := true, vt := { s.vt with records := t.vt.records, changes := s.vt.changes ++ added }
      lanes := t.lanes, barriers := t.barriers, decks := t.decks, engines := t.engines, loop := t.loop
      units := t.units, notices := t.notices } ∧
    (∀ n slot v, boundAt n slot v → v.state ≠ .held → slot ∈ t.vt.changes ∧ t.visit slot =
      some { v with state := .held, prior := some v.state, reason := some .restart, later := [], lane := none }) ∧
    (∀ slot, (∀ n v, ¬ boundAt n slot v) → t.visit slot = s.visit slot) ∧
    added.Nodup ∧ (∀ slot ∈ added, slot ∉ s.vt.changes ∧ ∃ n v, boundAt n slot v) ∧
    TakesLoopWords s.loader.status s.loader.image t.loop ∧
    t.loop = { s.loop with
      frameLength := t.loop.frameLength, slots := t.loop.slots, addresses := t.loop.addresses
      autoStart := t.loop.autoStart, period := t.loop.frameLength + 1, state := .stopped, frameNo := 0
      position := none, begun := none, shown := 0, pauseShown := false, working := [], published := none
      tableChanged := false, markerOpen := false, polled := none, slotDone := false, inject := Vector.replicate 8 false, delivery := none } ∧
    (∀ n : Fin 4,
      (let kept := { Lane.reset with
          mode := (s.lane n).mode, autoTake := (s.lane n).autoTake, walkIn := (s.lane n).walkIn
          walkTare := (s.lane n).walkTare, autoCapture := (s.lane n).autoCapture };
        t.lane n = if (s.lane n).state = .closed then kept else { kept with
          state := .releasing, heldVisit := held n, recovery := Timer.load (t.frames .recovery)
          display := match held n with
            | some ticket => ⟨.seeOffice, ticket⟩
            | none => ⟨.welcome, 0⟩ }) ∧
      t.barrier n = { Barrier.reset with tracking := if (held n).isSome then .heldVisit else .inactive } ∧
      t.deck n = { s.deck n with
        state := .noData, last := none, window := none, noData := 4, tracking := none, sampled := false } ∧
      t.engine n = Engine.reset) ∧
    (∀ u : Fin 8, t.unit u = { UnitRec.reset with
      state := if t.loop.ownsSlot u then .searching else .absent
      selection := (s.unit u).selection, report := (s.unit u).report, autoSwitch := (s.unit u).autoSwitch }) ∧
    TakesNoticeWords s.loader.image t.notices ∧ LevelsFollow t) ∧
  ∀ s : State, s.rstLow = false → s.restarting = true →
    let ended := { s with restarting := false, notices := { s.notices with latched := Vector.replicate 20 0 } }
    (s.loop.autoStart = false → exec .restartEnd s = .next ended) ∧
    (s.loop.autoStart = true → ∃ t, exec .restartEnd s = .next t ∧
      t = { ended with
        loop := startedLoop s.loop, barriers := t.barriers, units := t.units, decks := t.decks } ∧
      FrameMarksCleared s t ∧ ∀ n : Fin 4, t.barrier n = travelStarted (s.barrier n) (t.frames .travel))

/-! ### The Request Port -/

/-- R192, R193: a request that comes while the port is not free is dropped, and the busy status and code say so; but
where it is one that was taken within another step and answered, its own step only finds it taken (log 31). During
LOADING and during a restart every request but IDENTIFY is answered NOT_READY and changes nothing; the answer to
SETTING READ carries the loader's figures then too (R184, log 30). IDENTIFY is answered in every state of the loader.
-/
def Obligations.PortDropsOrAnswersRequests : Prop :=
  (∀ (c : Instr) (s : State), s.rstLow = false → requestCode c ≠ 0 → s.portTakes c = false →
    (s.port.handed ≠ some c → exec c s = .next { s with port :=
      { s.port with busy := true, busyCode := BitVec.ofNat 8 (requestCode c) } }) ∧
    (s.port.handed = some c → exec c s = .next { s with port := { s.port with handed := none } })) ∧
  (∀ (c : Instr) (s : State), s.rstLow = false → requestCode c ≠ 0 → c ≠ .identify → s.portTakes c = true →
    (s.loader.status = .loading ∨ s.restarting = true) →
    ((∀ word source, c ≠ .settingRead word source) → exec c s = .next (answered s c .notReady .empty)) ∧
    (∀ word source, c = .settingRead word source → exec c s = .next (answered s c .notReady (.settingRefused
      ⟨s.loader.status, s.loader.lockBoundary, s.loader.writing.isSome, s.loader.lastWrite⟩)))) ∧
  (∀ s : State, s.rstLow = false → s.portTakes .identify = true →
    exec .identify s = .next (answered s .identify .ok (.identity 1624 s.loader.status s.loader.writing.isSome)))

/-- R194, R195: the parameters of a well-formed request are read back as that request (the widths and orders on the
wire are log 22's; the CAL_EN level of a SETTING WRITE is sampled at the transaction, not carried, and kept in the
state: log 7). R190, R191, R192: a well-formed request frame, with any bytes after it, is taken where the port is free
or the same transaction reads the ready answer whole: the buffer is PENDING and the request is handed to its block.
Elsewhere it is dropped, and the busy fields say so. R192: any other frame on a port that is free is answered at once:
BAD_FRAME for its length byte, too few bytes or its check sum, UNKNOWN_REQUEST for a code that is not listed, then
BAD_FRAME for parameters that are those of no request of the code (a selector or presence byte that numbers nothing
among them: log 23); the answer carries byte 2, a free value where it never came (logs 10, 14). R191: the bytes of the
response frame in each condition (those of the answer data are log 22's). R190: at the end of a transaction that has
clocked out the whole answer, sending n bytes to clock n bytes (log 6), the buffer is NONE and the busy status OK; no
request is then held as taken (log 31). -/
def Obligations.FramesCarryRequestsAndAnswers : Prop :=
  (∀ (c : Instr) (calEn : Bool), c.wf = true → requestCode c ≠ 0 →
    (∀ word value level, c = .settingWrite word value level → level = calEn) →
    parseRequest (requestCode c) calEn (requestParams c) = some c ∧
    ∀ (s : State) (x : Sending) (more : List Byte), s.rstLow = false → s.port.sending = some x →
      let sent := requestFrame c ++ more
      let whole := x.wasAnswer = true ∧ x.frame.length ≤ sent.length
      let code := BitVec.ofNat 8 (requestCode c)
      (¬ whole → s.port.buffer = .none →
        exec (.transactionEnd sent calEn) s = .next { s with
          calEn := calEn
          port := { s.port with buffer := .pending code, handed := some c, sending := none } }) ∧
      (whole →
        exec (.transactionEnd sent calEn) s = .next { s with
          calEn := calEn
          port := { s.port with
            buffer := .pending code, busy := false, busyCode := 0, handed := some c, sending := none } }) ∧
      (¬ whole → s.port.buffer ≠ .none →
        exec (.transactionEnd sent calEn) s = .next { s with
          calEn := calEn, port := { s.port with busy := true, busyCode := code, sending := none } })) ∧
  (∀ (s : State) (x : Sending) (length : Byte) (rest : List Byte) (calEn : Bool), s.rstLow = false →
    s.port.sending = some x → length ≠ 0 →
    let read : Port := if x.wasAnswer = true ∧ x.frame.length ≤ rest.length + 1
      then { s.port with buffer := .none, busy := false, busyCode := 0 } else s.port
    let failed (code : Byte) (st : Status) : State := { s with
      calEn := calEn
      port := { read with buffer := .answer code st .empty, handed := none, sending := none } }
    let framed := length ≠ 1 ∧ length.toNat ≤ 64 ∧ length.toNat ≤ rest.length ∧
      length + (rest.take length.toNat).sum = 0
    let listed := [1, 2, 3, 4] ++ List.range' 10 12 ++ List.range' 24 10 ++ List.range' 36 8 ++ List.range' 46 4 ++
      List.range' 52 8 ++ List.range' 62 4 ++ List.range' 68 6
    read.buffer = .none →
    (rest = [] → ∃ code, exec (.transactionEnd [length] calEn) s =
      .next { failed code .badFrame with free := s.free + 1 }) ∧
    ∀ code params, rest = code :: params →
      (¬ framed → exec (.transactionEnd (length :: rest) calEn) s = .next (failed code .badFrame)) ∧
      (framed → code.toNat ∉ listed →
        exec (.transactionEnd (length :: rest) calEn) s = .next (failed code .unknownRequest)) ∧
      (framed → code.toNat ∈ listed →
        (∀ c, requestCode c = code.toNat → requestParams c ≠ params.take (length.toNat - 2)) →
        exec (.transactionEnd (length :: rest) calEn) s = .next (failed code .badFrame))) ∧
  (∀ p : Port,
    let sends (condition code status : Byte) (data : List Byte) := ∃ check : Byte,
      let body := condition :: code :: status :: (if p.busy then 3 else 0) :: p.busyCode :: data
      let length := body.length + 1
      let frame := BitVec.ofNat 8 length :: BitVec.ofNat 8 (length / 256) :: body ++ [check]
      p.response = frame ∧ frame.sum = 0
    (p.buffer = .none → sends 0 0 2 []) ∧ (∀ code, p.buffer = .pending code → sends 1 code 2 []) ∧
    ∀ code st data k, p.buffer = .answer code st data →
      [Status.ok, .accepted, .notReady, .portBusy, .badFrame, .unknownRequest, .badParameter, .notFound, .exists,
        .inUse, .tableFull, .wrongState, .laneBusy, .tooSoon, .clockUnset, .banned, .inYard, .noBooking,
        .permitInactive, .noBalance, .occupancyLimit, .categoryRefused, .needsReweigh, .listFull, .zeroRange,
        .certifiedLock, .storeBusy, .loopState][k]? = some st →
      sends 2 code (BitVec.ofNat 8 k) data.put) ∧
  ∀ (s : State) (code : Byte) (st : Status) (data : Answer) (n : Nat) (calEn : Bool),
    s.rstLow = false → s.port.sending = none → s.port.buffer = .answer code st data →
    s.port.response.length ≤ n →
    exec .transactionStart s = .next { s with port := { s.port with sending := some ⟨true, s.port.response⟩ } } ∧
    exec (.transactionEnd (List.replicate n 0) calEn)
      { s with port := { s.port with sending := some ⟨true, s.port.response⟩ } } =
      .next { s with
        calEn := calEn
        port := { s.port with buffer := .none, busy := false, busyCode := 0, handed := none, sending := none } }

/-- R197, R198: NOTICE MASK, NOTICE EDGE and NOTICE REPORT; the report clears the latch, so that ATTN is deasserted. -/
def Obligations.NoticeRequestsAnswer : Prop :=
  (∀ (s : State) (words : List Word), Accepts s (.noticeMask words) → words.length = 20 →
    ∃ t, exec (.noticeMask words) s = .next (answered t (.noticeMask words) .ok .empty) ∧
      t = { s with notices := { s.notices with mask := t.notices.mask } } ∧
      ∀ k : Fin 20, t.notices.mask.get k = words.getD k.val 0 &&& positionBits.get k) ∧
  (∀ (s : State) (words : List Word), Accepts s (.noticeEdge words) → words.length = 7 →
    ∃ t, exec (.noticeEdge words) s = .next (answered t (.noticeEdge words) .ok .empty) ∧
      t = { s with notices := { s.notices with edges := t.notices.edges } } ∧
      ∀ k : Fin 7, t.notices.edges.get k = words.getD k.val 0 &&& levelBits.get k) ∧
  (∀ s : State, Accepts s .noticeReport →
    ∃ t, exec .noticeReport s = .next (answered t .noticeReport .ok
        (.notices s.notices.latched s.notices.mask s.notices.levels)) ∧
      t = { s with notices := { s.notices with latched := Vector.replicate 20 0 } } ∧ t.notices.attn = false)

/-- R197: ATTN is asserted exactly while some position of a source is latched and not masked. R196: every step latches
the positions whose level it has raised, and those whose level it has let fall where the edge selection is BOTH; and no
step but NOTICE REPORT, the end of a restart and a hard reset takes a position off the latch. HARD_RESET and RESTART
latch no level change (R199), and RELOAD and LOAD_END judge theirs together (log 29; LoadsJudgeAndTakeTheImage). -/
def Obligations.NoticesFollowTheirLevels : Prop :=
  (∀ x : Notices, x.attn = true ↔ ∃ (src : Source) (bit : Nat), bit < 16 ∧ x.isLatched src bit = true ∧
    (x.mask.get src.word).getLsbD bit = false) ∧
  ∀ (c : Instr) (s t : State), exec c s = .next t →
    (c ≠ .hardReset → c ≠ .restart → c ≠ .reload → (∀ read, c ≠ .loadEnd read) → ∀ (k : Fin 7) (bit : Nat),
      let before := (s.notices.levels.get k).getLsbD bit
      let after := (t.notices.levels.get k).getLsbD bit
      (before = false ∧ after = true) ∨
        (before = true ∧ after = false ∧ (s.notices.edges.get k).getLsbD bit = true) →
      (t.notices.latched.get ⟨13 + k.val, by omega⟩).getLsbD bit = true) ∧
    (c ≠ .hardReset → c ≠ .restartEnd → c ≠ .noticeReport → ∀ (k : Fin 20) (bit : Nat),
      (s.notices.latched.get k).getLsbD bit = true → (t.notices.latched.get k).getLsbD bit = true)

/-! ### Visits: booking, naming, holding, finishing -/

/-- R14, R34: BOOK, taken: the record, the live-visit counts, the Change List and the answer; nothing else. And all its
refusals in their order, for TIP and for LOAD, each changing the port's answer alone. That a flag byte above 1 and a
kind byte above 1 are out of range is log 24's (DEDUCED). -/
def Obligations.BookCreatesBooking : Prop :=
  (∀ (s : State) (tag : Tag) (kind permit useTare day index slot : Nat) (veh : Vehicle),
    Accepts s (.book tag kind permit useTare day) → TablesCanonical s → useTare ≤ 1 → day ≤ 65535 →
    s.vehicleByTag tag = some (index, veh) → s.byTagBooked tag = none → s.vt.records.lowestFree 192 = some slot →
    (∀ p, kind = 0 → 1 ≤ permit → permit ≤ 65535 → s.permits.get permit = some p →
      exec (.book tag kind permit useTare day) s = .next (answered { s with
        vt := { s.vt with
          records := s.vt.records.put slot
            { ticket := none, kind := .tip, state := .booked, prior := none, reason := none, later := []
              tag := tag, vehicle := index, permit := some permit, reservation := 0, inYard := false
              voidMark := false, useTare := decide (useTare = 1), lane := none, bookingDay := some day
              weighings := [], tips := [], netTotal := none, legal := none, admittedAt := none
              clearedAt := none, passedAt := none, stopMark := 0, bindMark := 0 }
          changes := withChange s.vt.changes slot }
        vehicles := s.vehicles.put index { veh with live := veh.live + 1 }
        permits := s.permits.put permit { p with live := p.live + 1 } }
        (.book tag kind permit useTare day) .ok (.handle slot))) ∧
    (kind = 1 → permit = 0 →
      exec (.book tag kind permit useTare day) s = .next (answered { s with
        vt := { s.vt with
          records := s.vt.records.put slot
            { ticket := none, kind := .load, state := .booked, prior := none, reason := none, later := []
              tag := tag, vehicle := index, permit := none, reservation := 0, inYard := false
              voidMark := false, useTare := decide (useTare = 1), lane := none, bookingDay := some day
              weighings := [], tips := [], netTotal := none, legal := none, admittedAt := none
              clearedAt := none, passedAt := none, stopMark := 0, bindMark := 0 }
          changes := withChange s.vt.changes slot }
        vehicles := s.vehicles.put index { veh with live := veh.live + 1 } }
        (.book tag kind permit useTare day) .ok (.handle slot)))) ∧
  ∀ (s : State) (tag : Tag) (kind permit useTare day : Nat),
    let c := Instr.book tag kind permit useTare day
    let inRange := useTare ≤ 1 ∧ day ≤ 65535 ∧
      ((kind = 0 ∧ 1 ≤ permit ∧ permit ≤ 65535) ∨ (kind = 1 ∧ permit = 0))
    let missing := s.vehicleByTag tag = none ∨ (kind = 0 ∧ s.permits.get permit = none)
    Accepts s c →
    (¬ inRange → exec c s = .next (answered s c .badParameter .empty)) ∧
    (inRange → missing → exec c s = .next (answered s c .notFound .empty)) ∧
    (inRange → ¬ missing → (s.byTagBooked tag).isSome → exec c s = .next (answered s c .exists .empty)) ∧
    (inRange → ¬ missing → s.byTagBooked tag = none → s.vt.records.lowestFree 192 = none →
      exec c s = .next (answered s c .tableFull .empty))

/-- R16, R25, R32, R41, R72, R108, R134, R147, R152, R167, R184, R188: the requests that read answer with what stands
and change nothing: LOOKUP, NEXT DONE, VEHICLE GET, PERMIT GET, LANE STATUS, DECK STATUS (with no zero figures for a
deck that is not enabled: log 22), LOOP STATUS, UNIT STATUS, SETTING READ from ACTIVE and CLOCK READ; a name that finds
nothing is answered NOT_FOUND, and one out of its range BAD_PARAMETER, with the loader's figures in the refusal of a
SETTING READ (R184, log 30). A slot that a RESUME has begun is in progress
from then on (log 40): the marker slot is shown itself. While the slot in progress is one that no step of the loop
names, the position LOOP STATUS shows is a free value (logs 14 and 40): some slot that can be in progress, from the one
the last step left and the one shown last on; and a pause keeps the slot that was shown in it. The model's own record
of that slot (log 40) and its counter of free values (log 14) are all that LOOP STATUS moves. The bytes of an answer
are log 22's. -/
def Obligations.ReadingRequestsChangeNothing : Prop :=
  ∀ s : State,
    let between := (s.loop.state = .running ∨ s.loop.state = .pausing) ∧ s.loop.markerOpen = false ∧
      s.loop.polled = none ∧ s.loop.slotDone = false
    let from_ := max (max (s.loop.position.getD 0) (s.loop.begun.getD 0)) s.loop.shown
    let named (v : Visit) := v.state = .booked ∨ (v.state = .held ∧ v.prior = some .booked)
    (∀ c, Accepts s c → ((∃ t, c = .lookup (.ticket t) ∧ (t = 0 ∨ 99999999 < t)) ∨
        (∃ h, c = .lookup (.handle h) ∧ 192 ≤ h) ∨ (∃ i, c = .vehicleGet (.index i) ∧ 1024 ≤ i) ∨
        (∃ m, c = .permitGet (.next m) ∧ 65535 < m) ∨ (∃ k, (c = .laneStatus k ∨ c = .deckStatus k) ∧ 4 ≤ k) ∨
        ∃ k, c = .unitStatus k ∧ 8 ≤ k) →
      exec c s = .next (answered s c .badParameter .empty)) ∧
    (∀ name, let c := Instr.lookup name
      Accepts s c →
      (∀ slot v, (∃ t, name = .ticket t ∧ 1 ≤ t ∧ t ≤ 99999999 ∧ s.byTicket t = some (slot, v)) ∨
          (name = .handle slot ∧ slot < 192 ∧ s.visit slot = some v ∧ named v) ∨
          (∃ tag, name = .tag tag ∧ (s.byTagInProgress tag = some (slot, v) ∨
            (s.byTagInProgress tag = none ∧ s.byTagBooked tag = some (slot, v)))) →
        exec c s = .next (answered s c .ok (.record (some slot) v))) ∧
      ((∃ t, name = .ticket t ∧ 1 ≤ t ∧ t ≤ 99999999 ∧ s.byTicket t = none) ∨
          (∃ h, name = .handle h ∧ h < 192 ∧ ∀ v, s.visit h = some v → ¬ named v) ∨
          (∃ tag, name = .tag tag ∧ s.byTagInProgress tag = none ∧ s.byTagBooked tag = none) →
        exec c s = .next (answered s c .notFound .empty))) ∧
    (Accepts s .nextDone →
      (s.vt.completion = [] → exec .nextDone s = .next (answered s .nextDone .notFound .empty)) ∧
      ∀ slot rest v, s.vt.completion = slot :: rest → s.visit slot = some v →
        exec .nextDone s = .next (answered s .nextDone .ok (.record none v))) ∧
    (∀ name, let c := Instr.vehicleGet name
      Accepts s c →
      (∀ index v, (∃ tag, name = .tag tag ∧ s.vehicleByTag tag = some (index, v)) ∨
          (name = .index index ∧ index < 1024 ∧ s.vehicles.get index = some v) →
        exec c s = .next (answered s c .ok (.vehicle index v
          (if s.clock.isSet then v.tare.map (fun t => decide (s.clock.day ≤ t.day + t.validity)) else none)))) ∧
      ((∃ tag, name = .tag tag ∧ s.vehicleByTag tag = none) ∨
          (∃ i, name = .index i ∧ i < 1024 ∧ s.vehicles.get i = none) →
        exec c s = .next (answered s c .notFound .empty))) ∧
    (∀ name, let c := Instr.permitGet name
      Accepts s c → TablesCanonical s →
      (∀ number p, s.permits.get number = some p →
        (name = .number number ∧ 1 ≤ number ∧ number ≤ 65535) ∨
          (∃ m, name = .next m ∧ m ≤ 65535 ∧ m < number ∧ ∀ k, m < k → k < number → s.permits.get k = none) →
        exec c s = .next (answered s c .ok (.permit number p))) ∧
      ((∃ m, name = .number m ∧ 1 ≤ m ∧ m ≤ 65535 ∧ s.permits.get m = none) ∨
          (∃ m, name = .next m ∧ m ≤ 65535 ∧ ∀ k, m < k → s.permits.get k = none) →
        exec c s = .next (answered s c .notFound .empty))) ∧
    (∀ n : Fin 4, Accepts s (.laneStatus n.val) →
      exec (.laneStatus n.val) s =
        .next (answered s (.laneStatus n.val) .ok (.lane (s.lane n) (s.signal n) (s.barrier n)))) ∧
    (∀ (n : Fin 4) p, Accepts s (.deckStatus n.val) → (s.deck n).params = some p →
      exec (.deckStatus n.val) s = .next (answered s (.deckStatus n.val) .ok (.deck (s.deck n)
        (some (p.zeroOffset (s.deck n).workingZero)) (some ((p.capacity / 50 : Nat) : Int)) (s.engine n)
        (s.unit (digitizer n)).state))) ∧
    (∀ n : Fin 4, Accepts s (.deckStatus n.val) → (s.deck n).params = none →
      exec (.deckStatus n.val) s = .next (answered s (.deckStatus n.val) .ok
        (.deck (s.deck n) none none (s.engine n) (s.unit (digitizer n)).state))) ∧
    (Accepts s .loopStatus → s.loop.begun = some 0 →
      exec .loopStatus s = .next (answered s .loopStatus .ok
        (.loop { s.loop with position := some 0 } (allUnits.map s.outbound)))) ∧
    (Accepts s .loopStatus → s.loop.begun ≠ some 0 → ¬ between →
      exec .loopStatus s = .next (answered s .loopStatus .ok (.loop s.loop (allUnits.map s.outbound)))) ∧
    (Accepts s .loopStatus → s.loop.begun ≠ some 0 → between → s.loop.pauseShown = true →
      exec .loopStatus s = .next (answered s .loopStatus .ok
        (.loop { s.loop with position := some s.loop.shown } (allUnits.map s.outbound)))) ∧
    (Accepts s .loopStatus → s.loop.begun ≠ some 0 → between → s.loop.pauseShown = false →
      ∃ p, from_ ≤ p ∧ (∀ k, from_ < k → k < p → s.loop.owner k = none) ∧
      (from_ < p → p ≤ s.loop.frameLength ∧ ∀ u d, s.loop.owner p = some (u, d) →
        d = .inward ∧ ∃ n : Fin 4, u = laneUnit n) ∧
      exec .loopStatus s = .next (answered { s with
          free := s.free + 1
          loop := { s.loop with shown := p, pauseShown := decide (s.loop.state = .pausing) } } .loopStatus .ok
        (.loop { s.loop with position := some p } (allUnits.map s.outbound)))) ∧
    (∀ u : Fin 8, Accepts s (.unitStatus u.val) →
      exec (.unitStatus u.val) s = .next (answered s (.unitStatus u.val) .ok
        (.unit u (s.unit u) ((s.loop.ownedBy u).map (·.1)) (s.loop.addresses.get u)))) ∧
    (∀ word, Accepts s (.settingRead word 0) → word ≤ 255 →
      exec (.settingRead word 0) s = .next (answered s (.settingRead word 0) .ok
        (.setting (some (s.loader.image.getD word 0)) false
          ⟨s.loader.status, s.loader.lockBoundary, s.loader.writing.isSome, s.loader.lastWrite⟩))) ∧
    (∀ word, Accepts s (.settingRead word 0) → 255 < word →
      exec (.settingRead word 0) s = .next (answered s (.settingRead word 0) .badParameter (.settingRefused
        ⟨s.loader.status, s.loader.lockBoundary, s.loader.writing.isSome, s.loader.lastWrite⟩))) ∧
    (Accepts s .clockRead →
      exec .clockRead s = .next (answered s .clockRead .ok (.clock s.clock.day s.clock.minute s.clock.isSet)))

/-- R15: AMEND by ticket or handle, by the record's state. -/
def Obligations.AmendReplacesTheFieldsOfItsState : Prop :=
  ∀ (s : State) (name : RecordName) (useTare day slot : Nat) (v : Visit),
    Accepts s (.amend name useTare day) → RecordName.inRange name = true → useTare ≤ 1 → day ≤ 65535 →
    s.byName name = some (slot, v) →
    (v.state = .booked → exec (.amend name useTare day) s = .next (answered { s with vt := { s.vt with
        records := s.vt.records.put slot { v with useTare := decide (useTare = 1), bookingDay := some day }
        changes := withChange s.vt.changes slot } } (.amend name useTare day) .ok .empty)) ∧
    (v.state = .inYard → exec (.amend name useTare day) s = .next (answered { s with vt := { s.vt with
        records := s.vt.records.put slot { v with useTare := decide (useTare = 1) }
        changes := withChange s.vt.changes slot } } (.amend name useTare day) .ok .empty)) ∧
    (v.state ≠ .booked → v.state ≠ .inYard →
      exec (.amend name useTare day) s = .next (answered s (.amend name useTare day) .wrongState .empty))

/-- R169, R170, R171: HOLD holds a BOOKED record (with no other of its tag in progress) or an IN_YARD one with HOST and
latches VISIT_HELD for the yard; at a HELD record HOST joins the later reasons once, at their end (the order is log
27's); a bound or finished record is refused. The BEYOND-seen mark of a lane that stops watching stands (log 42). R174,
R176: RELEASE HOLD takes a record held from IN_YARD or BOOKED back there (a BOOKED one only while its tag has no other
booking), and one held from CLEARED whose vehicle has left to DONE or VOID; a lane that watched for it stops. R175:
another record is bound again, in its prior state, at a lane that fits and is free, and is eligible where the table
says so. -/
def Obligations.HoldsSuspendAndRelease : Prop :=
  (∀ (s : State) (name : RecordName) (slot : Nat) (v : Visit), Accepts s (.hold name) → TablesCanonical s →
    RecordName.inRange name = true → s.byName name = some (slot, v) →
    (v.state = .booked → (s.byTagInProgress v.tag).isSome →
      exec (.hold name) s = .next (answered s (.hold name) .inYard .empty)) ∧
    ((v.state = .booked ∧ s.byTagInProgress v.tag = none) ∨ v.state = .inYard → v.lane = none →
      ∃ t, exec (.hold name) s = .next (answered t (.hold name) .ok .empty) ∧
        t = { s with
          vt := { s.vt with
            records := s.vt.records.put slot { v with
              state := .held, prior := some v.state, reason := some .host, later := [] }
            changes := withChange s.vt.changes slot }
          notices := t.notices } ∧ t.notices.isLatched .visitHeld 4 = true) ∧
    (v.state = .held → v.reason ≠ some .host → .host ∉ v.later →
      exec (.hold name) s = .next (answered { s with vt := { s.vt with
        records := s.vt.records.put slot { v with later := v.later ++ [.host] }
        changes := withChange s.vt.changes slot } } (.hold name) .ok .empty)) ∧
    (v.state = .held → v.reason = some .host ∨ .host ∈ v.later →
      exec (.hold name) s = .next (answered s (.hold name) .ok .empty)) ∧
    (v.state = .admitting ∨ v.state = .reweighing ∨ v.state = .exiting ∨ v.state = .cleared ∨ v.state = .done ∨
        v.state = .void →
      exec (.hold name) s = .next (answered s (.hold name) .wrongState .empty))) ∧
  (∀ (s : State) (name : RecordName) (lane : Option Nat) (slot : Nat) (v : Visit) (next : VisitState),
    let c := Instr.releaseHold name lane
    let freed := { v with state := next, prior := none, reason := none, later := [] }
    Accepts s c → RecordName.inRange name = true → (∀ k, lane = some k → k < 4) → s.byName name = some (slot, v) →
    (v.state ≠ .held → exec c s = .next (answered s c .wrongState .empty)) ∧
    (v.state = .held → v.prior = some .booked → (s.byTagBooked v.tag).isSome →
      exec c s = .next (answered s c .exists .empty)) ∧
    (v.state = .held → (v.prior = some .inYard ∧ next = .inYard) ∨
        (v.prior = some .booked ∧ next = .booked ∧ s.byTagBooked v.tag = none) →
      ∃ t, exec c s = .next (answered t c .ok .empty) ∧
        t = { s with
          vt := { s.vt with records := s.vt.records.put slot freed, changes := withChange s.vt.changes slot }
          lanes := t.lanes, barriers := t.barriers } ∧ ∀ n : Fin 4, StopsWatching s t n v.ticket) ∧
    (v.state = .held → v.prior = some .cleared → v.inYard = false → next = (if v.voidMark then .void else .done) →
      slot ∉ s.vt.completion →
      ∃ t, exec c s = .next (answered t c .ok .empty) ∧
        t = { s with
          vt := { s.vt with
            records := s.vt.records.put slot freed, changes := withChange s.vt.changes slot
            completion := s.vt.completion ++ [slot] }
          lanes := t.lanes, barriers := t.barriers } ∧ ∀ n : Fin 4, StopsWatching s t n v.ticket)) ∧
  (∀ (s : State) (ticket slot : Nat) (lane : Option Nat) (v : Visit) (prior : VisitState),
    let c := Instr.releaseHold (.ticket ticket) lane
    Accepts s c → 1 ≤ ticket → ticket ≤ 99999999 → s.byTicket ticket = some (slot, v) → v.state = .held →
    v.prior = some prior →
    prior = .admitting ∨ prior = .reweighing ∨ prior = .exiting ∨ (prior = .cleared ∧ v.inYard = true) →
    (lane = none → exec c s = .next (answered s c .badParameter .empty)) ∧
    ∀ n : Fin 4, lane = some n.val →
      let fits := (prior = .admitting ∧ (s.lane n).mode = .entry) ∨
        (prior = .reweighing ∧ (s.lane n).mode = .internal) ∨
        ((prior = .exiting ∨ prior = .cleared) ∧ (s.lane n).mode = .exit)
      (¬ fits → exec c s = .next (answered s c .badParameter .empty)) ∧
      (fits → prior = .exiting → v.inYard = false → exec c s = .next (answered s c .wrongState .empty)) ∧
      (fits → (prior = .exiting → v.inYard = true) →
        ((s.lane n).state ≠ .idle → exec c s = .next (answered s c .laneBusy .empty)) ∧
        (∀ k, (s.lane n).state = .idle → (s.lane n).cycle = some (k + 1) →
          exec c s = .next (answered s c .tooSoon .empty)) ∧
        ((s.lane n).state = .idle → (s.lane n).cycle = none → ∃ t eligible,
          exec c s = .next (answered t c .ok .empty) ∧
          t = { s with
            vt := { s.vt with
              records := s.vt.records.put slot { v with
                state := prior, prior := none, reason := none, later := [], lane := some n
                bindMark := v.weighings.length }
              changes := withChange s.vt.changes slot }
            lanes := t.lanes, barriers := t.barriers, engines := t.engines, notices := t.notices } ∧
          Binds s t n ticket v.tag eligible ∧
          (eligible = true ↔ prior = .cleared ∨
            (prior = .admitting ∧ ∃ w ∈ v.weighings, w.role = .entry ∧ w.standing = .valid ∧ w.result = .complete) ∨
            (prior = .reweighing ∧ ∃ w ∈ v.weighings.drop v.stopMark,
              w.role = .reweigh ∧ w.standing = .valid ∧ w.result = .complete)) ∧
          t.barrier n = s.barrier n ∧
          ∀ m : Fin 4, m ≠ n → StopsWatching s t m (some ticket) ∧ t.engine m = s.engine m)))

/-- R24, R177: VOID of an IN_YARD record, or of one held from a state other than BOOKED: the void mark, the reservation
and (R12) the permit's reserved amount; the record joins the Completion List unless its vehicle is still inside; a lane
that watched for it stops (R176), its BEYOND-seen mark standing (log 42). A BOOKED record, and one held from BOOKED,
leaves the table, with its counts (R34). A bound or finished record is refused. -/
def Obligations.VoidCancelsTheVisit : Prop :=
  ∀ (s : State) (name : RecordName) (slot : Nat) (v : Visit), Accepts s (.voidVisit name) →
    RecordName.inRange name = true → s.byName name = some (slot, v) →
    (v.state = .inYard ∨ (v.state = .held ∧ v.prior ≠ some .booked) → slot ∉ s.vt.completion →
      ∃ t, exec (.voidVisit name) s = .next (answered t (.voidVisit name) .ok .empty) ∧
        t = { s with
          vt := { s.vt with
            records := s.vt.records.put slot { v with
              state := .void, voidMark := true, reservation := 0, prior := none, reason := none, later := [] }
            changes := withChange s.vt.changes slot
            completion := if v.inYard then s.vt.completion else s.vt.completion ++ [slot] }
          permits := t.permits, lanes := t.lanes, barriers := t.barriers } ∧
        (v.permit = none → t.permits = s.permits) ∧
        (∀ number p, v.permit = some number → s.permits.get number = some p →
          t.permits = s.permits.put number { p with reserved := p.reserved - v.reservation }) ∧
        ∀ n : Fin 4, StopsWatching s t n v.ticket) ∧
    (v.state = .booked ∨ (v.state = .held ∧ v.prior = some .booked) → ∀ veh, s.vehicles.get v.vehicle = some veh →
      ∃ t, exec (.voidVisit name) s = .next (answered t (.voidVisit name) .ok .empty) ∧
        t = { s with
          vt := { s.vt with
            records := s.vt.records.drop slot
            changes := s.vt.changes.filter (· ≠ slot)
            completion := s.vt.completion.filter (· ≠ slot) }
          vehicles := s.vehicles.put v.vehicle { veh with live := veh.live - 1 }
          permits := t.permits } ∧
        (v.permit = none → t.permits = s.permits) ∧
        ∀ number p, v.permit = some number → s.permits.get number = some p →
          t.permits = s.permits.put number { p with live := p.live - 1 }) ∧
    (v.state = .admitting ∨ v.state = .reweighing ∨ v.state = .exiting ∨ v.state = .cleared ∨ v.state = .done ∨
        v.state = .void →
      exec (.voidVisit name) s = .next (answered s (.voidVisit name) .wrongState .empty))

/-- R25, R34: RETIRE of a finished record frees its slot, takes it off both lists and lowers the live-visit counts, that
of its vehicle alone where it is a LOAD record, which names no permit; and its refusals. R26:
TAKE CHANGES takes up to 8 entries off the front, in order, each named by its record's ticket, or by its handle while it
has none. -/
def Obligations.RetireFreesTheSlot : Prop :=
  (∀ (s : State) (ticket slot : Nat) (v : Visit), Accepts s (.retire ticket) → 1 ≤ ticket → ticket ≤ 99999999 →
    s.byTicket ticket = some (slot, v) →
    (∀ veh number p, (v.state = .done ∨ (v.state = .void ∧ v.inYard = false)) →
      s.vehicles.get v.vehicle = some veh → v.permit = some number → s.permits.get number = some p →
      exec (.retire ticket) s = .next (answered { s with
        vt := { s.vt with
          records := s.vt.records.drop slot
          changes := s.vt.changes.filter (· ≠ slot)
          completion := s.vt.completion.filter (· ≠ slot) }
        vehicles := s.vehicles.put v.vehicle { veh with live := veh.live - 1 }
        permits := s.permits.put number { p with live := p.live - 1 } } (.retire ticket) .ok .empty)) ∧
    (∀ veh, (v.state = .done ∨ (v.state = .void ∧ v.inYard = false)) →
      s.vehicles.get v.vehicle = some veh → v.permit = none →
      exec (.retire ticket) s = .next (answered { s with
        vt := { s.vt with
          records := s.vt.records.drop slot
          changes := s.vt.changes.filter (· ≠ slot)
          completion := s.vt.completion.filter (· ≠ slot) }
        vehicles := s.vehicles.put v.vehicle { veh with live := veh.live - 1 } } (.retire ticket) .ok .empty)) ∧
    (v.state ≠ .done → (v.state ≠ .void ∨ v.inYard = true) →
      exec (.retire ticket) s = .next (answered s (.retire ticket) .wrongState .empty))) ∧
  (∀ (s : State) (ticket : Nat), Accepts s (.retire ticket) →
    (ticket = 0 ∨ 99999999 < ticket →
      exec (.retire ticket) s = .next (answered s (.retire ticket) .badParameter .empty)) ∧
    (1 ≤ ticket → ticket ≤ 99999999 → s.byTicket ticket = none →
      exec (.retire ticket) s = .next (answered s (.retire ticket) .notFound .empty))) ∧
  ∀ s : State, Accepts s .takeChanges → exec .takeChanges s =
    .next (answered { s with vt := { s.vt with changes := s.vt.changes.drop 8 } } .takeChanges .ok
      (.changes ((s.vt.changes.take 8).map (fun slot => match (s.visit slot).bind (·.ticket) with
        | some t => ChangeName.ticket t
        | none => ChangeName.handle slot))))

/-- R1, R20: TIP DECLARE for an IN_YARD TIP record holding k counted weighings, 1 to 5: an entry for interval k joins
the tip list in interval order. All its refusals in the rule's order; a LOAD record, which names no permit, among them.
-/
def Obligations.TipDeclarePlacesATip : Prop :=
  ∀ (s : State) (ticket category : Nat),
    let c := Instr.tipDeclare ticket category
    let inRange := 1 ≤ ticket ∧ ticket ≤ 99999999 ∧ category ≤ 31
    Accepts s c →
    (¬ inRange → exec c s = .next (answered s c .badParameter .empty)) ∧
    (inRange → s.byTicket ticket = none → exec c s = .next (answered s c .notFound .empty)) ∧
    (∀ slot v, inRange → s.byTicket ticket = some (slot, v) → v.kind = .load ∨ v.state ≠ .inYard →
      exec c s = .next (answered s c .wrongState .empty)) ∧
    (∀ slot v number p, inRange → s.byTicket ticket = some (slot, v) → v.kind = .tip → v.state = .inYard →
      v.permit = some number → s.permits.get number = some p →
      let k := (v.weighings.filter (fun w => decide (w.standing = .valid) && decide (w.result = .complete))).length
      (p.allowed.getLsbD category = false → exec c s = .next (answered s c .categoryRefused .empty)) ∧
      (p.allowed.getLsbD category = true →
        (k = 0 → exec c s = .next (answered s c .wrongState .empty)) ∧
        (k = 6 → exec c s = .next (answered s c .listFull .empty)) ∧
        (k ≠ 0 → k ≠ 6 → (∃ t ∈ v.tips, t.interval = k) → exec c s = .next (answered s c .needsReweigh .empty)) ∧
        (∀ before after, k ≠ 0 → k ≠ 6 → v.tips = before ++ after → (∀ t ∈ before, t.interval < k) →
            (∀ t ∈ after, k < t.interval) →
          exec c s = .next (answered { s with vt := { s.vt with
            records := s.vt.records.put slot { v with tips := before ++ ⟨k, category, .declared, none⟩ :: after }
            changes := withChange s.vt.changes slot } } c .ok .empty))))

/-- R7, R8, R10, R12, R53: an admission that passes every check of R9, asked for by an ADMIT with the tag or the handle
of its BOOKED record, or by a TAG_READ taken at an IDLE lane with an empty buffer (R56): of a BOOKED TIP or LOAD
record, and of a walk-in, whose record is created and counted. The ticket, the reservation on record and permit, the
admitted time, the binding on record and lane, the notice and the answer. R7: the ticket issued is the first number
from the next-ticket counter on, 1 after 99,999,999, that no live record holds, while fewer than 192 records hold one.
-/
def Obligations.AdmitGrantsABooking : Prop :=
  (∀ (s : State) (n : Fin 4) (tag : Tag) (index : Nat) (veh : Vehicle),
    let asked (t : State) :=
      (∀ name, Accepts s (.admitVisit n.val name) →
        name = .tag tag ∨ (∃ h v, name = .handle h ∧ h < 192 ∧ s.visit h = some v ∧ v.state = .booked ∧ v.tag = tag) →
        exec (.admitVisit n.val name) s =
          .next (answered t (.admitVisit n.val name) .ok (.ticket s.issuedTicket))) ∧
      (∀ frame, s.rstLow = false → s.loop.delivery = some ⟨.tagRead n tag, frame⟩ → (s.lane n).autoTake = true →
        (s.lane n).boundTag ≠ some tag → (s.lane n).buffer = [] → 0 < s.tagWindow →
        exec (.tagRead n tag) s = .next { t with loop := { t.loop with delivery := none } })
    TablesCanonical s → (s.lane n).mode = .entry → (s.lane n).state = .idle → (s.lane n).cycle = none →
    MayEnter s tag index veh → s.vt.occupancy + s.numAdmitting < occupancyLimit s.loader.image →
    (∀ slot v, s.byTagBooked tag = some (slot, v) →
      (∀ number p, v.kind = .tip → v.permit = some number → s.permits.get number = some p → p.state = .active →
        veh.payload ≤ p.balance - p.reserved →
        ∃ t, asked t ∧ Admits s t n slot v veh ∧ t.vehicles = s.vehicles ∧
          t.permits = s.permits.put number { p with reserved := p.reserved + veh.payload }) ∧
      (v.kind = .load → ∃ t, asked t ∧ Admits s t n slot v veh ∧ t.vehicles = s.vehicles ∧
        t.permits = s.permits)) ∧
    (∀ slot number p, s.byTagBooked tag = none → (s.lane n).walkIn = true → s.vt.records.lowestFree 192 = some slot →
      veh.defaultPermit = some number → s.permits.get number = some p → p.state = .active →
      veh.payload ≤ p.balance - p.reserved →
      let walkIn : Visit :=
        { ticket := none, kind := .tip, state := .booked, prior := none, reason := none, later := [], tag := tag
          vehicle := index, permit := some number, reservation := 0, inYard := false, voidMark := false
          useTare := (s.lane n).walkTare, lane := none, bookingDay := none, weighings := [], tips := []
          netTotal := none, legal := none, admittedAt := none, clearedAt := none, passedAt := none, stopMark := 0
          bindMark := 0 }
      ∃ t, asked t ∧ Admits s t n slot walkIn veh ∧
        t.vehicles = s.vehicles.put index { veh with live := veh.live + 1 } ∧
        t.permits = s.permits.put number { p with live := p.live + 1, reserved := p.reserved + veh.payload })) ∧
  ∀ s : State, 1 ≤ s.vt.nextTicket → s.vt.nextTicket ≤ 99999999 →
    (s.vt.records.filter (fun e => e.2.ticket.isSome)).length < 192 →
    let following (k : Nat) := (s.vt.nextTicket - 1 + k) % 99999999 + 1
    (∀ e ∈ s.vt.records, e.2.ticket ≠ some s.issuedTicket) ∧ ∃ k, s.issuedTicket = following k ∧
      ∀ j, j < k → ∃ e ∈ s.vt.records, e.2.ticket = some (following j)

/-- R9, R11, R54: ADMIT by tag, or by the handle of a BOOKED record (R8): BAD_PARAMETER at a lane of another mode and
for a handle out of range; then the first of the nine checks that fails gives the refusal. LANE_BUSY and TOO_SOON
change nothing; each later refusal sets the lane's display to SEE_OFFICE, writes its last refusal and latches
ADMIT_REFUSED. A handle that names no BOOKED record is refused at the latest at check 3, and the tag of that refusal is
a free value (logs 11, 14). R13: an admission granted finds the occupancy and the records in ADMITTING together below
the limit. -/
def Obligations.AdmitRefusesInOrder : Prop :=
  ∀ (s : State) (n : Fin 4) (name : AdmitName),
    let c := Instr.admitVisit n.val name
    let inRange := (s.lane n).mode = .entry ∧ ∀ h, name = .handle h → h < 192
    let refusedAt (tag : Tag) (st : Status) :=
      (s.setLane n { s.lane n with lastRefusal := some (st, tag), display := ⟨.seeOffice, 0⟩ }).latch
        .admitRefused n.val
    Accepts s c →
    (¬ inRange → exec c s = .next (answered s c .badParameter .empty)) ∧
    (inRange → (s.lane n).state ≠ .idle → exec c s = .next (answered s c .laneBusy .empty)) ∧
    (∀ k, inRange → (s.lane n).state = .idle → (s.lane n).cycle = some (k + 1) →
      exec c s = .next (answered s c .tooSoon .empty)) ∧
    (∀ tag st, inRange → (s.lane n).state = .idle → (s.lane n).cycle = none →
      name = .tag tag ∨ (∃ h v, name = .handle h ∧ s.visit h = some v ∧ v.state = .booked ∧ v.tag = tag) →
      FailsCheck s n tag st → exec c s = .next (answered (refusedAt tag st) c st .empty)) ∧
    (∀ h, inRange → (s.lane n).state = .idle → (s.lane n).cycle = none → name = .handle h →
      (∀ v, s.visit h = some v → v.state ≠ .booked) →
      let st : Status := if s.clock.isSet then .notFound else .clockUnset
      ∃ tag, exec c s = .next (answered { refusedAt tag st with free := s.free + 1 } c st .empty)) ∧
    (∀ t ticket, exec c s = .next t → t.port.buffer = .answer (BitVec.ofNat 8 10) .ok (.ticket ticket) →
      s.vt.occupancy + s.numAdmitting < occupancyLimit s.loader.image)

/-- R18, R53, R54: CALL of an IN_YARD record at an IDLE INTERNAL lane binds it in REWEIGHING, and at an EXIT lane in
EXITING where no stored tare is used; of a VOID record still in the yard at an EXIT lane, in CLEARED and eligible
(R24). With a stored tare to use and a full list the record is held with LIST_FULL at once. A TAG_READ taken at an IDLE
INTERNAL lane binds the IN_YARD record of its tag in the same way (R56). All the refusals of CALL in their order, each
changing the port's answer alone: BAD_PARAMETER for the ticket and for a lane of another mode, the lane's own two
checks, NOT_FOUND, and WRONG_STATE for a record in any state that the lane's mode does not bind. -/
def Obligations.CallBindsTheRecord : Prop :=
  (∀ (s : State) (n : Fin 4) (ticket slot : Nat) (v : Visit), Accepts s (.call n.val ticket) → TablesCanonical s →
    1 ≤ ticket → ticket ≤ 99999999 → (s.lane n).state = .idle → (s.lane n).cycle = none →
    s.byTicket ticket = some (slot, v) →
    let tareUsed := v.kind = .tip ∧ v.useTare = true ∧ ∃ veh x, s.vehicles.get v.vehicle = some veh ∧
      veh.tare = some x ∧ s.clock.day ≤ x.day + x.validity
    (∀ next, ((s.lane n).mode = .internal ∧ v.state = .inYard ∧ next = .reweighing) ∨
        ((s.lane n).mode = .exit ∧ v.state = .inYard ∧ next = .exiting ∧ ¬ tareUsed) ∨
        ((s.lane n).mode = .exit ∧ v.state = .void ∧ v.inYard = true ∧ next = .cleared) →
      ∃ t, exec (.call n.val ticket) s = .next (answered t (.call n.val ticket) .ok .empty) ∧
        t = { s with
          vt := { s.vt with
            records := s.vt.records.put slot { v with
              state := next, lane := some n, bindMark := v.weighings.length }
            changes := withChange s.vt.changes slot }
          lanes := t.lanes, engines := t.engines, notices := t.notices } ∧
        Binds s t n ticket v.tag (decide (next = .cleared)) ∧ OtherLanesKept s t n) ∧
    ((s.lane n).mode = .exit → v.state = .inYard → tareUsed → 6 ≤ v.weighings.length → 0 < s.frames .recovery →
      ∃ t, exec (.call n.val ticket) s = .next (answered t (.call n.val ticket) .ok .empty) ∧
        t = { s with
          vt := { s.vt with
            records := s.vt.records.put slot { v with
              state := .held, prior := some .exiting, reason := some .listFull, later := []
              bindMark := v.weighings.length, lane := none }
            changes := withChange s.vt.changes slot }
          lanes := t.lanes, barriers := t.barriers, engines := t.engines, notices := t.notices } ∧
        Releases { s with lanes := s.lanes.set n { s.lane n with
          boundTag := some v.tag, cycle := Timer.load (s.frames .cycle) } } t n ticket ∧
        t.engine n = { s.engine n with failures := 0 } ∧ OtherLanesKept s t n)) ∧
  (∀ (s : State) (lane ticket : Nat),
    let c := Instr.call lane ticket
    Accepts s c →
    (4 ≤ lane → exec c s = .next (answered s c .badParameter .empty)) ∧
    ∀ n : Fin 4, lane = n.val →
      let inRange := 1 ≤ ticket ∧ ticket ≤ 99999999 ∧ ((s.lane n).mode = .exit ∨ (s.lane n).mode = .internal)
      let free := (s.lane n).state = .idle ∧ (s.lane n).cycle = none
      (¬ inRange → exec c s = .next (answered s c .badParameter .empty)) ∧
      (inRange → (s.lane n).state ≠ .idle → exec c s = .next (answered s c .laneBusy .empty)) ∧
      (∀ k, inRange → (s.lane n).state = .idle → (s.lane n).cycle = some (k + 1) →
        exec c s = .next (answered s c .tooSoon .empty)) ∧
      (inRange → free → s.byTicket ticket = none → exec c s = .next (answered s c .notFound .empty)) ∧
      (∀ slot v, inRange → free → s.byTicket ticket = some (slot, v) → v.state ≠ .inYard →
        ¬ ((s.lane n).mode = .exit ∧ v.state = .void ∧ v.inYard = true) →
        exec c s = .next (answered s c .wrongState .empty))) ∧
  (∀ (s : State) (n : Fin 4) (tag : Tag) (frame ticket slot : Nat) (v : Visit), s.rstLow = false →
    s.loop.delivery = some ⟨.tagRead n tag, frame⟩ → (s.lane n).mode = .internal → (s.lane n).state = .idle →
    (s.lane n).autoTake = true → (s.lane n).boundTag ≠ some tag → (s.lane n).buffer = [] → (s.lane n).cycle = none →
    0 < s.tagWindow → s.byTagInProgress tag = some (slot, v) → v.state = .inYard → v.ticket = some ticket →
    ∃ t, exec (.tagRead n tag) s = .next t ∧
      t = { s with
        loop := { s.loop with delivery := none }
        vt := { s.vt with
          records := s.vt.records.put slot { v with
            state := .reweighing, lane := some n, bindMark := v.weighings.length }
          changes := withChange s.vt.changes slot }
        lanes := t.lanes, engines := t.engines, notices := t.notices } ∧
      Binds s t n ticket tag false ∧ OtherLanesKept s t n)

/-! ### Vehicles and permits -/

/-- R29, R30: VEHICLE PUT creates the tag's entry in the lowest free position, or replaces the entry and keeps its
position and live visits, with the stored tare as each form of its parameter gives it. All its refusals in their order;
that a refresh or banned byte above 1 is out of range is log 24's (DEDUCED). The mark of the answer is set for created
and clear for replaced (log 22). -/
def Obligations.VehiclePutWritesTheEntry : Prop :=
  ∀ (s : State) (tag : Tag) (permit groups refresh banned : Nat) (payload : Int) (x : TareParam),
    let c := Instr.vehiclePut tag permit payload groups refresh banned x
    let inRange := permit ≤ 65535 ∧ 1 ≤ payload ∧ payload ≤ 200000 ∧ groups ≤ 8 ∧ refresh ≤ 1 ∧ banned ≤ 1 ∧
      ∀ kg day validity, x = .weight kg day validity → 0 ≤ kg ∧ kg ≤ 200000 ∧ day ≤ 65535 ∧ validity ≤ 3650
    let tare (before : Option Tare) : Option Tare := match x with
      | .none => none
      | .weight kg day validity => some ⟨kg, day, validity⟩
      | .keep => before
    let entry (before : Option Tare) (live : Nat) : Vehicle :=
      { tag := tag, defaultPermit := if permit = 0 then none else some permit, payload := payload
        axleGroups := groups, tare := tare before, refresh := decide (refresh = 1), banned := decide (banned = 1)
        live := live }
    Accepts s c →
    (¬ inRange → exec c s = .next (answered s c .badParameter .empty)) ∧
    (∀ index old, inRange → s.vehicleByTag tag = some (index, old) →
      (refresh = 1 → tare old.tare = none → exec c s = .next (answered s c .badParameter .empty)) ∧
      (refresh = 0 ∨ tare old.tare ≠ none → exec c s = .next (answered
        { s with vehicles := s.vehicles.put index (entry old.tare old.live) } c .ok (.vehiclePut index false)))) ∧
    (inRange → s.vehicleByTag tag = none →
      (refresh = 1 → tare none = none → exec c s = .next (answered s c .badParameter .empty)) ∧
      (refresh = 0 ∨ tare none ≠ none →
        (s.vehicles.lowestFree 1024 = none → exec c s = .next (answered s c .tableFull .empty)) ∧
        ∀ index, s.vehicles.lowestFree 1024 = some index → exec c s = .next (answered
          { s with vehicles := s.vehicles.put index (entry none 0) } c .ok (.vehiclePut index true))))

/-- R37: TARE STORE: its refusals in their order, and the three fields it writes. -/
def Obligations.TareStoreWritesALegalWeighing : Prop :=
  ∀ (s : State) (ticket index validity : Nat), Accepts s (.tareStore ticket index validity) →
    let inRange := 1 ≤ ticket ∧ ticket ≤ 99999999 ∧ 1 ≤ index ∧ index ≤ 6 ∧ validity ≤ 3650
    (¬ inRange → exec (.tareStore ticket index validity) s =
      .next (answered s (.tareStore ticket index validity) .badParameter .empty)) ∧
    (inRange → s.byTicket ticket = none → exec (.tareStore ticket index validity) s =
      .next (answered s (.tareStore ticket index validity) .notFound .empty)) ∧
    (∀ slot v, inRange → s.byTicket ticket = some (slot, v) →
      (v.weighings.length < index → exec (.tareStore ticket index validity) s =
        .next (answered s (.tareStore ticket index validity) .notFound .empty)) ∧
      (∀ w, v.weighings[index - 1]? = some w →
        (w.standing ≠ .valid ∨ w.result ≠ .complete ∨ w.legal = false ∨ w.role = .storedTare) →
        exec (.tareStore ticket index validity) s =
          .next (answered s (.tareStore ticket index validity) .wrongState .empty)) ∧
      (∀ w veh, v.weighings[index - 1]? = some w → w.standing = .valid → w.result = .complete → w.legal = true →
        w.role ≠ .storedTare → s.vehicles.get v.vehicle = some veh →
        exec (.tareStore ticket index validity) s = .next (answered
          { s with vehicles := (s.vehicles.put v.vehicle
            { veh with tare := some ⟨w.weight, w.time.day, validity⟩ }) }
          (.tareStore ticket index validity) .ok .empty)))

/-- R39, R40: PERMIT PUT with its parameters in range creates a permit with balance 0, or replaces the allowed set, the
primary category and the expiry day and sets the state by R40's table. The mark of the answer is set for created and
clear for replaced (log 22). -/
def Obligations.PermitPutCreatesOrReplaces : Prop :=
  ∀ (s : State) (number primary expiry : Nat) (allowed : BitVec 32),
    Accepts s (.permitPut number allowed primary expiry) → 1 ≤ number → number ≤ 65535 → primary ≤ 31 →
    allowed.getLsbD primary = true → expiry ≤ 65535 →
    let past := s.clock.isSet = true ∧ expiry < s.clock.day
    (s.permits.get number = none → s.permits.length < 128 →
      exec (.permitPut number allowed primary expiry) s = .next (answered
        { s with permits := (s.permits.put number
          { state := if past then .expired else .active, balance := 0, reserved := 0, allowed := allowed
            primary := primary, expiry := expiry, live := 0 }) }
        (.permitPut number allowed primary expiry) .ok (.permitPut true))) ∧
    (s.permits.get number = none → 128 ≤ s.permits.length →
      exec (.permitPut number allowed primary expiry) s =
        .next (answered s (.permitPut number allowed primary expiry) .tableFull .empty)) ∧
    (∀ p, s.permits.get number = some p →
      exec (.permitPut number allowed primary expiry) s = .next (answered
        { s with permits := s.permits.put number { p with
          allowed := allowed, primary := primary, expiry := expiry
          state := if past then .expired else if p.state = .suspended then .suspended else .active } }
        (.permitPut number allowed primary expiry) .ok (.permitPut false)))

/-- R42: PERMIT ADJUST adds the amount to the balance within the balance's range; in any state of the permit. R43:
PERMIT SUSPEND and PERMIT RESUME, by the permit's state. R33, R34, R45: VEHICLE DROP and PERMIT DROP, by the live-visit
count of the entry or permit. A permit number out of its range, 0 among them, is answered BAD_PARAMETER (log 24). -/
def Obligations.PermitAdjustAddsToTheBalance : Prop :=
  (∀ (s : State) (number : Nat) (c : Instr),
    c ∈ [.permitGet (.number number), .permitAdjust number 0, .permitSuspend number, .permitResume number,
      .permitDrop number] → Accepts s c → number = 0 ∨ 65535 < number →
    exec c s = .next (answered s c .badParameter .empty)) ∧
  (∀ (s : State) (number : Nat) (amount : Int), Accepts s (.permitAdjust number amount) →
    1 ≤ number → number ≤ 65535 →
    ((amount < -2000000000 ∨ 2000000000 < amount) → exec (.permitAdjust number amount) s =
      .next (answered s (.permitAdjust number amount) .badParameter .empty)) ∧
    (-2000000000 ≤ amount → amount ≤ 2000000000 → s.permits.get number = none →
      exec (.permitAdjust number amount) s =
        .next (answered s (.permitAdjust number amount) .notFound .empty)) ∧
    (∀ p, -2000000000 ≤ amount → amount ≤ 2000000000 → s.permits.get number = some p →
      (-2000000000 ≤ p.balance + amount → p.balance + amount ≤ 2000000000 →
        exec (.permitAdjust number amount) s = .next (answered
          { s with permits := s.permits.put number { p with balance := p.balance + amount } }
          (.permitAdjust number amount) .ok (.balance (p.balance + amount)))) ∧
      ((p.balance + amount < -2000000000 ∨ 2000000000 < p.balance + amount) →
        exec (.permitAdjust number amount) s =
          .next (answered s (.permitAdjust number amount) .badParameter .empty)))) ∧
  (∀ (s : State) (number : Nat), 1 ≤ number → number ≤ 65535 →
    (Accepts s (.permitSuspend number) →
      (s.permits.get number = none → exec (.permitSuspend number) s =
        .next (answered s (.permitSuspend number) .notFound .empty)) ∧
      (∀ p, s.permits.get number = some p →
        (p.state = .expired → exec (.permitSuspend number) s =
          .next (answered s (.permitSuspend number) .wrongState .empty)) ∧
        (p.state ≠ .expired → exec (.permitSuspend number) s = .next (answered
          { s with permits := s.permits.put number { p with state := .suspended } }
          (.permitSuspend number) .ok .empty)))) ∧
    (Accepts s (.permitResume number) →
      (s.permits.get number = none → exec (.permitResume number) s =
        .next (answered s (.permitResume number) .notFound .empty)) ∧
      (∀ p, s.permits.get number = some p →
        (p.state = .expired → exec (.permitResume number) s =
          .next (answered s (.permitResume number) .wrongState .empty)) ∧
        (p.state ≠ .expired → exec (.permitResume number) s = .next (answered
          { s with permits := s.permits.put number { p with state := .active } }
          (.permitResume number) .ok .empty))))) ∧
  (∀ (s : State) (tag : Tag), Accepts s (.vehicleDrop tag) →
    (s.vehicleByTag tag = none →
      exec (.vehicleDrop tag) s = .next (answered s (.vehicleDrop tag) .notFound .empty)) ∧
    (∀ index veh, s.vehicleByTag tag = some (index, veh) → 0 < veh.live →
      exec (.vehicleDrop tag) s = .next (answered s (.vehicleDrop tag) .inUse .empty)) ∧
    (∀ index veh, s.vehicleByTag tag = some (index, veh) → veh.live = 0 →
      exec (.vehicleDrop tag) s =
        .next (answered { s with vehicles := s.vehicles.drop index } (.vehicleDrop tag) .ok .empty))) ∧
  (∀ (s : State) (number : Nat), Accepts s (.permitDrop number) → 1 ≤ number → number ≤ 65535 →
    (s.permits.get number = none →
      exec (.permitDrop number) s = .next (answered s (.permitDrop number) .notFound .empty)) ∧
    (∀ p, s.permits.get number = some p → 0 < p.live →
      exec (.permitDrop number) s = .next (answered s (.permitDrop number) .inUse .empty)) ∧
    (∀ p, s.permits.get number = some p → p.live = 0 →
      exec (.permitDrop number) s = .next (answered { s with permits := s.permits.drop number }
        (.permitDrop number) .ok (.balance p.balance))))

/-! ### What every step keeps -/

/-- R1, R28, R38: each table holds one entry a slot, position or number, in order, after every step. -/
def Obligations.TablesStayCanonical : Prop :=
  ∀ s t : State, TablesCanonical s → step s = .next t → TablesCanonical t

/-- R13, R66, R107, R160, R166, R196: after every step the live levels of the Notice Unit are those that its blocks
drive: units in LOST and in ALARM, asserted detectors, lanes in FAULT, decks in OVERLOAD, and the occupancy. -/
def Obligations.LevelsStayTrue : Prop :=
  ∀ s t : State, InGoodOrder s → step s = .next t → InGoodOrder t

/-- R26: after every step the Change List names each record once at most, and only records in the table. -/
def Obligations.ChangeListNamesLiveRecords : Prop :=
  ∀ s t : State, TablesCanonical s → ChangesLawful s → step s = .next t → ChangesLawful t

/-- R196, R197: after every step no bit that names no position is latched, masked or selected. -/
def Obligations.NoticesStayLegal : Prop :=
  ∀ s t : State, NoticesLegal s → step s = .next t → NoticesLegal t

/-- R1, R7, R13, R25, and R2, R3, R5, R12, R34, R127, R172 of each record: where the laws hold, every step keeps those
of the Visit Table: no two records share a ticket, no tag has two bookings or two visits in progress, the Completion
List names the finished records, and the occupancy counts the records with the in-yard mark. -/
def Obligations.VisitTableStaysLawful : Prop :=
  ∀ s t : State, Lawful s → step s = .next t → VisitsLawful t ∧ OccupancyLawful t

/-- R5, R60, R73, R77, R85, R88: where the laws hold, every step keeps the binding law and the agreement of each barrier
with its lane. An order RAISE is new at a lane that enters PASSING, or by a BARRIER RAISE in MAINTENANCE; and a barrier
turns to RAISING under an order RAISE alone, but for obstruction reversal. -/
def Obligations.BindingsStayLawful : Prop :=
  ∀ s t : State, Lawful s → step s = .next t → BindingsLawful t ∧ BarriersLawful t ∧
    ∀ n : Fin 4,
      ((t.barrier n).order = .raise → (s.barrier n).order ≠ .raise →
        ((t.lane n).state = .passing ∧ (s.lane n).state ≠ .passing) ∨
        ((s.lane n).state = .maintenance ∧ ∃ rest, s.pending = .barrierRaise n.val :: rest)) ∧
      ((t.barrier n).state = .raising → (s.barrier n).state ≠ .raising →
        (t.barrier n).order = .raise ∨ ((s.barrier n).state = .lowering ∧ (t.barrier n).report.gate = true))

/-- R12, R28, R34: where the laws hold, after every step each permit has reserved what its records reserve, what a live
record names is in its table, each live-visit count is the number of the records that name its entry, and no two
vehicles share a tag. -/
def Obligations.ClaimsStayCounted : Prop :=
  ∀ s t : State, Lawful s → step s = .next t → ReservationsLawful t ∧ RetentionLawful t

/-- The invariants hold right after a hard reset (its values that no rule gives are log 9's). -/
def Obligations.ResetInGoodOrder : Prop :=
  InGoodOrder State.reset ∧ ChangesLawful State.reset ∧ NoticesLegal State.reset ∧ Lawful State.reset

/-- R151: a duration is counted as the smallest number of frames whose total length is at least it, with the frame
period in force; so is the fixed tag window (R51). R181: the word, the range and the default of each duration setting
and of the occupancy limit; an image value out of its range takes the default. -/
def Obligations.SettingsAreConvertedToFrames : Prop :=
  (∀ ms period n : Nat, 0 < period → (framesOf ms period ≤ n ↔ ms ≤ n * period)) ∧
  (∀ (s : State) (x : Setting), s.frames x = framesOf (settingMs s.loader.image x) s.loop.period) ∧
  (∀ s : State, s.tagWindow = framesOf 2000 s.loop.period) ∧
  (∀ image : List Word,
    let taken (v low high otherwise : Nat) : Nat := if low ≤ v ∧ v ≤ high then v else otherwise
    settingMs image .settle = taken (wordAt image 41) 0 60000 1500 ∧
    settingMs image .cycle = taken (wordAt image 42) 0 60000 8000 ∧
    settingMs image .recovery = taken (wordAt image 43) 0 60000 2000 ∧
    settingMs image .travel = taken (wordAt image 44) 500 30000 6000 ∧
    settingMs image .passage = taken (doubleAt image 45) 10000 600000 120000 ∧
    settingMs image .abandon = taken (wordAt image 47) 1000 60000 5000 ∧
    settingMs image .gateClear = taken (wordAt image 48) 0 10000 1000 ∧
    settingMs image .captureLimit = taken (wordAt image 49) 1000 60000 30000 ∧
    settingMs image .dwell = taken (wordAt image 50) 200 10000 1000 ∧
    occupancyLimit image = taken (wordAt image 38) 1 64 24) ∧
  [Setting.settle, .cycle, .recovery, .travel, .passage, .abandon, .gateClear, .captureLimit, .dwell].map
    (settingMs defaultImage) = [1500, 8000, 2000, 6000, 120000, 5000, 1000, 30000, 1000] ∧
  occupancyLimit defaultImage = 24

/-! ### Loading -/

/-- R179, R180: LOAD_END judges what was read; R7, R73, R90, R92, R93, R110, R133, R138, R153, R168, R181, R182, R199:
every block takes its words (words are judged whole: log 34; a deck without parameters: log 9; the detectors' absence
run is 0: log 21; an auto-started loop stands with its marker slot opened: log 17), what the rules keep stands, the
levels are latched with the new edge selections, and the loop starts where auto-start is set. R185: RELOAD is refused
while a lane is neither IDLE nor CLOSED or the loop is not STOPPED, then while the store is written; else the load of
the image is under way, every lane CLOSED and every unit ABSENT; the other blocks stand until LOAD_END, and the old
levels are kept for it (log 29). -/
def Obligations.LoadsJudgeAndTakeTheImage : Prop :=
  (∀ (s : State) (read : Option (List Word)), s.rstLow = false → s.loader.status = .loading →
    ∃ t, exec (.loadEnd read) s = .next t ∧
      t = { s with
        vt := { s.vt with nextTicket := t.vt.nextTicket }, lanes := t.lanes, barriers := t.barriers, decks := t.decks
        engines := t.engines, loop := t.loop, units := t.units, loader := t.loader, notices := t.notices } ∧
      (∀ ws, read = some ws → ws.getD 0 0 = 0x4B59 → ws.foldl (· + ·) 0 = 0x6C3E →
        t.loader = { s.loader with status := .loaded, image := ws, lockBoundary := min 255 (wordAt ws 1) }) ∧
      (∀ st, (read = none ∧ st = .absent) ∨ (∃ ws, read = some ws ∧ ws.getD 0 0 ≠ 0x4B59 ∧ st = .defaults) ∨
          (∃ ws, read = some ws ∧ ws.getD 0 0 = 0x4B59 ∧ ws.foldl (· + ·) 0 ≠ 0x6C3E ∧ st = .sumBad) →
        t.loader = { s.loader with status := st, image := defaultImage, lockBoundary := 255 }) ∧
      t.vt.nextTicket = (if s.loader.afterReset = false then s.vt.nextTicket
        else if t.loader.status = .loaded ∧ 1 ≤ doubleAt t.loader.image 39 ∧ doubleAt t.loader.image 39 ≤ 99999999
        then doubleAt t.loader.image 39 else 1) ∧
      TakesLoopWords t.loader.status t.loader.image t.loop ∧
      (let taken := { s.loop with
          frameLength := t.loop.frameLength, slots := t.loop.slots, addresses := t.loop.addresses
          autoStart := t.loop.autoStart, period := t.loop.frameLength + 1, position := none, begun := none
          shown := 0, pauseShown := false, working := [], tableChanged := false };
        t.loop = if t.loop.autoStart then startedLoop taken else taken) ∧
      (∀ n : Fin 4, TakesDeckWords t.loader.status t.loader.image n (t.deck n) ∧
        TakesLaneWords t.loader.status t.loader.image n (t.lane n) (t.unit (laneUnit n)) ∧
        (t.unit (digitizer n)).autoSwitch = false ∧
        (let st : LaneState := if (t.lane n).mode = .closed then .closed
            else if (s.barrier n).state = .fault then .fault else .idle;
          t.lane n = { Lane.reset with
            mode := (t.lane n).mode, autoTake := (t.lane n).autoTake, walkIn := (t.lane n).walkIn
            walkTare := (t.lane n).walkTare, autoCapture := (t.lane n).autoCapture, state := st
            display := ⟨if st = .idle then .welcome else if st = .fault then .seeOffice else .closed, 0⟩
            cycle := (s.lane n).cycle, lastRefusal := (s.lane n).lastRefusal
            testResult := (s.lane n).testResult }) ∧
        (let lowered := { s.barrier n with
            order := .lower, gateClear := none, abandon := none, refusals := 0, tracking := .inactive
            beyondSeen := false };
          t.barrier n = if t.loop.autoStart then travelStarted lowered (t.frames .travel) else lowered) ∧
        t.engine n = { s.engine n with run := none, failures := 0 }) ∧
      (∀ u : Fin 8, t.unit u = { s.unit u with
        state := if t.loop.ownsSlot u then .searching else .absent
        goodRun := 0, badRun := 0, alarmFree := 0, alarmSeen := false
        alarmCode := if s.loader.afterReset then none else (s.unit u).alarmCode
        autoSwitch := (t.unit u).autoSwitch, activate := Detector.cleared, deactivate := Detector.cleared }) ∧
      TakesNoticeWords t.loader.image t.notices ∧ LevelsFollow t ∧ t.notices.beforeLoad = none ∧
      (∀ k : Fin 20, k.val < 13 → t.notices.latched.get k = s.notices.latched.get k) ∧
      ∀ j : Fin 7,
        let old := (s.notices.beforeLoad.getD s.notices.levels).get j
        let new := t.notices.levels.get j
        t.notices.latched.get ⟨13 + j.val, by omega⟩ = s.notices.latched.get ⟨13 + j.val, by omega⟩ |||
          ((new &&& ~~~ old) ||| (old &&& ~~~ new &&& t.notices.edges.get j))) ∧
  ∀ s : State, Accepts s .reload →
    (((∃ n : Fin 4, (s.lane n).state ≠ .idle ∧ (s.lane n).state ≠ .closed) ∨ s.loop.state ≠ .stopped) →
      exec .reload s = .next (answered s .reload .laneBusy .empty)) ∧
    ((∀ n : Fin 4, (s.lane n).state = .idle ∨ (s.lane n).state = .closed) → s.loop.state = .stopped →
      (s.loader.writing.isSome = true → exec .reload s = .next (answered s .reload .storeBusy .empty)) ∧
      (s.loader.writing = none → ∃ t, exec .reload s = .next (answered t .reload .ok .empty) ∧
        t = { s with
          lanes := t.lanes, units := t.units, loader := { s.loader with status := .loading, afterReset := false }
          notices := { s.notices with levels := t.notices.levels, beforeLoad := some s.notices.levels } } ∧
        LevelsFollow t ∧
        (∀ n : Fin 4, t.lane n = { s.lane n with state := .closed, display := ⟨.closed, 0⟩ }) ∧
        ∀ u : Fin 8, t.unit u = { s.unit u with
          state := .absent, goodRun := 0, badRun := 0, alarmFree := 0, alarmSeen := false
          activate := Detector.cleared, deactivate := Detector.cleared }))

/-! ### Lanes -/

/-- R52: LANE MODE, its parameters in range: LANE_BUSY but at an IDLE or CLOSED lane; there the settings are written,
and the lane opens, closes, or opens into FAULT. -/
def Obligations.LaneModeSetsTheLane : Prop :=
  ∀ (s : State) (n : Fin 4) (code autoTake walkIn walkTare autoCapture : Nat) (m : LaneMode),
    let c := Instr.laneMode n.val code autoTake walkIn walkTare autoCapture
    let set := { s.lane n with
      mode := m, autoTake := decide (autoTake = 1), walkIn := decide (walkIn = 1)
      walkTare := decide (walkTare = 1), autoCapture := decide (autoCapture = 1)
      buffer := if (s.lane n).mode = m ∧ autoTake = 1 then (s.lane n).buffer else [] }
    Accepts s c → [.closed, .entry, .exit, .internal][code]? = some m →
    autoTake ≤ 1 → walkIn ≤ 1 → walkTare ≤ 1 → autoCapture ≤ 1 →
    ((s.lane n).state ≠ .idle → (s.lane n).state ≠ .closed →
      exec c s = .next (answered s c .laneBusy .empty)) ∧
    (((s.lane n).state = .idle ∧ m ≠ .closed) ∨ ((s.lane n).state = .closed ∧ m = .closed) →
      exec c s = .next (answered (s.setLane n set) c .ok (.laneState (s.lane n).state))) ∧
    ((s.lane n).state = .idle → m = .closed →
      exec c s = .next (answered ((s.setLane n { set with
          state := .closed, boundTag := none, display := ⟨.closed, 0⟩ }).setBarrier n
          ((s.barrier n).giveOrder .lower (s.frames .travel) (s.frames .gateClear)))
        c .ok (.laneState .closed))) ∧
    ((s.lane n).state = .closed → m ≠ .closed → (s.unit (laneUnit n)).state ≠ .lost →
      (s.unit (laneUnit n)).state ≠ .alarm → (s.barrier n).state ≠ .fault →
      exec c s = .next (answered (s.setLane n { set with
        state := .idle, boundTag := none, display := ⟨.welcome, 0⟩ }) c .ok (.laneState .idle))) ∧
    ((s.lane n).state = .closed → m ≠ .closed → ((s.unit (laneUnit n)).state = .lost ∨
      (s.unit (laneUnit n)).state = .alarm ∨ (s.barrier n).state = .fault) →
      ∃ t, exec c s = .next (answered t c .ok (.laneState .fault)) ∧ (t.lane n).state = .fault ∧
        (t.lane n).mode = m ∧ (t.lane n).buffer = [] ∧ (t.lane n).display = ⟨.seeOffice, 0⟩ ∧
        (t.barrier n).order = .lower ∧ t.vt = s.vt ∧ t.vehicles = s.vehicles ∧ t.permits = s.permits ∧
        OtherLanesKept s t n ∧ FieldKept s t)

/-- R64, R62: LANE RELEASE at a lane with no capture running: the visit of an ENTRY lane is held with RELEASED; a visit
in REWEIGHING or EXITING goes back to IN_YARD, its weighings of this binding WITHDRAWN; a CLEARED visit at a SETTLING
lane, and a lane neither SETTLING nor BOUND, are refused. R65, R82: LANE RESET with no capture running: CLOSED is
refused; a bound visit is held with LANE_RESET; a lane in FAULT leaves it when its unit is GOOD; any other lane enters
FAULT when its unit is LOST, ALARM or ABSENT, and else RELEASING. From RELEASING to RELEASING it keeps its held visit,
with the BEYOND-seen mark (R88); to FAULT it loses it (R66). The barrier's fault is cleared by the image, and the cycle
timer is not touched. -/
def Obligations.LaneReleaseFreesTheLane : Prop :=
  (∀ (s : State) (n : Fin 4) (ticket slot : Nat) (v : Visit), Accepts s (.laneRelease n.val) → TablesCanonical s →
    (((s.lane n).state ≠ .settling → (s.lane n).state ≠ .bound →
      exec (.laneRelease n.val) s = .next (answered s (.laneRelease n.val) .wrongState .empty)) ∧
    ((s.lane n).bound = some ticket → s.byTicket ticket = some (slot, v) → v.lane = some n → v.state ≠ .held →
      (s.engine n).run = none → 0 < s.frames .recovery →
      ((s.lane n).mode = .entry → (s.lane n).state = .settling ∨ (s.lane n).state = .bound →
        ∃ t, exec (.laneRelease n.val) s = .next (answered t (.laneRelease n.val) .ok .empty) ∧
          t.visit slot = some { v with
            state := .held, prior := some v.state, reason := some .released, later := [], lane := none } ∧
          OtherVisitsKept s t slot ∧ t.vt.changes = withChange s.vt.changes slot ∧
          t.vt.occupancy = s.vt.occupancy ∧ t.vehicles = s.vehicles ∧ t.permits = s.permits ∧
          (t.lane n).state = .releasing ∧ (t.lane n).heldVisit = some ticket ∧ (t.lane n).bound = none ∧
          (t.lane n).recovery = some (s.frames .recovery) ∧ (t.lane n).display = ⟨.seeOffice, ticket⟩ ∧
          (t.barrier n).order = .lower ∧ (t.barrier n).tracking = .heldVisit ∧
          OtherLanesKept s t n ∧ FieldKept s t ∧ t.notices.isLatched .visitHeld n.val = true) ∧
      ((s.lane n).mode = .internal ∨ (s.lane n).mode = .exit →
        (s.lane n).state = .settling ∨ (s.lane n).state = .bound → v.state = .reweighing ∨ v.state = .exiting →
        ∃ t, exec (.laneRelease n.val) s = .next (answered t (.laneRelease n.val) .ok .empty) ∧
          t.visit slot = some { v with
            state := .inYard, lane := none
            weighings := v.weighings.zipIdx.map (fun (w, k) =>
              if v.bindMark ≤ k then { w with standing := .withdrawn } else w) } ∧
          OtherVisitsKept s t slot ∧ t.vt.changes = withChange s.vt.changes slot ∧
          t.vt.occupancy = s.vt.occupancy ∧ t.vehicles = s.vehicles ∧ t.permits = s.permits ∧
          (t.lane n).state = .releasing ∧ (t.lane n).heldVisit = none ∧ (t.lane n).bound = none ∧
          (t.barrier n).order = .lower ∧ (t.barrier n).tracking = .inactive ∧
          OtherLanesKept s t n ∧ FieldKept s t) ∧
      ((s.lane n).mode = .exit → (s.lane n).state = .settling → v.state = .cleared →
        exec (.laneRelease n.val) s = .next (answered s (.laneRelease n.val) .wrongState .empty))))) ∧
  ∀ (s : State) (n : Fin 4), Accepts s (.laneReset n.val) → TablesCanonical s → (s.engine n).run = none →
    let unit := (s.unit (laneUnit n)).state
    let unfit := unit = .lost ∨ unit = .alarm ∨ unit = .absent
    let lowered (t : State) := (t.barrier n).order = .lower ∧ ((s.barrier n).state ≠ .fault →
        (t.barrier n).state = (s.barrier n).state) ∧
      ((s.barrier n).state = .fault → (t.barrier n).state =
        if (s.barrier n).report.downClosed && !(s.barrier n).report.upClosed then .down else .lowering)
    let emptied := { s.lane n with
      bound := none, eligible := false, settle := none, passage := none, pendingCapture := none, buffer := [] }
    let releasing (held : Option Nat) := { emptied with
      state := .releasing, heldVisit := held, recovery := some (s.frames .recovery)
      display := match held with
        | some ticket => ⟨.seeOffice, ticket⟩
        | none => ⟨.welcome, 0⟩ }
    let faulted := { emptied with
      state := .fault, heldVisit := none, boundTag := none, recovery := none, display := ⟨.seeOffice, 0⟩ }
    let answers (t : State) (st : LaneState) :=
      exec (.laneReset n.val) s = .next (answered t (.laneReset n.val) .ok (.laneState st)) ∧
      t = { s with vt := t.vt, lanes := t.lanes, barriers := t.barriers, notices := t.notices } ∧
      lowered t ∧ OtherLanesKept s t n
    ((s.lane n).state = .closed →
      exec (.laneReset n.val) s = .next (answered s (.laneReset n.val) .wrongState .empty)) ∧
    ((s.lane n).state = .fault → (s.lane n).bound = none → unit ≠ .good →
      ∃ t, answers t .fault ∧ t.lane n = { s.lane n with buffer := [] } ∧ t.vt = s.vt) ∧
    ((s.lane n).state = .fault → (s.lane n).bound = none → unit = .good → 0 < s.frames .recovery →
      ∃ t, answers t .releasing ∧ t.lane n = releasing none ∧ t.vt = s.vt ∧
        (t.barrier n).tracking = .inactive) ∧
    ((s.lane n).state = .idle ∨ (s.lane n).state = .releasing ∨ (s.lane n).state = .maintenance →
      (s.lane n).bound = none →
      (¬ unfit → 0 < s.frames .recovery → ∃ t held, answers t .releasing ∧ t.vt = s.vt ∧
        held = (if (s.lane n).state = .releasing then (s.lane n).heldVisit else none) ∧
        t.lane n = releasing held ∧
        (t.barrier n).tracking = (if held.isSome then .heldVisit else .inactive) ∧
        ((s.lane n).state = .releasing → (t.barrier n).beyondSeen = (s.barrier n).beyondSeen)) ∧
      (unfit → ∃ t, answers t .fault ∧ t.vt = s.vt ∧ t.lane n = faulted ∧ (t.barrier n).tracking = .inactive)) ∧
    (∀ ticket slot v, (s.lane n).state = .settling ∨ (s.lane n).state = .bound ∨ (s.lane n).state = .passing →
      (s.lane n).bound = some ticket → s.byTicket ticket = some (slot, v) → v.lane = some n → v.state ≠ .held →
      let holds (t : State) := t.notices.isLatched .visitHeld n.val = true ∧ t.vt = { s.vt with
        records := s.vt.records.put slot { v with
          state := .held, prior := some v.state, reason := some .laneReset, later := [], lane := none }
        changes := withChange s.vt.changes slot }
      (¬ unfit → 0 < s.frames .recovery → ∃ t, answers t .releasing ∧ holds t ∧
        t.lane n = releasing (some ticket) ∧ (t.barrier n).tracking = .heldVisit) ∧
      (unfit → ∃ t, answers t .fault ∧ holds t ∧ t.lane n = faulted ∧ (t.barrier n).tracking = .inactive))

/-- R68, R70: MAINTAIN ON and MAINTAIN OFF by the lane's state, with no capture running. R89, R77, R84: BARRIER RAISE
and BARRIER LOWER work the barrier of a lane in MAINTENANCE whose barrier is not in FAULT; elsewhere they are refused.
-/
def Obligations.MaintenanceByRequest : Prop :=
  (∀ (s : State) (n : Fin 4), TablesCanonical s → (s.engine n).run = none →
    (Accepts s (.maintainOn n.val) →
      ((s.lane n).state = .closed ∨ (s.lane n).state = .fault →
        exec (.maintainOn n.val) s = .next (answered s (.maintainOn n.val) .wrongState .empty)) ∧
      ((s.lane n).state = .maintenance →
        exec (.maintainOn n.val) s = .next (answered s (.maintainOn n.val) .ok .empty)) ∧
      ((s.lane n).state = .idle ∨ (s.lane n).state = .releasing → (s.lane n).bound = none →
        ∃ t, exec (.maintainOn n.val) s = .next (answered t (.maintainOn n.val) .ok .empty) ∧
          t = { s with lanes := t.lanes, barriers := t.barriers, notices := t.notices } ∧
          (t.lane n).state = .maintenance ∧ (t.lane n).buffer = [] ∧ (t.lane n).display = ⟨.closed, 0⟩ ∧
          (t.lane n).mode = (s.lane n).mode ∧ (t.barrier n).order = (s.barrier n).order ∧
          (t.barrier n).state = (s.barrier n).state ∧ (t.barrier n).tracking = .inactive ∧
          OtherLanesKept s t n) ∧
      (∀ ticket slot v, (s.lane n).state = .settling ∨ (s.lane n).state = .bound ∨ (s.lane n).state = .passing →
        (s.lane n).bound = some ticket → s.byTicket ticket = some (slot, v) → v.state ≠ .held →
        ∃ t, exec (.maintainOn n.val) s = .next (answered t (.maintainOn n.val) .ok .empty) ∧
          t.visit slot = some { v with
            state := .held, prior := some v.state, reason := some .maintenance, later := [], lane := none } ∧
          OtherVisitsKept s t slot ∧ (t.lane n).state = .maintenance ∧ (t.lane n).bound = none ∧
          (t.barrier n).order = (s.barrier n).order ∧ OtherLanesKept s t n ∧ FieldKept s t)) ∧
    (Accepts s (.maintainOff n.val) →
      ((s.lane n).state ≠ .maintenance →
        exec (.maintainOff n.val) s = .next (answered s (.maintainOff n.val) .wrongState .empty)) ∧
      ((s.lane n).state = .maintenance → (s.barrier n).state = .fault →
        ∃ t, exec (.maintainOff n.val) s = .next (answered t (.maintainOff n.val) .ok (.laneState .fault)) ∧
          t = { s with lanes := t.lanes, barriers := t.barriers, notices := t.notices } ∧
          (t.lane n).state = .fault ∧ (t.barrier n).state = .fault ∧ (t.barrier n).order = .lower ∧
          OtherLanesKept s t n) ∧
      ((s.lane n).state = .maintenance → (s.barrier n).state ≠ .fault → 0 < s.frames .recovery →
        ∃ t, exec (.maintainOff n.val) s =
            .next (answered t (.maintainOff n.val) .ok (.laneState .releasing)) ∧
          t = { s with lanes := t.lanes, barriers := t.barriers, notices := t.notices } ∧
          (t.lane n).state = .releasing ∧ (t.lane n).heldVisit = none ∧
          (t.lane n).recovery = some (s.frames .recovery) ∧ (t.barrier n).order = .lower ∧
          OtherLanesKept s t n))) ∧
  ∀ (s : State) (n : Fin 4),
    (Accepts s (.barrierRaise n.val) →
      ((s.lane n).state ≠ .maintenance ∨ (s.barrier n).state = .fault →
        exec (.barrierRaise n.val) s = .next (answered s (.barrierRaise n.val) .wrongState .empty)) ∧
      ((s.lane n).state = .maintenance →
        ((s.barrier n).state = .down ∨ (s.barrier n).state = .lowering →
          exec (.barrierRaise n.val) s = .next (answered (s.setBarrier n { s.barrier n with
            state := .raising, order := .raise, travel := some (s.frames .travel), travelAtStart := false
            refusals := 0 }) (.barrierRaise n.val) .ok (.barrierState .raising))) ∧
        ((s.barrier n).state = .raising →
          exec (.barrierRaise n.val) s = .next (answered (s.setBarrier n { s.barrier n with order := .raise })
            (.barrierRaise n.val) .ok (.barrierState .raising))) ∧
        ((s.barrier n).state = .up →
          exec (.barrierRaise n.val) s = .next (answered (s.setBarrier n { s.barrier n with
            order := .raise, gateClear := none }) (.barrierRaise n.val) .ok (.barrierState .up))))) ∧
    (Accepts s (.barrierLower n.val) →
      ((s.lane n).state ≠ .maintenance ∨ (s.barrier n).state = .fault →
        exec (.barrierLower n.val) s = .next (answered s (.barrierLower n.val) .wrongState .empty)) ∧
      ((s.lane n).state = .maintenance →
        ((s.barrier n).state = .down ∨ (s.barrier n).state = .lowering ∨ (s.barrier n).state = .raising →
          exec (.barrierLower n.val) s = .next (answered (s.setBarrier n { s.barrier n with order := .lower })
            (.barrierLower n.val) .ok (.barrierState (s.barrier n).state))) ∧
        ((s.barrier n).state = .up → (s.barrier n).order = .raise →
          exec (.barrierLower n.val) s = .next (answered (s.setBarrier n { s.barrier n with
            order := .lower
            gateClear := if (s.barrier n).report.gate then none else some (s.frames .gateClear) })
            (.barrierLower n.val) .ok (.barrierState .up))) ∧
        ((s.barrier n).state = .up → (s.barrier n).order = .lower →
          exec (.barrierLower n.val) s =
            .next (answered s (.barrierLower n.val) .ok (.barrierState .up)))))

/-! ### Decks and captures -/

/-- R59, R114, R115, R116, R117, R124: CAPTURE, refused by the deck, by the lane's state and by a full list; at a
SETTLING lane it waits for BOUND; at a BOUND lane it starts for the bound visit, and in MAINTENANCE as a test weighing.
A running capture with no settled group ends unreported first; one with settled groups ends PARTIAL first, and the list
must have room for its entry. A capture on a deck in OVERLOAD or NO_DATA fails as it starts (R122), with a last outcome
that has no weight and no legal mark (log 22). The burst length (R116) is the one asked for; with none it is OPEN for a
test weighing, and the vehicle's axle groups, 0 for OPEN, for a visit. -/
def Obligations.CaptureStartsOrWaits : Prop :=
  ∀ (s : State) (n : Fin 4) (burst : Option Nat) (b : Option Burst),
    let c := Instr.capture n.val burst
    let running (purpose : Purpose) : Capture := captureStarted s n purpose b
    let unreported := ∀ x, (s.engine n).run = some x → x.method = .whole ∨ x.groups = []
    Accepts s c →
    ((burst = none ∧ b = none) ∨ (burst = some 0 ∧ b = some .open) ∨
      (∃ k, 1 ≤ k ∧ k ≤ 8 ∧ burst = some k ∧ b = some (.fixed k))) →
    (∀ purpose, burst = some 0 → (running purpose).burst = .open) ∧
    (∀ purpose k, 1 ≤ k → burst = some k → (running purpose).burst = .fixed k) ∧
    (burst = none → (running .test).burst = .open ∧
      ∀ ticket role slot v veh, s.byTicket ticket = some (slot, v) → s.vehicles.get v.vehicle = some veh →
        (running (.visit ticket role)).burst = if veh.axleGroups = 0 then .open else .fixed veh.axleGroups) ∧
    ((s.deck n).params = none → exec c s = .next (answered s c .badParameter .empty)) ∧
    ((s.deck n).params.isSome → (s.lane n).state = .closed ∨ (s.lane n).state = .idle ∨ (s.lane n).state = .passing ∨
        (s.lane n).state = .releasing ∨ (s.lane n).state = .fault →
      exec c s = .next (answered s c .wrongState .empty)) ∧
    (∀ ticket slot v, (s.deck n).params.isSome → (s.lane n).bound = some ticket →
      s.byTicket ticket = some (slot, v) →
      (6 ≤ v.weighings.length ∨ (5 ≤ v.weighings.length ∧ ¬ unreported) →
        (s.lane n).state = .settling ∨ (s.lane n).state = .bound →
        exec c s = .next (answered s c .listFull .empty)) ∧
      (v.weighings.length < 6 → unreported → (s.lane n).state = .settling →
        exec c s = .next (answered (s.setLane n { s.lane n with pendingCapture := some ⟨b⟩ }) c .accepted .empty)) ∧
      (∀ role, v.weighings.length < 6 → unreported → (s.lane n).state = .bound →
        RoleOf v role → (s.deck n).state ≠ .overload → (s.deck n).state ≠ .noData →
        exec c s = .next (answered (s.setEngine n { s.engine n with run := some (running (.visit ticket role)) })
          c .accepted .empty)) ∧
      (∀ role reason, v.weighings.length < 6 → unreported → (s.lane n).state = .bound → RoleOf v role →
        ((s.deck n).state = .overload ∧ reason = .overload) ∨ ((s.deck n).state = .noData ∧ reason = .noData) →
        (s.engine n).failures < 2 →
        ∃ t, exec c s = .next (answered t c .accepted .empty) ∧
          t = { s with lanes := t.lanes, engines := t.engines, notices := t.notices } ∧ OtherLanesKept s t n ∧
          CaptureFails s t n (running (.visit ticket role)) reason) ∧
      (∀ role x, TablesCanonical s → v.weighings.length < 5 → (s.lane n).state = .bound → v.lane = some n →
        RoleOf v role → (s.deck n).state ≠ .overload → (s.deck n).state ≠ .noData →
        (s.engine n).run = some x → x.purpose = .visit ticket role → x.method = .axleSum → x.groups ≠ [] →
        ∃ t, exec c s = .next (answered t c .accepted .empty) ∧
          t = { s with
            vt := { s.vt with
              records := s.vt.records.put slot { v with
                weighings := v.weighings ++ [partialEntry s n x role .valid] }
              changes := withChange s.vt.changes slot }
            engines := t.engines, notices := t.notices } ∧
          t.engine n = ⟨some (running (.visit ticket role)), (s.engine n).failures,
            some ⟨.part, x.purpose, .axleSum, some (x.groups.map (·.weight)).sum, some false⟩⟩ ∧
          (∀ m : Fin 4, m ≠ n → t.engine m = s.engine m) ∧ t.notices.isLatched .captureDone n.val = true)) ∧
    ((s.deck n).params.isSome → (s.lane n).state = .maintenance →
      (unreported → (s.deck n).state ≠ .overload → (s.deck n).state ≠ .noData →
        exec c s = .next (answered (s.setEngine n { s.engine n with run := some (running .test) })
          c .accepted .empty)) ∧
      (∀ x, (s.deck n).state ≠ .overload → (s.deck n).state ≠ .noData → (s.engine n).run = some x →
        x.purpose = .test → x.method = .axleSum → x.groups ≠ [] →
        ∃ t, exec c s = .next (answered t c .accepted .empty) ∧
          t = { s with lanes := t.lanes, engines := t.engines, notices := t.notices } ∧ OtherLanesKept s t n ∧
          TestSums s t n x .part false ∧ (t.engine n).run = some (running .test) ∧
          (t.engine n).failures = (s.engine n).failures) ∧
      (∀ reason, unreported → ((s.deck n).state = .overload ∧ reason = .overload) ∨
          ((s.deck n).state = .noData ∧ reason = .noData) →
        ∃ t, exec c s = .next (answered t c .accepted .empty) ∧
          t = { s with lanes := t.lanes, engines := t.engines, notices := t.notices } ∧ OtherLanesKept s t n ∧
          CaptureFails s t n (running .test) reason))

/-- R59, R69, R123, R126: TERMINATE: WRONG_STATE with nothing to end; a waiting CAPTURE is dropped; a capture with no
settled group FAILS with ABORTED (its last outcome has no weight and no legal mark: log 22), and the third failure of a
binding holds the visit with CAPTURE_FAILED and the lane releases with it (R62); with settled groups it ends COMPLETE
where its burst is OPEN and no group was missed, else PARTIAL: a test weighing writes its result, and a visit in
ADMITTING or REWEIGHING takes the entry, a COMPLETE one letting it pass (R19). -/
def Obligations.CapturesEndEarly : Prop :=
  ∀ (s : State) (n : Fin 4), Accepts s (.terminate n.val) →
    ((s.engine n).run = none → (s.lane n).pendingCapture = none →
      exec (.terminate n.val) s = .next (answered s (.terminate n.val) .wrongState .empty)) ∧
    ((s.engine n).run = none → (s.lane n).pendingCapture.isSome →
      exec (.terminate n.val) s =
        .next (answered (s.setLane n { s.lane n with pendingCapture := none }) (.terminate n.val) .ok .empty)) ∧
    (∀ c, (s.engine n).run = some c → c.method = .whole ∨ c.groups = [] →
      (MayFail s n c → ∃ t, exec (.terminate n.val) s = .next (answered t (.terminate n.val) .ok .empty) ∧
        t = { s with lanes := t.lanes, engines := t.engines, notices := t.notices } ∧ OtherLanesKept s t n ∧
        CaptureFails s t n c .aborted) ∧
      (∀ ticket slot v, AtThirdFailure s n c ticket slot v →
        ∃ t, exec (.terminate n.val) s = .next (answered t (.terminate n.val) .ok .empty) ∧
          t = { s with
            vt := t.vt, lanes := t.lanes, barriers := t.barriers, engines := t.engines, notices := t.notices } ∧
          OtherLanesKept s t n ∧ ThirdFails s t n c ticket slot v .aborted)) ∧
    (∀ c, (s.engine n).run = some c → c.method = .axleSum → c.groups ≠ [] →
      let isPart : Bool := decide (c.burst ≠ .open) || c.missed
      (c.purpose = .test → ∃ t legal, exec (.terminate n.val) s = .next (answered t (.terminate n.val) .ok .empty) ∧
        t = { s with lanes := t.lanes, engines := t.engines, notices := t.notices } ∧ OtherLanesKept s t n ∧
        TestSums s t n c (if isPart then .part else .complete) legal ∧
        (t.engine n).run = none ∧ (t.engine n).failures = (s.engine n).failures) ∧
      (∀ ticket slot v role, c.purpose = .visit ticket role → TablesCanonical s → (s.lane n).state = .bound →
        (s.lane n).bound = some ticket → s.byTicket ticket = some (slot, v) → v.lane = some n → RoleOf v role →
        role ≠ .exit ∨ isPart = true → v.weighings.length < 6 →
        ∃ t, exec (.terminate n.val) s = .next (answered t (.terminate n.val) .ok .empty) ∧
          t = { s with
            vt := t.vt, lanes := t.lanes, barriers := t.barriers, engines := t.engines, notices := t.notices } ∧
          OtherLanesKept s t n ∧ VisitSums s t n c ticket slot v role isPart))

/-- R125, R62, R64, R65, R68: a lane abort by LANE RELEASE at an ENTRY lane, by LANE RESET or by MAINTAIN ON: the bound
visit is held, and then the running capture hands on a WITHDRAWN PARTIAL entry where groups have settled and ends
unreported elsewhere; it counts no failure. R131: where a sample waits that completes a WHOLE capture for a visit in
ADMITTING or REWEIGHING, it may be taken between the request and the unbinding claim, and its entry is then VALID in
the held record; which of the two happens is a free value (logs 14, 39). A test weighing that MAINTAIN OFF or LANE
RESET aborts is PARTIAL or FAILED ABORTED in the test result. A FAILED outcome has no weight and no legal mark (log
22). -/
def Obligations.AbortedCapturesEnd : Prop :=
  (∀ (s : State) (n : Fin 4) (ticket slot : Nat) (v : Visit) (c : Capture) (role : Role) (i : Instr) (r : HoldReason)
    (next : LaneState),
    let data : Answer := if i = .laneReset n.val then .laneState next else .empty
    let held := { v with state := .held, prior := some v.state, reason := some r, later := [], lane := none }
    let sums := c.method = .axleSum ∧ c.groups ≠ []
    let leaves (t : State) := OtherVisitsKept s t slot ∧ OtherLanesKept s t n ∧
      (t.lane n).state = next ∧ (t.lane n).bound = none ∧
      (t.lane n).heldVisit = (if next = .releasing then some ticket else none) ∧
      t.notices.isLatched .visitHeld n.val = true
    Accepts s i → TablesCanonical s → (s.lane n).state = .bound → (s.lane n).bound = some ticket →
    s.byTicket ticket = some (slot, v) → v.lane = some n → v.state ≠ .held → v.weighings.length < 6 →
    (s.engine n).run = some c → c.purpose = .visit ticket role → 0 < s.frames .recovery →
    (i = .laneRelease n.val ∧ (s.lane n).mode = .entry ∧ r = .released ∧ next = .releasing) ∨
      (i = .laneReset n.val ∧ (s.unit (laneUnit n)).state = .good ∧ r = .laneReset ∧ next = .releasing) ∨
      (i = .maintainOn n.val ∧ r = .maintenance ∧ next = .maintenance) →
    (s.loop.delivery = none → ∃ t, exec i s = .next (answered t i .ok data) ∧
      t = { s with
        vt := { s.vt with records := t.vt.records, changes := withChange s.vt.changes slot }
        lanes := t.lanes, barriers := t.barriers, engines := t.engines, notices := t.notices } ∧
      leaves t ∧ (i = .laneRelease n.val → Releases s t n ticket) ∧
      (¬ sums → t.visit slot = some held ∧ t.engine n = { s.engine n with run := none }) ∧
      (sums → t.visit slot = some { held with
          weighings := v.weighings ++ [partialEntry s n c role .withdrawn] } ∧
        t.engine n = ⟨none, (s.engine n).failures,
          some ⟨.part, c.purpose, .axleSum, some (c.groups.map (·.weight)).sum, some false⟩⟩ ∧
        t.notices.isLatched .captureDone n.val = true)) ∧
    (∀ raw frame p weight, Sampled s n raw frame p weight → ReadsAs s n p weight .stable → c.method = .whole →
      c.phase = .measuring → (v.state = .admitting ∧ role = .entry) ∨ (v.state = .reweighing ∧ role = .reweigh) →
      ∃ t legal, exec i s = .next (answered t i .ok data) ∧
        t = { s with
          free := s.free + 1, loop := t.loop, decks := t.decks
          vt := { s.vt with records := t.vt.records, changes := withChange s.vt.changes slot }
          lanes := t.lanes, barriers := t.barriers, engines := t.engines, notices := t.notices } ∧
        leaves t ∧
        ((t.loop = { s.loop with delivery := none } ∧ (t.deck n).state = .stable ∧
            t.visit slot = some { held with weighings := withEntry v (wholeEntry s n role weight legal) } ∧
            t.engine n = ⟨none, (s.engine n).failures,
              some ⟨.complete, c.purpose, .whole, some weight, some legal⟩⟩) ∨
          (t.loop = s.loop ∧ t.decks = s.decks ∧ t.visit slot = some held ∧
            t.engine n = { s.engine n with run := none })))) ∧
  ∀ (s : State) (n : Fin 4) (c : Capture) (i : Instr), Accepts s i → (s.lane n).state = .maintenance →
    0 < s.frames .recovery → (s.engine n).run = some c → c.purpose = .test →
    (i = .maintainOff n.val ∧ (s.barrier n).state ≠ .fault) ∨
      (i = .laneReset n.val ∧ (s.unit (laneUnit n)).state = .good ∧ (s.lane n).bound = none) →
    ∃ t, exec i s = .next (answered t i .ok (.laneState .releasing)) ∧
      t = { s with lanes := t.lanes, barriers := t.barriers, engines := t.engines, notices := t.notices } ∧
      OtherLanesKept s t n ∧ (t.lane n).state = .releasing ∧ (t.engine n).run = none ∧
      t.notices.isLatched .captureDone n.val = true ∧
      (c.method = .whole ∨ c.groups = [] →
        (t.lane n).testResult = some ⟨.failed .aborted, c.method, none, none, none, s.now⟩) ∧
      (c.method = .axleSum → c.groups ≠ [] → (t.lane n).testResult = some ⟨.part, .axleSum,
        some (c.groups.map (·.weight)).sum, some (c.groups.map (·.weight)), some false, s.now⟩)

/-- R105: ZERO, its refusals in their order and its effect. -/
def Obligations.ZeroSetsTheWorkingZero : Prop :=
  ∀ (s : State) (k : Nat), Accepts s (.zero k) →
    (4 ≤ k → exec (.zero k) s = .next (answered s (.zero k) .badParameter .empty)) ∧
    (∀ n : Fin 4, k = n.val →
      ((s.deck n).params = none → exec (.zero k) s = .next (answered s (.zero k) .badParameter .empty)) ∧
      (∀ p, (s.deck n).params = some p →
        ((s.deck n).state ≠ .empty ∨ (∀ w, (s.deck n).window = some w → w.settled = false) ∨
            (s.engine n).run ≠ none →
          exec (.zero k) s = .next (answered s (.zero k) .wrongState .empty)) ∧
        (∀ w x, (s.deck n).state = .empty → (s.deck n).window = some w → w.settled = true →
          (s.engine n).run = none → (s.deck n).last = some x →
          let offset := roundDiv (((x.raw : Int) - p.zero) * p.span) 65536
          ((p.capacity / 50 : Nat) < offset.natAbs →
            exec (.zero k) s = .next (answered s (.zero k) .zeroRange .empty)) ∧
          (offset.natAbs ≤ (p.capacity / 50 : Nat) →
            exec (.zero k) s = .next (answered (s.setDeck n { s.deck n with
              workingZero := x.raw, zeroFault := false, window := none
              tracking := Timer.load (s.frames .dwell) }) (.zero k) .ok (.zeroOffset offset))))))

/-- R94 to R98, R101: a DECK_SAMPLE delivered to an enabled deck whose engine is IDLE: the last sample, the overload
judgement, the window and the state; R103, R104: the zero tracking step on a settled EMPTY deck, and ZERO_FAULT with
ZERO_RANGE at its first drift out of range. A deck that is not enabled, or whose digitizer is LOST or in ALARM, drops
the sample. R122: an overload sample fails a running capture (the FAILED last outcome has no weight and no legal mark:
log 22); the third failure of a binding holds the visit with CAPTURE_FAILED (R62). -/
def Obligations.DeckSampleIsWeighed : Prop :=
  ∀ (s : State) (n : Fin 4) (raw : BitVec 24) (overRange : Bool) (frame : Nat),
    let c := Instr.deckSample n raw overRange
    s.rstLow = false → s.loop.delivery = some ⟨c, frame⟩ →
    ((s.deck n).params = none ∨ (s.unit (digitizer n)).state = .lost ∨ (s.unit (digitizer n)).state = .alarm →
      exec c s = .next { s with loop := { s.loop with delivery := none } }) ∧
    (∀ p, (s.deck n).params = some p → (s.unit (digitizer n)).state ≠ .lost →
      (s.unit (digitizer n)).state ≠ .alarm →
      let kg := roundDiv (((raw.toNat : Int) - (s.deck n).workingZero) * p.span) 65536
      let weight := roundDiv kg p.division * p.division
      ((s.engine n).run = none → ∃ t, exec c s = .next t ∧
        t = { s with loop := { s.loop with delivery := none }, decks := t.decks, notices := t.notices } ∧
        (∀ m : Fin 4, m ≠ n → t.deck m = s.deck m) ∧
        (t.deck n).last = some ⟨raw.toNat, overRange, frame, kg, weight⟩ ∧
        (t.deck n).noData = 0 ∧ (t.deck n).sampled = true ∧
        ((overRange = true ∨ (p.capacity + 9 * p.division : Int) < weight) →
          (t.deck n).state = .overload ∧ (t.deck n).window = none) ∧
        (overRange = false → weight ≤ (p.capacity + 9 * p.division : Int) →
          (∀ w, (s.deck n).window = some w → (weight - w.ref).natAbs ≤ p.division →
            (t.deck n).window = some { w with
              count := min 65535 (w.count + 1)
              settled := decide (s.frames .dwell ≤ w.age) && decide (4 ≤ min 65535 (w.count + 1)) }) ∧
          ((∀ w, (s.deck n).window = some w → p.division < (weight - w.ref).natAbs) →
            (t.deck n).window = some ⟨weight, 0, 1, false⟩) ∧
          (weight.natAbs ≤ 5 * p.division → (t.deck n).state = .empty) ∧
          (∀ w, 5 * p.division < weight.natAbs → (t.deck n).window = some w →
            (t.deck n).state = if w.settled then .stable else .motion)) ∧
        (let tracks := (t.deck n).state = .empty ∧ (∃ w, (t.deck n).window = some w ∧ w.settled = true) ∧
            2 * kg.natAbs ≤ p.division ∧ ((s.deck n).tracking = none ∨ (s.deck n).tracking = some 0)
          let out := p.capacity / 50 < (roundDiv (((raw.toNat : Int) - p.zero) * p.span) 65536).natAbs
          (tracks → (t.deck n).workingZero = raw.toNat ∧ (t.deck n).tracking = Timer.load (s.frames .dwell) ∧
            ((t.deck n).zeroFault = true ↔ (s.deck n).zeroFault = true ∨ out) ∧
            ((s.deck n).zeroFault = false → out → t.notices.isLatched .zeroRange n.val = true)) ∧
          (¬ tracks → (t.deck n).workingZero = (s.deck n).workingZero ∧
            (t.deck n).tracking = (s.deck n).tracking ∧ (t.deck n).zeroFault = (s.deck n).zeroFault))) ∧
      (∀ x, (s.engine n).run = some x → MayFail s n x →
        overRange = true ∨ (p.capacity + 9 * p.division : Int) < weight →
        ∃ t, exec c s = .next t ∧
          t = { s with
            loop := { s.loop with delivery := none }, decks := t.decks, lanes := t.lanes, engines := t.engines
            notices := t.notices } ∧
          OtherLanesKept s t n ∧ (t.deck n).state = .overload ∧ (t.deck n).window = none ∧
          CaptureFails s t n x .overload) ∧
      (∀ x ticket slot v, (s.engine n).run = some x → AtThirdFailure s n x ticket slot v →
        overRange = true ∨ (p.capacity + 9 * p.division : Int) < weight →
        ∃ t, exec c s = .next t ∧
          t = { s with
            loop := { s.loop with delivery := none }, vt := t.vt, decks := t.decks, lanes := t.lanes
            barriers := t.barriers, engines := t.engines, notices := t.notices } ∧
          OtherLanesKept s t n ∧ (t.deck n).state = .overload ∧ (t.deck n).window = none ∧
          ThirdFails s t n x ticket slot v .overload))

/-- R118, R122, R126, R127, R128, R19, R60: the sample that makes the deck STABLE under a positioned WHOLE capture for a
visit in ADMITTING or REWEIGHING: the weighing joins the record VALID and COMPLETE and withdraws the earlier ones of its
role in the stop, and the lane lets the vehicle pass. -/
def Obligations.StableReadingLetsTheVisitPass : Prop :=
  ∀ (s : State) (n : Fin 4) (raw : BitVec 24) (frame ticket slot : Nat) (p : DeckParams) (weight : Int) (c : Capture)
    (v : Visit) (role : Role),
    Sampled s n raw frame p weight → ReadsAs s n p weight .stable → TablesCanonical s →
    (s.lane n).state = .bound → (s.lane n).bound = some ticket → s.byTicket ticket = some (slot, v) →
    v.lane = some n → (v.state = .admitting ∧ role = .entry) ∨ (v.state = .reweighing ∧ role = .reweigh) →
    v.weighings.length < 6 →
    (s.engine n).run = some c → c.purpose = .visit ticket role → c.method = .whole → c.phase = .measuring →
    ∃ t legal, exec (.deckSample n raw false) s = .next t ∧
      t = { s with
        loop := { s.loop with delivery := none }
        vt := { s.vt with
          records := s.vt.records.put slot { v with
            weighings := withEntry v (wholeEntry s n role weight legal) }
          changes := withChange s.vt.changes slot }
        lanes := t.lanes, barriers := t.barriers, decks := t.decks, engines := t.engines, notices := t.notices } ∧
      (legal = true ↔ (s.deck n).certified = true ∧ (s.deck n).zeroFault = false ∧
        (p.minWeigh * p.division : Int) ≤ weight) ∧
      (t.deck n).state = .stable ∧ LetsPass s t n ticket ∧
      t.engine n = ⟨none, (s.engine n).failures, some ⟨.complete, c.purpose, .whole, some weight, some legal⟩⟩ ∧
      t.notices.isLatched .captureDone n.val = true ∧ OtherLanesKept s t n

/-- R19, R21, R22, R36, R47: the sample that completes a WHOLE EXIT weighing, and a CALL at an EXIT lane that uses the
stored tare (R18), clear the record: tips and nets, net total, legal mark, cleared time, and in one claim the permit's
debit and reservation, with the tare refresh of a legal EXIT weighing; CLEARED is latched and the visit is eligible.
With fewer than two counted weighings, or a difference below −1 division, the record is held with NEGATIVE_NET and its
permit untouched; it keeps the DEFAULT entries (log 38). R126, R127, R128: the weighing's own legal mark, the last
outcome with CAPTURE_DONE, and the earlier entries of the role withdrawn (those of a STORED_TARE entry: log 36). Where
the division of a negative difference is missing, one of the two happens (log 12). -/
def Obligations.ClearanceChargesOrHolds : Prop :=
  (∀ (s : State) (n : Fin 4) (raw : BitVec 24) (frame ticket slot number : Nat) (p : DeckParams) (weight : Int)
    (c : Capture) (v : Visit) (permit : Permit) (veh : Vehicle),
    Sampled s n raw frame p weight → ReadsAs s n p weight .stable → TablesCanonical s →
    (s.lane n).state = .bound → (s.lane n).bound = some ticket → s.byTicket ticket = some (slot, v) →
    v.lane = some n → v.state = .exiting → v.weighings.length < 6 → 0 < s.frames .recovery →
    (v.kind = .tip → v.permit = some number ∧ s.permits.get number = some permit) →
    s.vehicles.get v.vehicle = some veh →
    (s.engine n).run = some c → c.purpose = .visit ticket .exit → c.method = .whole → c.phase = .measuring →
    ∃ t legal,
      let entered := { v with weighings := withEntry v (wholeEntry s n .exit weight legal) }
      let clears := Cleared s t n slot entered number permit veh ∧ LetsPass s t n ticket
      let holds := HeldUncleared s t slot entered permit ∧ Releases s t n ticket
      exec (.deckSample n raw false) s = .next t ∧
      t = { s with
        free := t.free, loop := { s.loop with delivery := none }
        vt := { s.vt with records := t.vt.records, changes := withChange s.vt.changes slot }
        vehicles := t.vehicles, permits := t.permits, lanes := t.lanes, barriers := t.barriers, decks := t.decks
        engines := t.engines, notices := t.notices } ∧
      OtherVisitsKept s t slot ∧ OtherLanesKept s t n ∧
      (legal = true ↔ (s.deck n).certified = true ∧ (s.deck n).zeroFault = false ∧
        (p.minWeigh * p.division : Int) ≤ weight) ∧
      t.engine n = ⟨none, (s.engine n).failures, some ⟨.complete, c.purpose, .whole, some weight, some legal⟩⟩ ∧
      t.notices.isLatched .captureDone n.val = true ∧
      (ClearanceCompletes s entered → clears) ∧ (ClearanceHolds s entered → holds) ∧ (clears ∨ holds)) ∧
  ∀ (s : State) (n : Fin 4) (ticket slot number : Nat) (v : Visit) (permit : Permit) (veh : Vehicle) (x : Tare),
    Accepts s (.call n.val ticket) → TablesCanonical s → 1 ≤ ticket → ticket ≤ 99999999 →
    (s.lane n).mode = .exit → (s.lane n).state = .idle → (s.lane n).cycle = none →
    s.byTicket ticket = some (slot, v) → v.state = .inYard → v.weighings.length < 6 → 0 < s.frames .recovery →
    v.kind = .tip → v.useTare = true → v.permit = some number → s.permits.get number = some permit →
    s.vehicles.get v.vehicle = some veh → veh.tare = some x → s.clock.day ≤ x.day + x.validity →
    let entered := { v with
      state := .exiting, lane := some n, bindMark := v.weighings.length
      weighings := withEntry v (storedEntry s x) }
    let bound := { s with lanes := s.lanes.set n { s.lane n with
      boundTag := some v.tag, cycle := Timer.load (s.frames .cycle) } }
    ∃ t, exec (.call n.val ticket) s = .next (answered t (.call n.val ticket) .ok .empty) ∧
      t = { s with
        free := t.free
        vt := { s.vt with records := t.vt.records, changes := withChange s.vt.changes slot }
        vehicles := t.vehicles, permits := t.permits, lanes := t.lanes, barriers := t.barriers
        engines := t.engines, notices := t.notices } ∧
      OtherVisitsKept s t slot ∧ OtherLanesKept s t n ∧
      let clears := Cleared s t n slot entered number permit veh ∧ Binds s t n ticket v.tag true ∧
        t.barrier n = s.barrier n
      let holds := HeldUncleared s t slot entered permit ∧ Releases bound t n ticket ∧
        t.engine n = { s.engine n with failures := 0 }
      (ClearanceCompletes s entered → clears) ∧ (ClearanceHolds s entered → holds) ∧ (clears ∨ holds)

/-- R101, R119, R120, R126, R127, R130: the reading of a sample under an AXLE_SUM capture: a group comes, is recorded
at its first STABLE reading, leaves or is missed, and the burst goes on; or the burst ends, at its length, at eight
groups or, OPEN with BEYOND seen, on the empty deck. With no settled group it FAILS with NO_STABLE. With settled groups
a test weighing writes their sum, COMPLETE or, after a missed group, PARTIAL; a visit in ADMITTING or REWEIGHING takes
the weighing: a COMPLETE one lets it pass, a PARTIAL one leaves it BOUND (R19). An EMPTY reading that takes a settled
group off the deck does not end the burst (log 20); the FAILED last outcome has no weight and no legal mark (log 22).
-/
def Obligations.AxleGroupsAreGathered : Prop :=
  ∀ (s : State) (n : Fin 4) (raw : BitVec 24) (frame : Nat) (p : DeckParams) (weight : Int) (st : DeckState)
    (c c' : Capture),
    let i := Instr.deckSample n raw false
    let sum := (c'.groups.map (·.weight)).sum
    Sampled s n raw frame p weight → ReadsAs s n p weight st → (s.engine n).run = some c → c.method = .axleSum →
    (AxleGoesOn c weight (!(s.deck n).zeroFault) st c' →
      ∃ t, exec i s = .next t ∧
        t = { s with
          loop := { s.loop with delivery := none }, decks := t.decks, engines := t.engines, notices := t.notices } ∧
        OtherLanesKept s t n ∧ (t.deck n).state = st ∧ t.engine n = { s.engine n with run := some c' }) ∧
    (AxleEnds c weight (!(s.deck n).zeroFault) st c' →
      (c'.groups = [] → MayFail s n c → ∃ t, exec i s = .next t ∧
        t = { s with
          loop := { s.loop with delivery := none }, decks := t.decks, lanes := t.lanes, engines := t.engines
          notices := t.notices } ∧
        OtherLanesKept s t n ∧ CaptureFails s t n c .noStable) ∧
      (c'.groups ≠ [] → c.purpose = .test → ∃ t legal, exec i s = .next t ∧
        t = { s with
          loop := { s.loop with delivery := none }, decks := t.decks, lanes := t.lanes, engines := t.engines
          notices := t.notices } ∧
        OtherLanesKept s t n ∧ TestSums s t n c' (if c'.missed then .part else .complete) legal ∧
        (t.engine n).run = none ∧ (t.engine n).failures = (s.engine n).failures) ∧
      (∀ ticket slot v role, c'.groups ≠ [] → TablesCanonical s → (s.lane n).state = .bound →
        (s.lane n).bound = some ticket → s.byTicket ticket = some (slot, v) → v.lane = some n →
        v.weighings.length < 6 → c.purpose = .visit ticket role →
        (v.state = .admitting ∧ role = .entry) ∨ (v.state = .reweighing ∧ role = .reweigh) →
        ∃ t legal,
          let complete := { partialEntry s n c' role .valid with result := .complete, legal := legal }
          let entries := if c'.missed then v.weighings ++ [partialEntry s n c' role .valid] else withEntry v complete
          exec i s = .next t ∧
          t = { s with
            loop := { s.loop with delivery := none }
            vt := { s.vt with
              records := s.vt.records.put slot { v with weighings := entries }
              changes := withChange s.vt.changes slot }
            lanes := t.lanes, barriers := t.barriers, decks := t.decks, engines := t.engines
            notices := t.notices } ∧
          OtherLanesKept s t n ∧
          (legal = true ↔ c'.missed = false ∧ (s.deck n).certified = true ∧ (∀ g ∈ c'.groups, g.inRange = true) ∧
            (p.minWeigh * p.division : Int) ≤ sum) ∧
          (c'.missed = true → t.lane n = s.lane n ∧ t.barrier n = s.barrier n) ∧
          (c'.missed = false → LetsPass s t n ticket) ∧
          t.engine n = ⟨none, (s.engine n).failures,
            some ⟨if c'.missed then .part else .complete, c.purpose, .axleSum, some sum, some legal⟩⟩ ∧
          t.notices.isLatched .captureDone n.val = true))

/-- R99, R103, R121, R122: the deck's own expiries: zero tracking may act again; four frames without a sample empty the
deck's data and fail a running capture; the capture limit ends a capture as FAILED for want of a stable reading, or
PARTIAL where groups have settled: a test weighing writes its result, a VISIT capture its entry (R19). The third
failure of a binding holds the visit (R62). A FAILED last outcome has no weight and no legal mark (log 22). -/
def Obligations.DeckTimersAct : Prop :=
  ∀ (s : State) (n : Fin 4), s.rstLow = false →
    ((s.deck n).tracking = some 0 →
      exec (.trackingTimerExpiry n) s = .next (s.setDeck n { s.deck n with tracking := none })) ∧
    ((s.deck n).params.isSome → (s.deck n).state ≠ .noData → 4 ≤ (s.deck n).noData →
      let emptied := { s.deck n with state := .noData, window := none, last := none, noData := 4 }
      ((s.engine n).run = none → ∃ t, exec (.noDataEntry n) s = .next t ∧
        t = { s with decks := t.decks, notices := t.notices } ∧
        (∀ m : Fin 4, m ≠ n → t.deck m = s.deck m) ∧ t.deck n = emptied) ∧
      (∀ c, (s.engine n).run = some c → MayFail s n c → ∃ t, exec (.noDataEntry n) s = .next t ∧
        t = { s with decks := t.decks, lanes := t.lanes, engines := t.engines, notices := t.notices } ∧
        OtherLanesKept s t n ∧ t.deck n = emptied ∧ CaptureFails s t n c .noData) ∧
      (∀ c ticket slot v, (s.engine n).run = some c → AtThirdFailure s n c ticket slot v →
        ∃ t, exec (.noDataEntry n) s = .next t ∧
          t = { s with
            vt := t.vt, decks := t.decks, lanes := t.lanes, barriers := t.barriers, engines := t.engines
            notices := t.notices } ∧
          OtherLanesKept s t n ∧ t.deck n = emptied ∧ ThirdFails s t n c ticket slot v .noData)) ∧
    (∀ c, (s.engine n).run = some c → c.timer = some 0 →
      (s.deck n).noData < 4 → (s.unit (digitizer n)).badRun < 8 →
      (c.method = .whole ∨ c.groups = [] →
        (MayFail s n c → ∃ t, exec (.captureTimerExpiry n) s = .next t ∧
          t = { s with lanes := t.lanes, engines := t.engines, notices := t.notices } ∧ OtherLanesKept s t n ∧
          CaptureFails s t n c .noStable) ∧
        (∀ ticket slot v, AtThirdFailure s n c ticket slot v → ∃ t, exec (.captureTimerExpiry n) s = .next t ∧
          t = { s with
            vt := t.vt, lanes := t.lanes, barriers := t.barriers, engines := t.engines, notices := t.notices } ∧
          OtherLanesKept s t n ∧ ThirdFails s t n c ticket slot v .noStable)) ∧
      (c.method = .axleSum → c.groups ≠ [] →
        (c.purpose = .test → ∃ t, exec (.captureTimerExpiry n) s = .next t ∧
          t = { s with lanes := t.lanes, engines := t.engines, notices := t.notices } ∧ OtherLanesKept s t n ∧
          TestSums s t n c .part false ∧ (t.engine n).run = none ∧
          (t.engine n).failures = (s.engine n).failures) ∧
        (∀ ticket slot v role, c.purpose = .visit ticket role → s.byTicket ticket = some (slot, v) →
          v.lane = some n → RoleOf v role → v.weighings.length < 6 →
          ∃ t, exec (.captureTimerExpiry n) s = .next t ∧
            t = { s with vt := t.vt, engines := t.engines, notices := t.notices } ∧ OtherLanesKept s t n ∧
            VisitSums s t n c ticket slot v role true)))

/-! ### The Yard Loop -/

/-- R132, R146, R147, R90, R151: LOOP START, LOOP PAUSE, LOOP RESUME and LOOP STOP by loop state. The frame that LOOP
START and a RESUME after SLOT SET open awaits its MARKER (log 17). Any other RESUME of a loop whose slot has ended
begins the slot after it, the marker slot (0) after the frame's last: the field `begun` (logs 16, 17). LOOP STOP leaves
the position none (log 41) and no message that waits to be delivered, since none is received in STOPPED (R132, R147,
log 32). A frame opens with the marks of units and decks clear (R99, R159, R166, log 32). The slot that LOOP STATUS has
drawn goes with the frame (log 40). -/
def Obligations.LoopRequestsFollowTheTable : Prop :=
  ∀ s : State,
    let inUse := ∃ n : Fin 4, (s.lane n).state = .settling ∨ (s.lane n).state = .bound ∨
      (s.lane n).state = .passing ∨ (s.lane n).state = .releasing
    (Accepts s .loopStart →
      (s.loop.state ≠ .stopped → exec .loopStart s = .next (answered s .loopStart .loopState .empty)) ∧
      (s.loop.state = .stopped → ∃ t,
        exec .loopStart s = .next (answered t .loopStart .ok (.frameNumber ((s.loop.frameNo + 1) % 256))) ∧
        t = { s with barriers := t.barriers, units := t.units, decks := t.decks, loop := startedLoop s.loop } ∧
        FrameMarksCleared s t ∧ ∀ n : Fin 4, t.barrier n = travelStarted (s.barrier n)
          (framesOf (settingMs s.loader.image .travel) (s.loop.frameLength + 1)))) ∧
    (Accepts s .loopPause →
      (s.loop.state ≠ .running → exec .loopPause s = .next (answered s .loopPause .loopState .empty)) ∧
      (s.loop.state = .running → inUse → exec .loopPause s = .next (answered s .loopPause .laneBusy .empty)) ∧
      (s.loop.state = .running → ¬ inUse → exec .loopPause s = .next (answered
        { s with loop := { s.loop with state := .pausing } } .loopPause .ok (.loopState .pausing)))) ∧
    (Accepts s .loopResume →
      (s.loop.state = .stopped ∨ s.loop.state = .running →
        exec .loopResume s = .next (answered s .loopResume .loopState .empty)) ∧
      (s.loop.state = .pausing → s.loop.slotDone = false →
        exec .loopResume s = .next (answered { s with loop := { s.loop with
          state := .running, pauseShown := false } } .loopResume .ok (.loopState .running))) ∧
      ((s.loop.state = .pausing ∧ s.loop.slotDone = true) ∨ (s.loop.state = .paused ∧ s.loop.tableChanged = false) →
        let ended := s.loop.position.getD 0
        exec .loopResume s = .next (answered { s with loop := { s.loop with
          state := .running, slotDone := false, pauseShown := false
          begun := some (if ended < s.loop.frameLength then ended + 1 else 0) } }
          .loopResume .ok (.loopState .running))) ∧
      (s.loop.state = .paused → s.loop.tableChanged = true → ∃ t,
        exec .loopResume s = .next (answered t .loopResume .ok (.loopState .running)) ∧
        t = { s with
          units := t.units, decks := t.decks, loop := { startedLoop s.loop with tableChanged := false } } ∧
        FrameMarksCleared s t)) ∧
    (Accepts s .loopStop →
      (s.loop.state = .stopped → exec .loopStop s = .next (answered s .loopStop .loopState .empty)) ∧
      (s.loop.state ≠ .stopped → inUse → exec .loopStop s = .next (answered s .loopStop .laneBusy .empty)) ∧
      (s.loop.state ≠ .stopped → ¬ inUse → ∃ t,
        exec .loopStop s = .next (answered t .loopStop .ok (.loopState .stopped)) ∧
        t = { s with units := t.units, decks := t.decks, loop := { s.loop with
          state := .stopped, delivery := none, working := [], position := none, markerOpen := false, polled := none
          slotDone := false, begun := none, shown := 0, pauseShown := false } } ∧
        FrameMarksCleared s t))

/-- R138, R148, R149, R150, R155, R160, R166: SLOT SET, with its refusals in their order: an entry byte that names no
unit, or a table that does not suit the units, then the loop's state; every unit is judged by the new table, and its
runs, marks and detectors are cleared as it becomes ABSENT (the detectors' absence run and code seen mark are log
21's). UNIT ADDRESS and INJECT, with all their refusals. -/
def Obligations.LoopTablesBySlotSetAndAddress : Prop :=
  ∀ s : State,
    (∀ (len : Nat) (entries : List Byte), Accepts s (.slotSet len entries) →
      (∃ b ∈ entries, 8 ≤ b.toNat % 16 ∧ b.toNat % 16 ≤ 14) →
      exec (.slotSet len entries) s = .next (answered s (.slotSet len entries) .badParameter .empty)) ∧
    (∀ (len : Nat) (entries : List Byte) (slots : List SlotEntry), Accepts s (.slotSet len entries) →
      SpellsSlots entries slots →
      (¬ SlotsSuitUnits len slots →
        exec (.slotSet len entries) s = .next (answered s (.slotSet len entries) .badParameter .empty)) ∧
      (SlotsSuitUnits len slots → s.loop.state = .running ∨ s.loop.state = .pausing →
        exec (.slotSet len entries) s = .next (answered s (.slotSet len entries) .loopState .empty)) ∧
      (SlotsSuitUnits len slots → s.loop.state = .stopped ∨ s.loop.state = .paused →
        ∃ t, exec (.slotSet len entries) s = .next (answered t (.slotSet len entries) .ok .empty) ∧
          t = { s with units := t.units, notices := t.notices, loop := { s.loop with
            frameLength := len, slots := slots
            tableChanged := s.loop.tableChanged || decide (s.loop.state = .paused) } } ∧
          LevelsFollow t ∧ ∀ u : Fin 8,
            let noCode : Detector :=
              { asserted := false, seen := false, run := 0, tolerated := none, absence := 0, reached := false }
            t.unit u = if t.loop.ownsSlot u then
              (if (s.unit u).state = .absent then { s.unit u with state := .searching, goodRun := 0, badRun := 0 }
                else s.unit u)
            else { s.unit u with
              state := .absent, goodRun := 0, badRun := 0, alarmFree := 0, alarmSeen := false
              activate := noCode, deactivate := noCode })) ∧
    (∀ k a : Nat, Accepts s (.unitAddress k a) → 8 ≤ k →
      exec (.unitAddress k a) s = .next (answered s (.unitAddress k a) .badParameter .empty)) ∧
    (∀ (u : Fin 8) (a : Nat), Accepts s (.unitAddress u.val a) →
      (a = 0 ∨ 30 < a → exec (.unitAddress u.val a) s =
        .next (answered s (.unitAddress u.val a) .badParameter .empty)) ∧
      (1 ≤ a → a ≤ 30 → s.loop.state = .running ∨ s.loop.state = .pausing →
        exec (.unitAddress u.val a) s = .next (answered s (.unitAddress u.val a) .loopState .empty)) ∧
      (1 ≤ a → a ≤ 30 → s.loop.state = .stopped ∨ s.loop.state = .paused →
        ((∃ v : Fin 8, v ≠ u ∧ s.loop.addresses.get v = a) →
          exec (.unitAddress u.val a) s = .next (answered s (.unitAddress u.val a) .inUse .empty)) ∧
        ((∀ v : Fin 8, v ≠ u → s.loop.addresses.get v ≠ a) →
          exec (.unitAddress u.val a) s = .next (answered
            { s with loop := { s.loop with addresses := s.loop.addresses.set u a } }
            (.unitAddress u.val a) .ok .empty)))) ∧
    (∀ k : Nat, Accepts s (.inject k) →
      (8 ≤ k → exec (.inject k) s = .next (answered s (.inject k) .badParameter .empty)) ∧
      (∀ u : Fin 8, k = u.val → exec (.inject k) s = .next (answered
        { s with loop := { s.loop with inject := s.loop.inject.set u true } } (.inject k) .ok .empty)))

/-- R71: a lane's signal. R76: a barrier's drive command, in each state that the rule lets stand. R136: a message is
its start byte, its header, its payload and the check byte that makes header, payload and check byte sum to 0, or that
byte's complement. R140, R150: the outbound message of a lane unit carries its address, the drive command, the signal
and the display, and that of a digitizer its address; the inject mark inverts the check byte alone. -/
def Obligations.OutboundMessagesSayTheLane : Prop :=
  (∀ (address kind : Nat) (payload : List Byte) (inverted : Bool), ∃ check : Byte,
    let head : Byte := BitVec.ofNat 8 (8 * address + kind)
    message address kind payload inverted =
      0xC6 :: head :: payload ++ [if inverted then ~~~check else check] ∧ head + payload.sum + check = 0) ∧
  ∀ (s : State) (n : Fin 4),
    let st := (s.barrier n).state
    let order := (s.barrier n).order
    let own (u : Fin 8) := s.loop.addresses.get u
    ((s.lane n).state = .passing ∧ st = .up → s.signal n = .green) ∧
    ((s.lane n).state = .closed → s.signal n = .dark) ∧
    ((s.lane n).state ≠ .closed → ¬ ((s.lane n).state = .passing ∧ st = .up) → s.signal n = .red) ∧
    (st = .down → order = .lower → s.drive n = .lower) ∧ (st = .raising → s.drive n = .raise) ∧
    (st = .up → order = .raise → s.drive n = .raise) ∧ (st = .up → order = .lower → s.drive n = .stay) ∧
    (st = .lowering → order = .lower → s.drive n = .lower) ∧
    (st = .fault → (s.lane n).state = .maintenance → s.drive n = .stay) ∧
    (st = .fault → (s.lane n).state ≠ .maintenance →
      s.drive n = match order with
        | .raise => .raise
        | .lower => .lower) ∧
    (∀ drive signal display : Nat, [Drive.stay, .raise, .lower][drive]? = some (s.drive n) →
      [Signal.red, .green, .dark][signal]? = some (s.signal n) →
      [DisplayCode.welcome, .weighing, .proceed, .seeOffice, .closed, .ticket][display]? =
        some (s.lane n).display.code →
      s.outbound (laneUnit n) = message (own (laneUnit n)) 1
        (BitVec.ofNat 8 (drive + 4 * signal + 16 * display) ::
          (List.range 4).map (fun k => BitVec.ofNat 8 ((s.lane n).display.number / 256 ^ k)))
        (s.loop.inject.get (laneUnit n))) ∧
    s.outbound (digitizer n) = message (own (digitizer n)) 2 [] (s.loop.inject.get (digitizer n))

/-- R139, R140, R141, R147: the slots in which the part drives the line, and the end of a pause. A message is OK in its
slot when the line read back as driven, TX_VERIFY otherwise; a LANE_COMMAND and a POLL spend the unit's inject mark.
R142, R143: the end of an IN slot, its statuses in their order, of a lane unit and of a digitizer: TX_VERIFY where the
POLL was not verified, SILENT, CHECK, ADDRESS, KIND, and OK with the message delivered under the frame's number; what
follows the first message is ignored. No slot begins or ends before the steps that are due (log 15); the pause that
falls in a slot without a step is the operand of LOOP_PAUSED (log 16), never a slot before one that LOOP STATUS has
shown, and the one it has shown in PAUSING (R134, R152, log 40); a slot that a RESUME has begun takes its step in
PAUSING too, since it then runs to its end (R147, log 16); an opened marker slot awaits its MARKER (log 17); `driven`
holds the message last sent (log 37). -/
def Obligations.SlotsAreDrivenAndJudged : Prop :=
  (∀ s : State, s.rstLow = false → s.loopClear = true →
    let turns (k : Nat) := s.loop.state = .running ∨ (s.loop.state = .pausing ∧ s.loop.begun = some k)
    (∀ readBack, s.loop.markerOpen = true → s.loop.state = .running ∨ s.loop.state = .pausing →
      let bs := message 0 0 [BitVec.ofNat 8 s.loop.frameNo] false
      exec (.marker readBack) s = .next { s with loop := { s.loop with
        driven := bs, position := some 0, begun := none, markerOpen := false
        slotDone := decide (s.loop.state = .pausing)
        working := s.loop.working.put 0 (if verified bs readBack then .ok else .txVerify) } }) ∧
    (∀ readBack k (n : Fin 4), turns k → s.loop.markerOpen = false → s.loop.polled = none →
      s.loop.nextOwned (s.loop.position.getD 0) = some k → s.loop.owner k = some (laneUnit n, .out) →
      let bs := s.outbound (laneUnit n)
      exec (.laneCommand k readBack) s = .next { s with loop := { s.loop with
        driven := bs, position := some k, begun := none, inject := s.loop.inject.set (laneUnit n) false
        slotDone := decide (s.loop.state = .pausing)
        working := s.loop.working.put k (if verified bs readBack then .ok else .txVerify) } }) ∧
    (∀ readBack k (n : Fin 4), turns k → s.loop.markerOpen = false → s.loop.polled = none →
      s.loop.nextOwned (s.loop.position.getD 0) = some k → s.loop.owner k = some (digitizer n, .inward) →
      let bs := s.outbound (digitizer n)
      exec (.poll k readBack) s = .next { s with loop := { s.loop with
        driven := bs, position := some k, begun := none, inject := s.loop.inject.set (digitizer n) false
        polled := some (verified bs readBack) } }) ∧
    (∀ q, s.loop.state = .pausing → s.loop.markerOpen = false → s.loop.polled = none → s.loop.slotDone = true →
      s.loop.position = some q →
      exec (.loopPaused q) s = .next { s with loop := { s.loop with
        state := .paused, slotDone := false, begun := none, pauseShown := false, tableChanged := false } }) ∧
    (∀ q, s.loop.state = .pausing → s.loop.markerOpen = false → s.loop.polled = none → s.loop.slotDone = false →
      let mayFall := s.loop.begun ≠ some 0 ∧ q ≤ s.loop.frameLength ∧
        max (max (s.loop.position.getD 0) (s.loop.begun.getD 0)) s.loop.shown ≤ q ∧
        (∀ k, s.loop.nextOwned (s.loop.position.getD 0) = some k → q < k) ∧
        (s.loop.pauseShown = true → q = s.loop.shown)
      (mayFall → exec (.loopPaused q) s = .next { s with loop := { s.loop with
        state := .paused, position := some q, slotDone := false, begun := none, pauseShown := false
        tableChanged := false } }) ∧
      (¬ mayFall → exec (.loopPaused q) s = .next s)) ∧
    (∀ heard k (n : Fin 4), s.loop.state = .running ∨ s.loop.state = .pausing →
      s.loop.owner k = some (digitizer n, .inward) → s.loop.position = some k → s.loop.polled = some false →
      exec (.inSlotEnd k heard) s = .next (slotEnded s k .txVerify none))) ∧
  ∀ (s : State) (k : Nat) (u : Fin 8), Listens s k u →
    let own := s.loop.addresses.get u
    exec (.inSlotEnd k .nothing) s = .next (slotEnded s k .silent none) ∧
    (∀ first, first ≠ 0xC6 → Heeds s k [first] .check none) ∧
    (∀ head, head.toNat % 8 = 7 → Heeds s k [0xC6, head] .check none) ∧
    ∀ (a kind : Nat) (payload : List Byte), a ≤ 31 →
      [1, 5, 0, 2, 6, 1, 4][kind]? = some payload.length →
      (∀ j framed, 1 ≤ j → j < payload.length + 3 →
        exec (.inSlotEnd k (.bytes ((message a kind payload false).take j) framed)) s =
          .next (slotEnded s k .check none)) ∧
      Heeds s k (message a kind payload true) .check none ∧
      (a ≠ own → Heeds s k (message a kind payload false) .address none) ∧
      (a = own →
        (kind ≠ 5 ∧ (u.val < 4 → kind ≠ 3 ∧ kind ≠ 4) ∧ (4 ≤ u.val → kind ≠ 6) →
          Heeds s k (message a kind payload false) .kind none) ∧
        (∀ x y, kind = 3 → payload = [x, y] → u.val < 4 → y.toNat % 4 = 3 →
          Heeds s k (message a kind payload false) .kind none) ∧
        (∀ x, kind = 5 → payload = [x] → x = 0 ∨ 4 < x.toNat →
          Heeds s k (message a kind payload false) .kind none) ∧
        (∀ (n : Fin 4) x y code, kind = 3 → payload = [x, y] → u = laneUnit n →
          [MaintCode.none, .activate, .deactivate][y.toNat % 4]? = some code →
          Heeds s k (message a kind payload false) .ok (some (.laneStatusMessage n
            { downClosed := x.getLsbD 0, upClosed := x.getLsbD 1, approach := x.getLsbD 2, deck := x.getLsbD 3
              gate := x.getLsbD 4, beyond := x.getLsbD 5, code := code, refused := y.getLsbD 2 }))) ∧
        (∀ (n : Fin 4) (tag : Tag), kind = 4 → u = laneUnit n →
          payload = (List.range 6).map (fun j => BitVec.ofNat 8 (tag.toNat / 256 ^ j)) →
          Heeds s k (message a kind payload false) .ok (some (.tagRead n tag))) ∧
        (∀ x code, kind = 5 → payload = [x] → 1 ≤ x.toNat →
          [AlarmCode.barrierMotor, .armOff, .supply, .digitizer][x.toNat - 1]? = some code →
          Heeds s k (message a kind payload false) .ok (some (.unitAlarm u code))) ∧
        (∀ (n : Fin 4) x y z flags, kind = 6 → payload = [x, y, z, flags] → u = digitizer n →
          Heeds s k (message a kind payload false) .ok (some (.deckSample n
            (BitVec.ofNat 24 (x.toNat + 256 * (y.toNat + 256 * z.toNat))) (flags.getLsbD 0)))))

/-- R139, R145: the marker that closes a complete frame publishes it, opens the next, and hands its end to the blocks:
the timers of lanes, barriers, decks and captures (R51, R74, R103, R121), tag and window ages (R49, R97), the missing
data of a deck (R99), and of each unit that owns a slot the runs, the alarm-free run, the error counter and the
detectors (R156, R159, R161, R164, R165, R166). The entries and expiries this makes due are steps of their own (log
15); the marker slot is opened and sent in this one step (log 17); `driven` holds the MARKER (log 37), and the
alarm-free run keeps its value outside ALARM (log 35). R147: a marker slot that a RESUME has begun closes its frame in
PAUSING too, since it then runs to its end (log 17). A unit that owns no slot loses the marks of the frame alone (R154,
R159). -/
def Obligations.MarkerPublishesTheFrame : Prop :=
  ∀ (s : State) (readBack : List BitSamples), s.rstLow = false → s.loopClear = true →
    s.loop.markerOpen = false → s.loop.polled = none → s.loop.nextOwned (s.loop.position.getD 0) = none →
    s.loop.state = .running ∨ (s.loop.state = .pausing ∧ s.loop.begun = some 0) →
    let statuses := (List.range 23).map (fun k => (s.loop.working.get k).getD .unused)
    let next := (s.loop.frameNo + 1) % 256
    let bs := message 0 0 [BitVec.ofNat 8 next] false
    ∃ t, exec (.marker readBack) s = .next t ∧
      t = { s with
        lanes := t.lanes, barriers := t.barriers, decks := t.decks, engines := t.engines, units := t.units
        notices := t.notices
        loop := { s.loop with
          published := some ⟨s.loop.frameNo, statuses⟩, frameNo := next, position := some 0
          working := [(0, if verified bs readBack then .ok else .txVerify)], driven := bs
          markerOpen := false, polled := none, slotDone := decide (s.loop.state = .pausing), begun := none
          shown := 0, pauseShown := false } } ∧
      t.notices.isLatched .frameEnd 0 = true ∧ t.notices.levels = s.notices.levels ∧
      (∀ n : Fin 4,
        t.lane n = { s.lane n with
          settle := (s.lane n).settle.map (· - 1), cycle := (s.lane n).cycle.map (· - 1)
          recovery := (s.lane n).recovery.map (· - 1), passage := (s.lane n).passage.map (· - 1)
          buffer := (s.lane n).buffer.map (fun e => { e with age := min 65535 (e.age + 1) }) } ∧
        t.barrier n = { s.barrier n with
          travel := (s.barrier n).travel.map (· - 1), gateClear := (s.barrier n).gateClear.map (· - 1)
          abandon := (s.barrier n).abandon.map (· - 1) } ∧
        t.deck n = { s.deck n with
          window := (s.deck n).window.map (fun w => { w with age := min 65535 (w.age + 1) })
          noData := (t.deck n).noData, tracking := (s.deck n).tracking.map (· - 1), sampled := false } ∧
        (t.deck n).noData = (if (s.deck n).params.isSome && !(s.deck n).sampled
          then min 4 ((s.deck n).noData + 1) else (s.deck n).noData) ∧
        t.engine n = { s.engine n with
          run := (s.engine n).run.map (fun c => { c with timer := c.timer.map (· - 1) }) }) ∧
      ∀ u : Fin 8,
        (s.loop.ownsSlot u = true → UnitCounts s t u statuses) ∧
        (s.loop.ownsSlot u = false → t.unit u = { s.unit u with
          alarmSeen := false
          activate := { (s.unit u).activate with seen := false }
          deactivate := { (s.unit u).deactivate with seen := false } })

/-! ### Units and detectors -/

/-- R161, R162, R163, R166: COUNTER MODE, COUNTER REPORT, AUTO SWITCH and the tick of the report interval. -/
def Obligations.UnitCountersAndSwitches : Prop :=
  ∀ (s : State) (u : Fin 8),
    (∀ code rcode sel rep, Accepts s (.counterMode u.val code rcode) →
      [CountSelection.rx, .tx, .both][code]? = some sel → [ReportMode.manual, .interval][rcode]? = some rep →
      exec (.counterMode u.val code rcode) s = .next (answered (s.setUnit u { s.unit u with
        selection := sel, report := rep, counter := 0, overflow := false })
        (.counterMode u.val code rcode) .ok .empty)) ∧
    (Accepts s (.counterReport u.val) →
      exec (.counterReport u.val) s = .next (answered (s.setUnit u { s.unit u with
        snapshot := some ⟨(s.unit u).counter, (s.unit u).overflow⟩, counter := 0, overflow := false })
        (.counterReport u.val) .ok (.snapshot ⟨(s.unit u).counter, (s.unit u).overflow⟩))) ∧
    (∀ on, Accepts s (.autoSwitch u.val on) →
      (4 ≤ u.val ∨ 1 < on →
        exec (.autoSwitch u.val on) s = .next (answered s (.autoSwitch u.val on) .badParameter .empty)) ∧
      (u.val < 4 → on ≤ 1 → exec (.autoSwitch u.val on) s = .next (answered
        (s.setUnit u { s.unit u with autoSwitch := decide (on = 1) }) (.autoSwitch u.val on) .ok .empty))) ∧
    (s.rstLow = false → ∃ t, exec .reportIntervalTick s = .next t ∧
      t = { s with units := t.units, notices := t.notices } ∧
      ((s.unit u).report = .manual → t.unit u = s.unit u) ∧
      ((s.unit u).report = .interval → t.notices.isLatched .counterReport u.val = true ∧
        t.unit u = { s.unit u with
          snapshot := some ⟨(s.unit u).counter, (s.unit u).overflow⟩, counter := 0, overflow := false }))

/-- R157, R159, R160, R165, R166: the entries a publication makes due: GOOD, LOST, the clearing of an alarm to GOOD or
to LOST, and the rise and fall of the maintenance-code detectors; with what each does at the unit's lane (R66, R68,
R70) or deck (R99, R100). The absence run of a detector that has deasserted is 0 (log 21). -/
def Obligations.UnitsAndDetectorsMove : Prop :=
  ∀ s : State, s.rstLow = false → LevelsFollow s →
    (∀ u : Fin 8, (s.unit u).state = .searching ∨ (s.unit u).state = .lost → 4 ≤ (s.unit u).goodRun →
      ∃ t, exec (.unitGoodEntry u) s = .next t ∧ t = { s with units := t.units, notices := t.notices } ∧
        t.unit u = { s.unit u with state := .good } ∧ ∀ w : Fin 8, w ≠ u → t.unit w = s.unit w) ∧
    (∀ n : Fin 4, (s.unit (digitizer n)).state = .good → 8 ≤ (s.unit (digitizer n)).badRun →
      (s.engine n).run = none →
      ∃ t, exec (.unitLostEntry (digitizer n)) s = .next t ∧
        t = { s with units := t.units, decks := t.decks, notices := t.notices } ∧
        t.unit (digitizer n) = { s.unit (digitizer n) with state := .lost } ∧
        t.deck n = { s.deck n with state := .noData, window := none, last := none, noData := 4 } ∧
        t.notices.isLatched .unitLost (digitizer n).val = true) ∧
    (∀ (n : Fin 4) ticket slot v, TablesCanonical s → (s.unit (laneUnit n)).state = .good →
      8 ≤ (s.unit (laneUnit n)).badRun → (s.engine n).run = none →
      (s.lane n).state = .settling ∨ (s.lane n).state = .bound ∨ (s.lane n).state = .passing →
      (s.lane n).bound = some ticket → s.byTicket ticket = some (slot, v) → v.state ≠ .held →
      ∃ t, exec (.unitLostEntry (laneUnit n)) s = .next t ∧
        t.unit (laneUnit n) = { s.unit (laneUnit n) with state := .lost } ∧
        t.visit slot = some { v with
          state := .held, prior := some v.state, reason := some .unitLost, later := [], lane := none } ∧
        OtherVisitsKept s t slot ∧ (t.lane n).state = .fault ∧ (t.lane n).bound = none ∧
        (t.lane n).buffer = [] ∧ (t.lane n).display = ⟨.seeOffice, 0⟩ ∧ (t.barrier n).order = .lower ∧
        OtherLanesKept s t n ∧ t.notices.isLatched .unitLost n.val = true) ∧
    (∀ u : Fin 8, (s.unit u).state = .alarm → 4 ≤ (s.unit u).alarmFree →
      (4 ≤ (s.unit u).goodRun →
        ∃ t, exec (.alarmClear u) s = .next t ∧ t = { s with units := t.units, notices := t.notices } ∧
          t.unit u = { s.unit u with state := .good } ∧ ∀ w : Fin 8, w ≠ u → t.unit w = s.unit w) ∧
      ((s.unit u).goodRun < 4 →
        (∃ n : Fin 4, u = laneUnit n ∧ ((s.lane n).state = .fault ∨ (s.lane n).state = .closed)) ∨
          (∃ n : Fin 4, u = digitizer n ∧ (s.deck n).state = .noData) →
        ∃ t, exec (.alarmClear u) s = .next t ∧
          t = { s with units := t.units, decks := t.decks, notices := t.notices } ∧
          t.unit u = { s.unit u with state := .lost } ∧ (∀ w : Fin 8, w ≠ u → t.unit w = s.unit w) ∧
          (∀ n : Fin 4, t.deck n = if u = digitizer n
            then { s.deck n with window := none, last := none, noData := 4 } else s.deck n) ∧
          t.notices.isLatched .unitLost u.val = true)) ∧
    (∀ n : Fin 4, (s.unit (laneUnit n)).activate.asserted = false → (s.unit (laneUnit n)).activate.reached = true →
      (s.unit (laneUnit n)).autoSwitch = false →
      ∃ t, exec (.detectorAssert n .activate) s = .next t ∧ t = { s with units := t.units, notices := t.notices } ∧
        (t.unit (laneUnit n)).activate.asserted = true ∧ (t.unit (laneUnit n)).activate.run = 0 ∧
        (t.unit (laneUnit n)).activate.tolerated = none ∧
        (t.unit (laneUnit n)).deactivate = (s.unit (laneUnit n)).deactivate ∧
        t.notices.isLatched .maintActivate n.val = true) ∧
    (∀ n : Fin 4, (s.unit (laneUnit n)).activate.asserted = false → (s.unit (laneUnit n)).activate.reached = true →
      (s.unit (laneUnit n)).autoSwitch = true → (s.lane n).state = .idle → (s.lane n).bound = none →
      (s.engine n).run = none →
      ∃ t, exec (.detectorAssert n .activate) s = .next t ∧ (t.unit (laneUnit n)).activate.asserted = true ∧
        (t.lane n).state = .maintenance ∧ (t.lane n).display = ⟨.closed, 0⟩ ∧
        (t.barrier n).order = (s.barrier n).order ∧ t.vt = s.vt ∧ OtherLanesKept s t n) ∧
    (∀ n : Fin 4, (s.unit (laneUnit n)).deactivate.asserted = false →
      (s.unit (laneUnit n)).deactivate.reached = true → (s.unit (laneUnit n)).autoSwitch = true →
      (s.lane n).state = .maintenance → (s.engine n).run = none → (s.barrier n).state ≠ .fault →
      0 < s.frames .recovery →
      ∃ t, exec (.detectorAssert n .deactivate) s = .next t ∧ (t.unit (laneUnit n)).deactivate.asserted = true ∧
        t.lane n = { s.lane n with
          state := .releasing, bound := none, eligible := false, settle := none, passage := none
          pendingCapture := none, heldVisit := none, recovery := some (s.frames .recovery)
          display := ⟨.welcome, 0⟩ } ∧
        (t.barrier n).order = .lower ∧ (t.barrier n).tracking = .inactive ∧ t.vt = s.vt ∧ OtherLanesKept s t n ∧
        t.notices.isLatched .maintDeactivate n.val = true) ∧
    (∀ n : Fin 4,
      (let d := (s.unit (laneUnit n)).activate
       d.asserted = true → 16 ≤ d.absence → ∃ t, exec (.detectorDeassert n .activate) s = .next t ∧
        t = { s with units := t.units, notices := t.notices } ∧
        t.unit (laneUnit n) = { s.unit (laneUnit n) with activate := (t.unit (laneUnit n)).activate } ∧
        (t.unit (laneUnit n)).activate.asserted = false ∧ (t.unit (laneUnit n)).activate.run = 0 ∧
        (t.unit (laneUnit n)).activate.absence = 0) ∧
      (let d := (s.unit (laneUnit n)).deactivate
       d.asserted = true → 16 ≤ d.absence → ∃ t, exec (.detectorDeassert n .deactivate) s = .next t ∧
        t = { s with units := t.units, notices := t.notices } ∧
        t.unit (laneUnit n) = { s.unit (laneUnit n) with deactivate := (t.unit (laneUnit n)).deactivate } ∧
        (t.unit (laneUnit n)).deactivate.asserted = false ∧ (t.unit (laneUnit n)).deactivate.run = 0 ∧
        (t.unit (laneUnit n)).deactivate.absence = 0))

/-! ### The settings store and the clock -/

/-- R182, R183, R184: SETTING WRITE with its lock, the end of the write cycle, and a read of the store. The level of
CAL_EN is sampled as the request is taken, an operand, and kept in the state, also of a refused request (log 7). -/
def Obligations.SettingsStoreIsWrittenAndRead : Prop :=
  ∀ s : State,
    (∀ word value calEn, Accepts s (.settingWrite word value calEn) →
      let c := Instr.settingWrite word value calEn
      (2047 < word ∨ 65535 < value →
        exec c s = .next (answered { s with calEn := calEn } c .badParameter .empty)) ∧
      (word ≤ 2047 → value ≤ 65535 →
        (s.loader.writing.isSome → exec c s = .next (answered { s with calEn := calEn } c .storeBusy .empty)) ∧
        (s.loader.writing = none → 1 ≤ word → word ≤ s.loader.lockBoundary → calEn = false →
          exec c s = .next (answered { s with calEn := calEn } c .certifiedLock .empty)) ∧
        (s.loader.writing = none → word = 0 ∨ s.loader.lockBoundary < word ∨ calEn = true →
          exec c s = .next (answered { s with
            calEn := calEn, loader := { s.loader with writing := some ⟨word, value⟩ } } c .accepted .empty)))) ∧
    (∀ x readBack, s.rstLow = false → s.loader.writing = some x →
      exec (.writeCycleEnd readBack) s = .next ({ s with loader := { s.loader with
        writing := none
        lastWrite := some ⟨(match readBack with
          | none => .noAck
          | some w => if w.toNat = x.value then .ok else .mismatch), x.word⟩ } }.latch .storeDone 0)) ∧
    (∀ word, Accepts s (.settingRead word 1) → word ≤ 2047 → s.loader.writing = none →
      exec (.settingRead word 1) s = .next { s with
        loader := { s.loader with reading := some word }
        port := { s.port with buffer := .pending 68, handed := none } }) ∧
    (∀ answer, s.rstLow = false → s.loader.reading.isSome →
      exec (.storeReadEnd answer) s = .next { s with
        loader := { s.loader with reading := none }
        port := { s.port with
          buffer := .answer 68 .ok (.setting answer answer.isNone
            ⟨s.loader.status, s.loader.lockBoundary, s.loader.writing.isSome, s.loader.lastWrite⟩)
          handed := none } })

/-- R188, R189, R17, R44: CLOCK SET, a second of the timebase, and the day change with the bookings that lapse, the
live-visit counts that fall with them, and the permits that expire, where the Completion List names finished records
alone (as VisitTableStaysLawful states of every step). YARD_CLOCK_SECOND at the last second of a day is the same step
as DAY_CHANGE (log 28). -/
def Obligations.ClockRunsAndDaysChange : Prop :=
  ∀ s : State,
    let expired (day : Nat) (p : Permit) : Permit := if p.expiry < day then { p with state := .expired } else p
    (∀ day minute, Accepts s (.clockSet day minute) →
      (65535 < day ∨ 1439 < minute →
        exec (.clockSet day minute) s = .next (answered s (.clockSet day minute) .badParameter .empty)) ∧
      (day ≤ 65535 → minute ≤ 1439 →
        exec (.clockSet day minute) s = .next (answered { s with
          clock := ⟨day, minute, 0, true⟩, permits := s.permits.map (fun e => (e.1, expired day e.2)) }
          (.clockSet day minute) .ok .empty))) ∧
    (s.rstLow = false →
      (s.clock.isSet = false → exec .yardClockSecond s = .next s) ∧
      (s.clock.isSet = true → s.clock.second < 59 → exec .yardClockSecond s =
        .next { s with clock := { s.clock with second := s.clock.second + 1 } }) ∧
      (s.clock.isSet = true → s.clock.second = 59 → s.clock.minute ≠ 1439 → exec .yardClockSecond s =
        .next { s with clock := { s.clock with second := 0, minute := s.clock.minute + 1 } }) ∧
      (s.clock.isSet = true → s.clock.second = 59 → s.clock.minute = 1439 →
        exec .yardClockSecond s = exec .dayChange s ∧
        (s.clock.day = 65535 →
          exec .dayChange s = .next { s with clock := { s.clock with minute := 0, second := 0 } }) ∧
        (s.clock.day < 65535 → TablesCanonical s →
          (∀ slot ∈ s.vt.completion, ∃ v, s.visit slot = some v ∧ v.finished = true) → ∃ t,
          let lapsed (v : Visit) : Bool := match v.bookingDay with
            | some d => decide (v.state = .booked) && decide (d ≤ s.clock.day)
            | none => false
          exec .dayChange s = .next t ∧
          t = { s with
            clock := ⟨s.clock.day + 1, 0, 0, true⟩
            vt := { s.vt with records := t.vt.records, changes := t.vt.changes }
            vehicles := t.vehicles, permits := t.permits, notices := t.notices } ∧
          (∀ slot v, s.visit slot = some v → lapsed v = true →
            t.visit slot = none ∧ slot ∉ t.vt.changes ∧ t.notices.isLatched .bookingLapsed 0 = true) ∧
          (∀ slot v, s.visit slot = some v → lapsed v = false → t.visit slot = some v ∧
            (slot ∈ t.vt.changes ↔ slot ∈ s.vt.changes)) ∧
          (∀ slot, s.visit slot = none → t.visit slot = none) ∧
          (∀ index veh, s.vehicles.get index = some veh → t.vehicles.get index = some { veh with
            live := veh.live - s.vt.records.countP (fun e => lapsed e.2 && decide (e.2.vehicle = index)) }) ∧
          ∀ number p, s.permits.get number = some p → t.permits.get number = some { p with
            live := p.live - s.vt.records.countP (fun e => lapsed e.2 && decide (e.2.permit = some number))
            state := if p.expiry < s.clock.day + 1 then .expired else p.state })))

/-! ### Messages -/

/-- R23, R61, R75, R84, R85: the LANE_STATUS that completes a passage: the visit moves by the lane's mode, the
occupancy with it, and the lane enters RELEASING with its barrier ordered to LOWER. R63, R88, R173: the LANE_STATUS
that completes an unattended passage: it is credited to the held record by the lane's mode, and the lane stops watching
and stays in RELEASING. The BEYOND-seen mark then stands (log 42), UNATTENDED_PASSAGE joins the later reasons at their
end (log 27), and the display stands after a credit (log 35). -/
def Obligations.LaneStatusCompletesThePassage : Prop :=
  ∀ (s : State) (n : Fin 4) (r : LaneReport) (frame ticket slot : Nat) (v : Visit),
    s.rstLow = false → s.loop.delivery = some ⟨.laneStatusMessage n r, frame⟩ → TablesCanonical s →
    s.byTicket ticket = some (slot, v) → (s.engine n).run = none → (s.barrier n).state = .up →
    r.upClosed = true → r.downClosed = false → r.gate = false → r.beyond = false → r.deck = false → r.code = .none →
    ((s.lane n).state = .passing → (s.lane n).bound = some ticket → v.lane = some n → (s.barrier n).order = .raise →
      (s.barrier n).tracking = .boundVisit → (s.barrier n).beyondSeen = true →
      ∃ t, exec (.laneStatusMessage n r) s = .next t ∧
        ((s.lane n).mode = .entry → v.state = .admitting →
          t.visit slot = some { v with
            state := .inYard, inYard := true, lane := none, stopMark := v.weighings.length } ∧
          t.vt.occupancy = s.vt.occupancy + 1 ∧ t.vt.completion = s.vt.completion ∧
          t.notices.isLatched .passed n.val = true) ∧
        ((s.lane n).mode = .internal → v.state = .reweighing →
          t.visit slot = some { v with state := .inYard, lane := none, stopMark := v.weighings.length } ∧
          t.vt.occupancy = s.vt.occupancy ∧ t.vt.completion = s.vt.completion ∧
          t.notices.isLatched .passed n.val = true) ∧
        ((s.lane n).mode = .exit → v.state = .cleared → slot ∉ s.vt.completion →
          t.visit slot = some { v with
            state := if v.voidMark then .void else .done, inYard := false, passedAt := some s.now
            lane := none, stopMark := v.weighings.length } ∧
          t.vt.occupancy = s.vt.occupancy - 1 ∧ t.vt.completion = s.vt.completion ++ [slot] ∧
          t.notices.isLatched .passed n.val = true) ∧
        OtherVisitsKept s t slot ∧ t.vehicles = s.vehicles ∧ t.permits = s.permits ∧
        (t.lane n).state = .releasing ∧ (t.lane n).bound = none ∧ (t.lane n).heldVisit = none ∧
        (t.lane n).passage = none ∧ (t.lane n).display = ⟨.welcome, 0⟩ ∧
        (t.barrier n).state = .up ∧ (t.barrier n).order = .lower ∧ (t.barrier n).tracking = .inactive ∧
        (t.barrier n).gateClear = some (s.frames .gateClear) ∧ (t.barrier n).image = some ⟨r, frame⟩ ∧
        OtherLanesKept s t n ∧ t.clock = s.clock ∧ t.loader = s.loader ∧ t.units = s.units) ∧
    (∀ prior, (s.lane n).state = .releasing → (s.lane n).heldVisit = some ticket →
      (s.barrier n).tracking = .heldVisit → (s.barrier n).beyondSeen = true →
      v.state = .held → v.prior = some prior →
      let kept (v : Visit) : Visit := { v with
        later := if v.reason = some .unattendedPassage ∨ HoldReason.unattendedPassage ∈ v.later then v.later
          else v.later ++ [.unattendedPassage]
        stopMark := v.weighings.length }
      ∃ t, exec (.laneStatusMessage n r) s = .next t ∧
        t = { s with
          vt := { s.vt with
            records := t.vt.records, occupancy := t.vt.occupancy, changes := withChange s.vt.changes slot }
          lanes := t.lanes, barriers := t.barriers, notices := t.notices
          loop := { s.loop with delivery := none } } ∧
        ((s.lane n).mode = .entry → t.vt.occupancy = s.vt.occupancy + 1 ∧
          t.visit slot = some (kept { v with
            inYard := true, prior := some (if prior = .admitting then .inYard else prior) })) ∧
        ((s.lane n).mode = .internal → t.vt.occupancy = s.vt.occupancy ∧
          t.visit slot = some (kept { v with prior := some (if prior = .reweighing then .inYard else prior) })) ∧
        ((s.lane n).mode = .exit → t.vt.occupancy = s.vt.occupancy - 1 ∧
          t.visit slot = some (kept { v with inYard := false, passedAt := some s.now })) ∧
        OtherVisitsKept s t slot ∧ t.notices.isLatched .passed n.val = true ∧
        t.lane n = { s.lane n with heldVisit := none } ∧ (t.barrier n).state = .up ∧
        (t.barrier n).order = (s.barrier n).order ∧ (t.barrier n).tracking = .inactive ∧
        (t.barrier n).beyondSeen = true ∧ (t.barrier n).image = some ⟨r, frame⟩ ∧ OtherLanesKept s t n)

/-- R75, R78, R79, R80, R83, R84: the LANE_STATUS of a lane in MAINTENANCE, with no capture running: the barrier judges
the image: its end of travel, its faults, the count of refused commands, obstruction reversal, and in UP with order
LOWER the gate-clear timer, which GATE occupied stops and GATE clear loads where it does not run. The order stands.
Where one image meets two of these rules the end of travel comes first, then a second refusal, then the obstruction:
that order is log 19's, not the spec's. -/
def Obligations.BarrierJudgesEachImage : Prop :=
  ∀ (s : State) (n : Fin 4) (r : LaneReport) (frame : Nat),
    s.rstLow = false → s.loop.delivery = some ⟨.laneStatusMessage n r, frame⟩ →
    (s.lane n).state = .maintenance → (s.engine n).run = none → (s.barrier n).tracking = .inactive → r.code = .none →
    ∃ t, exec (.laneStatusMessage n r) s = .next t ∧
      t = { s with loop := { s.loop with delivery := none }, barriers := t.barriers } ∧
      OtherLanesKept s t n ∧ (t.barrier n).image = some ⟨r, frame⟩ ∧ (t.barrier n).order = (s.barrier n).order ∧
      ((s.barrier n).state ≠ .fault → r.upClosed = true → r.downClosed = true → (t.barrier n).state = .fault) ∧
      ((s.barrier n).state = .raising → r.upClosed = true → r.downClosed = false →
        (t.barrier n).state = .up ∧ (t.barrier n).travel = none ∧
        ((s.barrier n).order = .lower →
          (t.barrier n).gateClear = if r.gate then none else some (s.frames .gateClear)) ∧
        ((s.barrier n).order = .raise → (t.barrier n).gateClear = (s.barrier n).gateClear)) ∧
      ((s.barrier n).state = .up → r.upClosed = true → r.downClosed = false →
        (t.barrier n).state = .up ∧
        ((s.barrier n).order = .lower → (t.barrier n).gateClear =
          if r.gate then none else some ((s.barrier n).gateClear.getD (s.frames .gateClear))) ∧
        ((s.barrier n).order = .raise → (t.barrier n).gateClear = (s.barrier n).gateClear)) ∧
      ((s.barrier n).state = .raising → r.upClosed = false → r.refused = false →
        (t.barrier n).state = .raising ∧ (t.barrier n).refusals = 0) ∧
      ((s.barrier n).state = .raising → r.upClosed = false → r.refused = true → (s.barrier n).refusals = 1 →
        (t.barrier n).state = .fault) ∧
      ((s.barrier n).state = .raising → r.upClosed = false → r.refused = true → (s.barrier n).refusals = 0 →
        (t.barrier n).state = .raising ∧ (t.barrier n).refusals = 1 ∧
        (t.barrier n).travel = (s.barrier n).travel) ∧
      ((s.barrier n).state = .lowering → r.downClosed = true → r.upClosed = false →
        (t.barrier n).state = .down ∧ (t.barrier n).travel = none) ∧
      ((s.barrier n).state = .lowering → r.downClosed = false → r.refused = true →
        ((s.barrier n).refusals = 1 → (t.barrier n).state = .fault) ∧
        ((s.barrier n).refusals = 0 → r.gate = false →
          (t.barrier n).state = .lowering ∧ (t.barrier n).refusals = 1 ∧
          (t.barrier n).travel = (s.barrier n).travel)) ∧
      ((s.barrier n).state = .lowering → r.downClosed = false → r.refused = false → r.gate = true →
        (t.barrier n).state = .raising ∧ (t.barrier n).travel = some (s.frames .travel)) ∧
      ((s.barrier n).state = .down → r.downClosed = false → (t.barrier n).state = .fault) ∧
      ((s.barrier n).state = .up → r.upClosed = false → (t.barrier n).state = .fault) ∧
      ((s.barrier n).state = .fault → (t.barrier n).state = .fault)

/-- R55, R56, R57: a TAG_READ: dropped, taken as a refresh of the newer entry, added, or overrun; at an IDLE ENTRY lane
whose buffer is empty it is tried at once, and here refused for a tag the register does not know. -/
def Obligations.TagReadIsBufferedOrTried : Prop :=
  ∀ (s : State) (n : Fin 4) (tag : Tag) (frame : Nat),
    let s' := { s with loop := { s.loop with delivery := none } }
    let c := Instr.tagRead n tag
    s.rstLow = false → s.loop.delivery = some ⟨c, frame⟩ →
    ((s.lane n).state = .closed ∨ (s.lane n).state = .maintenance ∨ (s.lane n).state = .fault ∨
        (s.lane n).autoTake = false ∨ (s.lane n).boundTag = some tag →
      exec c s = .next s') ∧
    ((s.lane n).state = .settling ∨ (s.lane n).state = .bound ∨ (s.lane n).state = .passing ∨
        (s.lane n).state = .releasing → (s.lane n).autoTake = true → (s.lane n).boundTag ≠ some tag →
      (∀ before e, (s.lane n).buffer = before ++ [e] → e.tag = tag → e.age < s.tagWindow →
        exec c s = .next (s'.setLane n { s.lane n with buffer := before ++ [⟨tag, frame, 0⟩] })) ∧
      ((∀ e, (s.lane n).buffer.getLast? = some e → e.tag ≠ tag ∨ s.tagWindow ≤ e.age) →
        ((s.lane n).buffer.length < 2 →
          exec c s = .next (s'.setLane n { s.lane n with buffer := (s.lane n).buffer ++ [⟨tag, frame, 0⟩] })) ∧
        (2 ≤ (s.lane n).buffer.length → exec c s = .next (s'.latch .tagOverrun n.val)))) ∧
    ((s.lane n).state = .idle → (s.lane n).mode = .entry → (s.lane n).autoTake = true →
      (s.lane n).boundTag ≠ some tag → (s.lane n).buffer = [] → (s.lane n).cycle = none → 0 < s.tagWindow →
      s.clock.isSet = true → s.vehicleByTag tag = none →
      exec c s = .next ((s'.setLane n { s.lane n with
        lastRefusal := some (.notFound, tag), display := ⟨.seeOffice, 0⟩ }).latch .admitRefused n.val))

/-- R56, R57: a try of a tag buffer, made as the cycle timer of an IDLE lane expires: entries as old as the tag window
are removed unused; the next is bound where its claim is granted, and consumed with its refusal written at the lane
where it is refused. Made as a lane enters IDLE with its cycle timer running: TOO_SOON, and the entry stays. R53, R57:
made as a lane enters IDLE while a CALL waits in the port: one of the two binds the lane, and whichever comes second is
refused with LANE_BUSY, the entry staying in the buffer; which comes first is a free value (logs 14, 31), and a CALL
that came first is answered in that step. -/
def Obligations.BuffersAreTried : Prop :=
  (∀ (s : State) (n : Fin 4) (old : List TagEntry), s.rstLow = false → (s.lane n).state = .idle →
    (s.lane n).cycle = some 0 → (s.lane n).autoTake = true → Stale s old →
    let left (rest : List TagEntry) := { s.lane n with cycle := none, buffer := rest }
    ((s.lane n).buffer = old → exec (.cycleTimerExpiry n) s = .next (s.setLane n (left []))) ∧
    (∀ e rest, (s.lane n).buffer = old ++ e :: rest → e.age < s.tagWindow →
      (∀ st, RefusesTag s n e.tag st → Stale s rest →
        exec (.cycleTimerExpiry n) s = .next ((s.setLane n { left [] with
          lastRefusal := some (st, e.tag), display := ⟨.seeOffice, 0⟩ }).latch .admitRefused n.val)) ∧
      (∀ ticket slot v, (s.lane n).mode = .internal → s.byTagInProgress e.tag = some (slot, v) → v.state = .inYard →
        v.ticket = some ticket → ∃ t, exec (.cycleTimerExpiry n) s = .next t ∧
          t = { s with
            vt := { s.vt with
              records := s.vt.records.put slot { v with
                state := .reweighing, lane := some n, bindMark := v.weighings.length }
              changes := withChange s.vt.changes slot }
            lanes := t.lanes, engines := t.engines, notices := t.notices } ∧
          Binds (s.setLane n (left rest)) t n ticket e.tag false ∧ OtherLanesKept s t n))) ∧
  (∀ (s : State) (n : Fin 4) (old : List TagEntry) (e : TagEntry) (rest : List TagEntry), s.rstLow = false →
    (s.lane n).state = .releasing → (s.lane n).recovery = some 0 → (s.barrier n).state = .down →
    (s.lane n).mode ≠ .closed → (s.lane n).autoTake = true → (s.lane n).buffer = old ++ e :: rest → Stale s old →
    e.age < s.tagWindow → s.port.handed = none → (∃ k, (s.lane n).cycle = some (k + 1)) →
    ∃ t, exec (.recoveryTimerExpiry n) s = .next t ∧ t = { s with lanes := t.lanes, barriers := t.barriers } ∧
      OtherLanesKept s t n ∧ t.lane n = { idleAgain (s.lane n) with buffer := e :: rest } ∧
      (t.barrier n).tracking = .inactive) ∧
  ∀ (s : State) (n : Fin 4) (e : TagEntry) (rest : List TagEntry) (code : Byte) (ticket slot ticket' slot' : Nat)
    (v w : Visit), s.rstLow = false → TablesCanonical s → s.loader.status ≠ .loading → s.restarting = false →
    (s.lane n).state = .releasing → (s.lane n).recovery = some 0 → (s.lane n).cycle = none →
    (s.barrier n).state = .down → (s.lane n).mode = .internal → (s.lane n).autoTake = true →
    (s.lane n).buffer = e :: rest → e.age < s.tagWindow →
    s.port.buffer = .pending code → s.port.handed = some (.call n.val ticket) → 1 ≤ ticket → ticket ≤ 99999999 →
    s.byTicket ticket = some (slot, v) → v.state = .inYard → s.byTagInProgress e.tag = some (slot', w) →
    w.state = .inYard → w.ticket = some ticket' → slot ≠ slot' →
    let bound (x : Visit) := { x with state := .reweighing, lane := some n, bindMark := x.weighings.length }
    let idle (buffer : List TagEntry) := s.setLane n { idleAgain (s.lane n) with buffer := buffer }
    ∃ t, exec (.recoveryTimerExpiry n) s = .next t ∧
      t = { s with
        free := s.free + 1, port := t.port
        vt := { s.vt with records := t.vt.records, changes := t.vt.changes }
        lanes := t.lanes, barriers := t.barriers, engines := t.engines, notices := t.notices } ∧
      OtherLanesKept s t n ∧
      ((t.port = s.port ∧ t.vt.records = s.vt.records.put slot' (bound w) ∧
          t.vt.changes = withChange s.vt.changes slot' ∧ Binds (idle rest) t n ticket' e.tag false) ∨
        (t.port = { s.port with buffer := .answer 21 .ok .empty } ∧
          t.vt.records = s.vt.records.put slot (bound v) ∧ t.vt.changes = withChange s.vt.changes slot ∧
          Binds (idle (e :: rest)) t n ticket v.tag false))

/-- R66, R79, R100, R158, R160: a UNIT_ALARM of a digitizer empties its deck; of a lane unit it holds the bound visit
and puts the lane in FAULT; of an ABSENT unit it is written in its record alone. -/
def Obligations.UnitAlarmFaultsTheField : Prop :=
  ∀ (s : State) (code : AlarmCode), s.rstLow = false → LevelsFollow s → TablesCanonical s →
    (∀ n : Fin 4, s.loop.delivery.map (·.step) = some (.unitAlarm (digitizer n) code) → (s.engine n).run = none →
      (s.unit (digitizer n)).state = .searching ∨ (s.unit (digitizer n)).state = .good ∨
        (s.unit (digitizer n)).state = .lost →
      ∃ t, exec (.unitAlarm (digitizer n) code) s = .next t ∧
        t = { s with loop := { s.loop with delivery := none }, units := t.units, decks := t.decks
                     notices := t.notices } ∧
        t.unit (digitizer n) = { s.unit (digitizer n) with
          state := .alarm, alarmCode := some code, alarmSeen := true, alarmFree := 0 } ∧
        t.deck n = { s.deck n with state := .noData, window := none, last := none, noData := 4 } ∧
        t.notices.isLatched .unitAlarm (digitizer n).val = true) ∧
    (∀ (n : Fin 4) ticket slot v, s.loop.delivery.map (·.step) = some (.unitAlarm (laneUnit n) code) →
      code = .supply ∨ code = .digitizer → (s.engine n).run = none →
      (s.unit (laneUnit n)).state = .searching ∨ (s.unit (laneUnit n)).state = .good →
      (s.lane n).state = .settling ∨ (s.lane n).state = .bound ∨ (s.lane n).state = .passing →
      (s.lane n).bound = some ticket → s.byTicket ticket = some (slot, v) → v.state ≠ .held →
      ∃ t, exec (.unitAlarm (laneUnit n) code) s = .next t ∧
        t.unit (laneUnit n) = { s.unit (laneUnit n) with
          state := .alarm, alarmCode := some code, alarmSeen := true, alarmFree := 0 } ∧
        t.visit slot = some { v with
          state := .held, prior := some v.state, reason := some .unitAlarm, later := [], lane := none } ∧
        OtherVisitsKept s t slot ∧ (t.lane n).state = .fault ∧ (t.lane n).bound = none ∧
        (t.barrier n).order = .lower ∧ OtherLanesKept s t n ∧
        t.notices.isLatched .unitAlarm n.val = true) ∧
    (∀ n : Fin 4, s.loop.delivery.map (·.step) = some (.unitAlarm (laneUnit n) code) →
      code = .barrierMotor ∨ code = .armOff → (s.engine n).run = none → (s.lane n).state = .idle →
      (s.lane n).bound = none → (s.barrier n).state ≠ .fault →
      ∃ t, exec (.unitAlarm (laneUnit n) code) s = .next t ∧ t.vt = s.vt ∧
        (t.unit (laneUnit n)).alarmCode = some code ∧ (t.barrier n).state = .fault ∧
        (t.barrier n).order = .lower ∧ (t.lane n).state = .fault ∧ OtherLanesKept s t n) ∧
    (∀ u : Fin 8, s.loop.delivery.map (·.step) = some (.unitAlarm u code) → (s.unit u).state = .absent →
      code = .supply ∨ code = .digitizer →
      ∃ t, exec (.unitAlarm u code) s = .next t ∧
        t = { s with loop := { s.loop with delivery := none }, units := t.units, notices := t.notices } ∧
        t.unit u = { s.unit u with alarmCode := some code, alarmSeen := true, alarmFree := 0 })

/-! ### Timers -/

/-- R56, R58, R60, R63, R78, R81, R84: the settle, cycle and recovery timers of a lane, and the travel and gate-clear
timers of its barrier. -/
def Obligations.LaneAndBarrierTimersAct : Prop :=
  ∀ (s : State) (n : Fin 4), s.rstLow = false →
    ((s.lane n).state = .settling → (s.lane n).settle = some 0 → (s.lane n).eligible = false →
      (s.lane n).pendingCapture = none → (s.lane n).autoCapture = false →
      exec (.settleTimerExpiry n) s =
        .next (s.setLane n { s.lane n with state := .bound, settle := none })) ∧
    (∀ ticket, (s.lane n).state = .settling → (s.lane n).settle = some 0 → (s.lane n).eligible = true →
      (s.lane n).bound = some ticket →
      ∃ t, exec (.settleTimerExpiry n) s = .next t ∧ t = { s with lanes := t.lanes, barriers := t.barriers } ∧
        OtherLanesKept s t n ∧
        t.lane n = { s.lane n with
          state := .passing, eligible := false, settle := none, passage := some (s.frames .passage)
          pendingCapture := none, display := ⟨if (s.lane n).mode = .exit then .ticket else .proceed, ticket⟩ } ∧
        (t.barrier n).order = .raise ∧ (t.barrier n).tracking = .boundVisit ∧ (t.barrier n).beyondSeen = false) ∧
    ((s.lane n).cycle = some 0 → (s.lane n).state ≠ .idle ∨ (s.lane n).autoTake = false ∨ (s.lane n).buffer = [] →
      exec (.cycleTimerExpiry n) s = .next (s.setLane n { s.lane n with cycle := none })) ∧
    ((s.lane n).recovery = some 0 → (s.lane n).state = .releasing → (s.lane n).buffer = [] →
      ((s.barrier n).state ≠ .down →
        exec (.recoveryTimerExpiry n) s = .next (s.setLane n { s.lane n with recovery := none })) ∧
      ((s.barrier n).state = .down → ∃ t, exec (.recoveryTimerExpiry n) s = .next t ∧
        t = { s with lanes := t.lanes, barriers := t.barriers } ∧ OtherLanesKept s t n ∧
        t.lane n = { s.lane n with
          heldVisit := none, boundTag := none, recovery := none
          state := if (s.lane n).mode = .closed then .closed else .idle
          display := if (s.lane n).mode = .closed then ⟨.closed, 0⟩ else ⟨.welcome, 0⟩ } ∧
        (t.barrier n).tracking = .inactive ∧ (t.barrier n).state = .down)) ∧
    ((s.barrier n).travel = some 0 → (s.barrier n).state = .raising ∨ (s.barrier n).state = .lowering →
      ((s.lane n).state = .closed ∨ (s.lane n).state = .maintenance ∨ (s.lane n).state = .fault →
        exec (.travelTimerExpiry n) s = .next (s.setBarrier n { s.barrier n with
          state := .fault, travel := none, travelAtStart := false, gateClear := none, abandon := none
          refusals := 0, tracking := .inactive })) ∧
      ((s.lane n).state = .idle → (s.lane n).bound = none → (s.engine n).run = none →
        ∃ t, exec (.travelTimerExpiry n) s = .next t ∧
          t = { s with lanes := t.lanes, barriers := t.barriers, notices := t.notices } ∧ OtherLanesKept s t n ∧
          (t.barrier n).state = .fault ∧ (t.barrier n).order = .lower ∧ (t.lane n).state = .fault)) ∧
    ((s.barrier n).gateClear = some 0 →
      exec (.gateClearTimerExpiry n) s = .next (s.setBarrier n { s.barrier n with
        state := .lowering, travel := some (s.frames .travel), travelAtStart := false, refusals := 0
        gateClear := none }))

/-- R58, R115: what follows the settle timer's expiry for a visit that is not eligible: the pending capture, or
automatic capture, starts for the bound visit, or fails at once on a deck in OVERLOAD or NO_DATA (R122; its last
outcome has no weight and no legal mark: log 22); with automatic capture a full list holds the visit with LIST_FULL
before the deck is judged, and on a deck that is not enabled the visit waits in BOUND. -/
def Obligations.SettlingEndsInACapture : Prop :=
  ∀ (s : State) (n : Fin 4) (ticket slot : Nat) (v : Visit), s.rstLow = false → (s.lane n).state = .settling →
    (s.lane n).settle = some 0 → (s.lane n).eligible = false → (s.lane n).bound = some ticket →
    s.byTicket ticket = some (slot, v) →
    let bound := { s.lane n with state := .bound, settle := none, pendingCapture := none }
    let itself := (s.lane n).pendingCapture = none ∧ (s.lane n).autoCapture = true
    let asked (b : Option Burst) := (s.lane n).pendingCapture = some ⟨b⟩ ∨
      (itself ∧ (s.deck n).params.isSome ∧ v.weighings.length < 6 ∧ b = none)
    (∀ b role, asked b → RoleOf v role →
      let c := captureStarted s n (.visit ticket role) b
      ((s.deck n).state ≠ .overload → (s.deck n).state ≠ .noData →
        exec (.settleTimerExpiry n) s =
          .next ((s.setLane n bound).setEngine n { s.engine n with run := some c })) ∧
      (∀ reason, ((s.deck n).state = .overload ∧ reason = .overload) ∨
          ((s.deck n).state = .noData ∧ reason = .noData) → (s.engine n).failures < 2 →
        ∃ t, exec (.settleTimerExpiry n) s = .next t ∧
          t = { s with lanes := t.lanes, engines := t.engines, notices := t.notices } ∧ OtherLanesKept s t n ∧
          CaptureFails (s.setLane n bound) t n c reason)) ∧
    (itself → (s.deck n).params = none → v.weighings.length < 6 →
      exec (.settleTimerExpiry n) s = .next (s.setLane n bound)) ∧
    (itself → 6 ≤ v.weighings.length → TablesCanonical s → v.lane = some n → v.state ≠ .held →
        0 < s.frames .recovery →
      ∃ t, exec (.settleTimerExpiry n) s = .next t ∧
        t = { s with
          vt := { s.vt with
            records := s.vt.records.put slot { v with
              state := .held, prior := some v.state, reason := some .listFull, later := [], lane := none }
            changes := withChange s.vt.changes slot }
          lanes := t.lanes, barriers := t.barriers, notices := t.notices } ∧
        Releases s t n ticket ∧ OtherLanesKept s t n)

/-- R85, R86: while a lane in PASSING watches for its visit, an image with BEYOND occupied sets the BEYOND-seen mark,
and the abandon timer runs exactly while the barrier is UP, the mark is clear and the image shows all four detectors
clear: it is loaded when that becomes true, also at the image that takes the barrier UP, and stops when it becomes
false. R88: a lane in RELEASING that watches for a held visit sets the mark in the same way. R62, R86, R87, R88:
PASSAGE_TIMEOUT and ABANDON_TIMER_EXPIRY end PASSING: the visit is held, and the lane releases with it as its held
visit. -/
def Obligations.PassingEndsWithTheVisitHeld : Prop :=
  (∀ (s : State) (n : Fin 4) (r : LaneReport) (frame : Nat), s.rstLow = false →
    s.loop.delivery = some ⟨.laneStatusMessage n r, frame⟩ → (s.engine n).run = none → r.upClosed = true →
    r.downClosed = false → r.code = .none →
    let s' := { s with loop := { s.loop with delivery := none } }
    let seen := (s.barrier n).beyondSeen || r.beyond
    let waits := !seen && !r.approach && !r.deck && !r.gate
    ((s.lane n).state = .passing → (s.barrier n).tracking = .boundVisit → (s.barrier n).order = .raise →
      ¬ (seen = true ∧ r.gate = false ∧ r.beyond = false ∧ r.deck = false) →
      ((s.barrier n).state = .up → exec (.laneStatusMessage n r) s = .next (s'.setBarrier n { s.barrier n with
        image := some ⟨r, frame⟩, beyondSeen := seen
        abandon := if waits then some ((s.barrier n).abandon.getD (s.frames .abandon)) else none })) ∧
      ((s.barrier n).state = .raising → ∃ t, exec (.laneStatusMessage n r) s = .next t ∧
        t = { s' with barriers := t.barriers } ∧ OtherLanesKept s t n ∧ (t.barrier n).state = .up ∧
        (t.barrier n).travel = none ∧ (t.barrier n).beyondSeen = seen ∧ (t.barrier n).tracking = .boundVisit ∧
        (t.barrier n).abandon =
          if waits then some ((s.barrier n).abandon.getD (s.frames .abandon)) else none)) ∧
    ((s.lane n).state = .releasing → (s.barrier n).tracking = .heldVisit → (s.barrier n).state = .up →
      r.beyond = true → ∃ t, exec (.laneStatusMessage n r) s = .next t ∧
        t = { s' with barriers := t.barriers } ∧ OtherLanesKept s t n ∧ (t.barrier n).state = .up ∧
        (t.barrier n).beyondSeen = true ∧ (t.barrier n).tracking = .heldVisit ∧ (t.barrier n).abandon = none)) ∧
  ∀ (s : State) (n : Fin 4) (ticket slot : Nat) (v : Visit) (c : Instr) (reason : HoldReason),
    s.rstLow = false → TablesCanonical s → (s.lane n).state = .passing → (s.lane n).bound = some ticket →
    s.byTicket ticket = some (slot, v) → v.lane = some n → v.state ≠ .held → 0 < s.frames .recovery →
    ((c = .passageTimeout n ∧ (s.lane n).passage = some 0 ∧ reason = .passageTimeout) ∨
      (c = .abandonTimerExpiry n ∧ (s.barrier n).abandon = some 0 ∧ reason = .abandoned)) →
    ∃ t, exec c s = .next t ∧
      t.visit slot = some { v with
        state := .held, prior := some v.state, reason := some reason, later := [], lane := none } ∧
      OtherVisitsKept s t slot ∧ t.vt.changes = withChange s.vt.changes slot ∧
      t.vt.occupancy = s.vt.occupancy ∧ t.vt.completion = s.vt.completion ∧ t.vehicles = s.vehicles ∧
      t.permits = s.permits ∧
      t.lane n = { s.lane n with
        bound := none, eligible := false, settle := none, passage := none, pendingCapture := none
        state := .releasing, heldVisit := some ticket, recovery := some (s.frames .recovery)
        display := ⟨.seeOffice, ticket⟩ } ∧
      (t.barrier n).order = .lower ∧ (t.barrier n).tracking = .heldVisit ∧
      (t.barrier n).beyondSeen = (s.barrier n).beyondSeen ∧ (t.barrier n).abandon = none ∧
      t.engines = s.engines ∧ OtherLanesKept s t n ∧ FieldKept s t ∧
      t.notices.isLatched .visitHeld n.val = true
end

