-- ==== Sys2Proof/Laws/State.lean ====
section
/-! SUPPORT. What each state update leaves alone and what it writes, one lemma per field, so that no proof unfolds a
record update. -/

namespace Sys2Proof.Machine.State

/-! ### setLane -/

@[simp] theorem setLane_pending (s : State) (n : Fin 4) (x : Lane) : (s.setLane n x).pending = s.pending := rfl
@[simp] theorem setLane_free (s : State) (n : Fin 4) (x : Lane) : (s.setLane n x).free = s.free := rfl
@[simp] theorem setLane_rstLow (s : State) (n : Fin 4) (x : Lane) : (s.setLane n x).rstLow = s.rstLow := rfl
@[simp] theorem setLane_restarting (s : State) (n : Fin 4) (x : Lane) : (s.setLane n x).restarting = s.restarting := rfl
@[simp] theorem setLane_calEn (s : State) (n : Fin 4) (x : Lane) : (s.setLane n x).calEn = s.calEn := rfl
@[simp] theorem setLane_vt (s : State) (n : Fin 4) (x : Lane) : (s.setLane n x).vt = s.vt := rfl
@[simp] theorem setLane_vehicles (s : State) (n : Fin 4) (x : Lane) : (s.setLane n x).vehicles = s.vehicles := rfl
@[simp] theorem setLane_permits (s : State) (n : Fin 4) (x : Lane) : (s.setLane n x).permits = s.permits := rfl
@[simp] theorem setLane_barriers (s : State) (n : Fin 4) (x : Lane) : (s.setLane n x).barriers = s.barriers := rfl
@[simp] theorem setLane_decks (s : State) (n : Fin 4) (x : Lane) : (s.setLane n x).decks = s.decks := rfl
@[simp] theorem setLane_engines (s : State) (n : Fin 4) (x : Lane) : (s.setLane n x).engines = s.engines := rfl
@[simp] theorem setLane_loop (s : State) (n : Fin 4) (x : Lane) : (s.setLane n x).loop = s.loop := rfl
@[simp] theorem setLane_units (s : State) (n : Fin 4) (x : Lane) : (s.setLane n x).units = s.units := rfl
@[simp] theorem setLane_loader (s : State) (n : Fin 4) (x : Lane) : (s.setLane n x).loader = s.loader := rfl
@[simp] theorem setLane_clock (s : State) (n : Fin 4) (x : Lane) : (s.setLane n x).clock = s.clock := rfl
@[simp] theorem setLane_port (s : State) (n : Fin 4) (x : Lane) : (s.setLane n x).port = s.port := rfl
@[simp] theorem setLane_notices (s : State) (n : Fin 4) (x : Lane) : (s.setLane n x).notices = s.notices := rfl

/-! ### setBarrier -/

@[simp] theorem setBarrier_pending (s : State) (n : Fin 4) (x : Barrier) : (s.setBarrier n x).pending = s.pending := rfl
@[simp] theorem setBarrier_free (s : State) (n : Fin 4) (x : Barrier) : (s.setBarrier n x).free = s.free := rfl
@[simp] theorem setBarrier_rstLow (s : State) (n : Fin 4) (x : Barrier) : (s.setBarrier n x).rstLow = s.rstLow := rfl
@[simp] theorem setBarrier_restarting (s : State) (n : Fin 4) (x : Barrier) : (s.setBarrier n x).restarting = s.restarting := rfl
@[simp] theorem setBarrier_calEn (s : State) (n : Fin 4) (x : Barrier) : (s.setBarrier n x).calEn = s.calEn := rfl
@[simp] theorem setBarrier_vt (s : State) (n : Fin 4) (x : Barrier) : (s.setBarrier n x).vt = s.vt := rfl
@[simp] theorem setBarrier_vehicles (s : State) (n : Fin 4) (x : Barrier) : (s.setBarrier n x).vehicles = s.vehicles := rfl
@[simp] theorem setBarrier_permits (s : State) (n : Fin 4) (x : Barrier) : (s.setBarrier n x).permits = s.permits := rfl
@[simp] theorem setBarrier_lanes (s : State) (n : Fin 4) (x : Barrier) : (s.setBarrier n x).lanes = s.lanes := rfl
@[simp] theorem setBarrier_decks (s : State) (n : Fin 4) (x : Barrier) : (s.setBarrier n x).decks = s.decks := rfl
@[simp] theorem setBarrier_engines (s : State) (n : Fin 4) (x : Barrier) : (s.setBarrier n x).engines = s.engines := rfl
@[simp] theorem setBarrier_loop (s : State) (n : Fin 4) (x : Barrier) : (s.setBarrier n x).loop = s.loop := rfl
@[simp] theorem setBarrier_units (s : State) (n : Fin 4) (x : Barrier) : (s.setBarrier n x).units = s.units := rfl
@[simp] theorem setBarrier_loader (s : State) (n : Fin 4) (x : Barrier) : (s.setBarrier n x).loader = s.loader := rfl
@[simp] theorem setBarrier_clock (s : State) (n : Fin 4) (x : Barrier) : (s.setBarrier n x).clock = s.clock := rfl
@[simp] theorem setBarrier_port (s : State) (n : Fin 4) (x : Barrier) : (s.setBarrier n x).port = s.port := rfl
@[simp] theorem setBarrier_notices (s : State) (n : Fin 4) (x : Barrier) : (s.setBarrier n x).notices = s.notices := rfl

/-! ### setDeck -/

@[simp] theorem setDeck_pending (s : State) (n : Fin 4) (x : Deck) : (s.setDeck n x).pending = s.pending := rfl
@[simp] theorem setDeck_free (s : State) (n : Fin 4) (x : Deck) : (s.setDeck n x).free = s.free := rfl
@[simp] theorem setDeck_rstLow (s : State) (n : Fin 4) (x : Deck) : (s.setDeck n x).rstLow = s.rstLow := rfl
@[simp] theorem setDeck_restarting (s : State) (n : Fin 4) (x : Deck) : (s.setDeck n x).restarting = s.restarting := rfl
@[simp] theorem setDeck_calEn (s : State) (n : Fin 4) (x : Deck) : (s.setDeck n x).calEn = s.calEn := rfl
@[simp] theorem setDeck_vt (s : State) (n : Fin 4) (x : Deck) : (s.setDeck n x).vt = s.vt := rfl
@[simp] theorem setDeck_vehicles (s : State) (n : Fin 4) (x : Deck) : (s.setDeck n x).vehicles = s.vehicles := rfl
@[simp] theorem setDeck_permits (s : State) (n : Fin 4) (x : Deck) : (s.setDeck n x).permits = s.permits := rfl
@[simp] theorem setDeck_lanes (s : State) (n : Fin 4) (x : Deck) : (s.setDeck n x).lanes = s.lanes := rfl
@[simp] theorem setDeck_barriers (s : State) (n : Fin 4) (x : Deck) : (s.setDeck n x).barriers = s.barriers := rfl
@[simp] theorem setDeck_engines (s : State) (n : Fin 4) (x : Deck) : (s.setDeck n x).engines = s.engines := rfl
@[simp] theorem setDeck_loop (s : State) (n : Fin 4) (x : Deck) : (s.setDeck n x).loop = s.loop := rfl
@[simp] theorem setDeck_units (s : State) (n : Fin 4) (x : Deck) : (s.setDeck n x).units = s.units := rfl
@[simp] theorem setDeck_loader (s : State) (n : Fin 4) (x : Deck) : (s.setDeck n x).loader = s.loader := rfl
@[simp] theorem setDeck_clock (s : State) (n : Fin 4) (x : Deck) : (s.setDeck n x).clock = s.clock := rfl
@[simp] theorem setDeck_port (s : State) (n : Fin 4) (x : Deck) : (s.setDeck n x).port = s.port := rfl
@[simp] theorem setDeck_notices (s : State) (n : Fin 4) (x : Deck) : (s.setDeck n x).notices = s.notices := rfl

/-! ### setEngine -/

@[simp] theorem setEngine_pending (s : State) (n : Fin 4) (x : Engine) : (s.setEngine n x).pending = s.pending := rfl
@[simp] theorem setEngine_free (s : State) (n : Fin 4) (x : Engine) : (s.setEngine n x).free = s.free := rfl
@[simp] theorem setEngine_rstLow (s : State) (n : Fin 4) (x : Engine) : (s.setEngine n x).rstLow = s.rstLow := rfl
@[simp] theorem setEngine_restarting (s : State) (n : Fin 4) (x : Engine) : (s.setEngine n x).restarting = s.restarting := rfl
@[simp] theorem setEngine_calEn (s : State) (n : Fin 4) (x : Engine) : (s.setEngine n x).calEn = s.calEn := rfl
@[simp] theorem setEngine_vt (s : State) (n : Fin 4) (x : Engine) : (s.setEngine n x).vt = s.vt := rfl
@[simp] theorem setEngine_vehicles (s : State) (n : Fin 4) (x : Engine) : (s.setEngine n x).vehicles = s.vehicles := rfl
@[simp] theorem setEngine_permits (s : State) (n : Fin 4) (x : Engine) : (s.setEngine n x).permits = s.permits := rfl
@[simp] theorem setEngine_lanes (s : State) (n : Fin 4) (x : Engine) : (s.setEngine n x).lanes = s.lanes := rfl
@[simp] theorem setEngine_barriers (s : State) (n : Fin 4) (x : Engine) : (s.setEngine n x).barriers = s.barriers := rfl
@[simp] theorem setEngine_decks (s : State) (n : Fin 4) (x : Engine) : (s.setEngine n x).decks = s.decks := rfl
@[simp] theorem setEngine_loop (s : State) (n : Fin 4) (x : Engine) : (s.setEngine n x).loop = s.loop := rfl
@[simp] theorem setEngine_units (s : State) (n : Fin 4) (x : Engine) : (s.setEngine n x).units = s.units := rfl
@[simp] theorem setEngine_loader (s : State) (n : Fin 4) (x : Engine) : (s.setEngine n x).loader = s.loader := rfl
@[simp] theorem setEngine_clock (s : State) (n : Fin 4) (x : Engine) : (s.setEngine n x).clock = s.clock := rfl
@[simp] theorem setEngine_port (s : State) (n : Fin 4) (x : Engine) : (s.setEngine n x).port = s.port := rfl
@[simp] theorem setEngine_notices (s : State) (n : Fin 4) (x : Engine) : (s.setEngine n x).notices = s.notices := rfl

/-! ### setUnit -/

@[simp] theorem setUnit_pending (s : State) (u : Fin 8) (x : UnitRec) : (s.setUnit u x).pending = s.pending := rfl
@[simp] theorem setUnit_free (s : State) (u : Fin 8) (x : UnitRec) : (s.setUnit u x).free = s.free := rfl
@[simp] theorem setUnit_rstLow (s : State) (u : Fin 8) (x : UnitRec) : (s.setUnit u x).rstLow = s.rstLow := rfl
@[simp] theorem setUnit_restarting (s : State) (u : Fin 8) (x : UnitRec) : (s.setUnit u x).restarting = s.restarting := rfl
@[simp] theorem setUnit_calEn (s : State) (u : Fin 8) (x : UnitRec) : (s.setUnit u x).calEn = s.calEn := rfl
@[simp] theorem setUnit_vt (s : State) (u : Fin 8) (x : UnitRec) : (s.setUnit u x).vt = s.vt := rfl
@[simp] theorem setUnit_vehicles (s : State) (u : Fin 8) (x : UnitRec) : (s.setUnit u x).vehicles = s.vehicles := rfl
@[simp] theorem setUnit_permits (s : State) (u : Fin 8) (x : UnitRec) : (s.setUnit u x).permits = s.permits := rfl
@[simp] theorem setUnit_lanes (s : State) (u : Fin 8) (x : UnitRec) : (s.setUnit u x).lanes = s.lanes := rfl
@[simp] theorem setUnit_barriers (s : State) (u : Fin 8) (x : UnitRec) : (s.setUnit u x).barriers = s.barriers := rfl
@[simp] theorem setUnit_decks (s : State) (u : Fin 8) (x : UnitRec) : (s.setUnit u x).decks = s.decks := rfl
@[simp] theorem setUnit_engines (s : State) (u : Fin 8) (x : UnitRec) : (s.setUnit u x).engines = s.engines := rfl
@[simp] theorem setUnit_loop (s : State) (u : Fin 8) (x : UnitRec) : (s.setUnit u x).loop = s.loop := rfl
@[simp] theorem setUnit_loader (s : State) (u : Fin 8) (x : UnitRec) : (s.setUnit u x).loader = s.loader := rfl
@[simp] theorem setUnit_clock (s : State) (u : Fin 8) (x : UnitRec) : (s.setUnit u x).clock = s.clock := rfl
@[simp] theorem setUnit_port (s : State) (u : Fin 8) (x : UnitRec) : (s.setUnit u x).port = s.port := rfl
@[simp] theorem setUnit_notices (s : State) (u : Fin 8) (x : UnitRec) : (s.setUnit u x).notices = s.notices := rfl

/-! ### setVisit -/

@[simp] theorem setVisit_pending (s : State) (k : Nat) (x : Visit) : (s.setVisit k x).pending = s.pending := rfl
@[simp] theorem setVisit_free (s : State) (k : Nat) (x : Visit) : (s.setVisit k x).free = s.free := rfl
@[simp] theorem setVisit_rstLow (s : State) (k : Nat) (x : Visit) : (s.setVisit k x).rstLow = s.rstLow := rfl
@[simp] theorem setVisit_restarting (s : State) (k : Nat) (x : Visit) : (s.setVisit k x).restarting = s.restarting := rfl
@[simp] theorem setVisit_calEn (s : State) (k : Nat) (x : Visit) : (s.setVisit k x).calEn = s.calEn := rfl
@[simp] theorem setVisit_vehicles (s : State) (k : Nat) (x : Visit) : (s.setVisit k x).vehicles = s.vehicles := rfl
@[simp] theorem setVisit_permits (s : State) (k : Nat) (x : Visit) : (s.setVisit k x).permits = s.permits := rfl
@[simp] theorem setVisit_lanes (s : State) (k : Nat) (x : Visit) : (s.setVisit k x).lanes = s.lanes := rfl
@[simp] theorem setVisit_barriers (s : State) (k : Nat) (x : Visit) : (s.setVisit k x).barriers = s.barriers := rfl
@[simp] theorem setVisit_decks (s : State) (k : Nat) (x : Visit) : (s.setVisit k x).decks = s.decks := rfl
@[simp] theorem setVisit_engines (s : State) (k : Nat) (x : Visit) : (s.setVisit k x).engines = s.engines := rfl
@[simp] theorem setVisit_loop (s : State) (k : Nat) (x : Visit) : (s.setVisit k x).loop = s.loop := rfl
@[simp] theorem setVisit_units (s : State) (k : Nat) (x : Visit) : (s.setVisit k x).units = s.units := rfl
@[simp] theorem setVisit_loader (s : State) (k : Nat) (x : Visit) : (s.setVisit k x).loader = s.loader := rfl
@[simp] theorem setVisit_clock (s : State) (k : Nat) (x : Visit) : (s.setVisit k x).clock = s.clock := rfl
@[simp] theorem setVisit_port (s : State) (k : Nat) (x : Visit) : (s.setVisit k x).port = s.port := rfl
@[simp] theorem setVisit_notices (s : State) (k : Nat) (x : Visit) : (s.setVisit k x).notices = s.notices := rfl

/-! ### latch -/

@[simp] theorem latch_pending (s : State) (src : Source) (bit : Nat) : (s.latch src bit).pending = s.pending := rfl
@[simp] theorem latch_free (s : State) (src : Source) (bit : Nat) : (s.latch src bit).free = s.free := rfl
@[simp] theorem latch_rstLow (s : State) (src : Source) (bit : Nat) : (s.latch src bit).rstLow = s.rstLow := rfl
@[simp] theorem latch_restarting (s : State) (src : Source) (bit : Nat) : (s.latch src bit).restarting = s.restarting := rfl
@[simp] theorem latch_calEn (s : State) (src : Source) (bit : Nat) : (s.latch src bit).calEn = s.calEn := rfl
@[simp] theorem latch_vt (s : State) (src : Source) (bit : Nat) : (s.latch src bit).vt = s.vt := rfl
@[simp] theorem latch_vehicles (s : State) (src : Source) (bit : Nat) : (s.latch src bit).vehicles = s.vehicles := rfl
@[simp] theorem latch_permits (s : State) (src : Source) (bit : Nat) : (s.latch src bit).permits = s.permits := rfl
@[simp] theorem latch_lanes (s : State) (src : Source) (bit : Nat) : (s.latch src bit).lanes = s.lanes := rfl
@[simp] theorem latch_barriers (s : State) (src : Source) (bit : Nat) : (s.latch src bit).barriers = s.barriers := rfl
@[simp] theorem latch_decks (s : State) (src : Source) (bit : Nat) : (s.latch src bit).decks = s.decks := rfl
@[simp] theorem latch_engines (s : State) (src : Source) (bit : Nat) : (s.latch src bit).engines = s.engines := rfl
@[simp] theorem latch_loop (s : State) (src : Source) (bit : Nat) : (s.latch src bit).loop = s.loop := rfl
@[simp] theorem latch_units (s : State) (src : Source) (bit : Nat) : (s.latch src bit).units = s.units := rfl
@[simp] theorem latch_loader (s : State) (src : Source) (bit : Nat) : (s.latch src bit).loader = s.loader := rfl
@[simp] theorem latch_clock (s : State) (src : Source) (bit : Nat) : (s.latch src bit).clock = s.clock := rfl
@[simp] theorem latch_port (s : State) (src : Source) (bit : Nat) : (s.latch src bit).port = s.port := rfl

/-! ### followLevels -/

@[simp] theorem followLevels_pending (s : State) : (s.followLevels).pending = s.pending := by simp only [followLevels]
@[simp] theorem followLevels_free (s : State) : (s.followLevels).free = s.free := by simp only [followLevels]
@[simp] theorem followLevels_rstLow (s : State) : (s.followLevels).rstLow = s.rstLow := by simp only [followLevels]
@[simp] theorem followLevels_restarting (s : State) : (s.followLevels).restarting = s.restarting := by simp only [followLevels]
@[simp] theorem followLevels_calEn (s : State) : (s.followLevels).calEn = s.calEn := by simp only [followLevels]
@[simp] theorem followLevels_vt (s : State) : (s.followLevels).vt = s.vt := by simp only [followLevels]
@[simp] theorem followLevels_vehicles (s : State) : (s.followLevels).vehicles = s.vehicles := by simp only [followLevels]
@[simp] theorem followLevels_permits (s : State) : (s.followLevels).permits = s.permits := by simp only [followLevels]
@[simp] theorem followLevels_lanes (s : State) : (s.followLevels).lanes = s.lanes := by simp only [followLevels]
@[simp] theorem followLevels_barriers (s : State) : (s.followLevels).barriers = s.barriers := by simp only [followLevels]
@[simp] theorem followLevels_decks (s : State) : (s.followLevels).decks = s.decks := by simp only [followLevels]
@[simp] theorem followLevels_engines (s : State) : (s.followLevels).engines = s.engines := by simp only [followLevels]
@[simp] theorem followLevels_loop (s : State) : (s.followLevels).loop = s.loop := by simp only [followLevels]
@[simp] theorem followLevels_units (s : State) : (s.followLevels).units = s.units := by simp only [followLevels]
@[simp] theorem followLevels_loader (s : State) : (s.followLevels).loader = s.loader := by simp only [followLevels]
@[simp] theorem followLevels_clock (s : State) : (s.followLevels).clock = s.clock := by simp only [followLevels]
@[simp] theorem followLevels_port (s : State) : (s.followLevels).port = s.port := by simp only [followLevels]

/-! ### addOccupancy -/

@[simp] theorem addOccupancy_pending (s : State) (d : Int) : (s.addOccupancy d).pending = s.pending := rfl
@[simp] theorem addOccupancy_free (s : State) (d : Int) : (s.addOccupancy d).free = s.free := rfl
@[simp] theorem addOccupancy_rstLow (s : State) (d : Int) : (s.addOccupancy d).rstLow = s.rstLow := rfl
@[simp] theorem addOccupancy_restarting (s : State) (d : Int) : (s.addOccupancy d).restarting = s.restarting := rfl
@[simp] theorem addOccupancy_calEn (s : State) (d : Int) : (s.addOccupancy d).calEn = s.calEn := rfl
@[simp] theorem addOccupancy_vehicles (s : State) (d : Int) : (s.addOccupancy d).vehicles = s.vehicles := rfl
@[simp] theorem addOccupancy_permits (s : State) (d : Int) : (s.addOccupancy d).permits = s.permits := rfl
@[simp] theorem addOccupancy_lanes (s : State) (d : Int) : (s.addOccupancy d).lanes = s.lanes := rfl
@[simp] theorem addOccupancy_barriers (s : State) (d : Int) : (s.addOccupancy d).barriers = s.barriers := rfl
@[simp] theorem addOccupancy_decks (s : State) (d : Int) : (s.addOccupancy d).decks = s.decks := rfl
@[simp] theorem addOccupancy_engines (s : State) (d : Int) : (s.addOccupancy d).engines = s.engines := rfl
@[simp] theorem addOccupancy_loop (s : State) (d : Int) : (s.addOccupancy d).loop = s.loop := rfl
@[simp] theorem addOccupancy_units (s : State) (d : Int) : (s.addOccupancy d).units = s.units := rfl
@[simp] theorem addOccupancy_loader (s : State) (d : Int) : (s.addOccupancy d).loader = s.loader := rfl
@[simp] theorem addOccupancy_clock (s : State) (d : Int) : (s.addOccupancy d).clock = s.clock := rfl
@[simp] theorem addOccupancy_port (s : State) (d : Int) : (s.addOccupancy d).port = s.port := rfl
@[simp] theorem addOccupancy_notices (s : State) (d : Int) : (s.addOccupancy d).notices = s.notices := rfl

/-! ### answer -/

@[simp] theorem answer_pending (s : State) (c : Byte) (st : Status) (a : Answer) : (s.answer c st a).pending = s.pending := rfl
@[simp] theorem answer_free (s : State) (c : Byte) (st : Status) (a : Answer) : (s.answer c st a).free = s.free := rfl
@[simp] theorem answer_rstLow (s : State) (c : Byte) (st : Status) (a : Answer) : (s.answer c st a).rstLow = s.rstLow := rfl
@[simp] theorem answer_restarting (s : State) (c : Byte) (st : Status) (a : Answer) : (s.answer c st a).restarting = s.restarting := rfl
@[simp] theorem answer_calEn (s : State) (c : Byte) (st : Status) (a : Answer) : (s.answer c st a).calEn = s.calEn := rfl
@[simp] theorem answer_vt (s : State) (c : Byte) (st : Status) (a : Answer) : (s.answer c st a).vt = s.vt := rfl
@[simp] theorem answer_vehicles (s : State) (c : Byte) (st : Status) (a : Answer) : (s.answer c st a).vehicles = s.vehicles := rfl
@[simp] theorem answer_permits (s : State) (c : Byte) (st : Status) (a : Answer) : (s.answer c st a).permits = s.permits := rfl
@[simp] theorem answer_lanes (s : State) (c : Byte) (st : Status) (a : Answer) : (s.answer c st a).lanes = s.lanes := rfl
@[simp] theorem answer_barriers (s : State) (c : Byte) (st : Status) (a : Answer) : (s.answer c st a).barriers = s.barriers := rfl
@[simp] theorem answer_decks (s : State) (c : Byte) (st : Status) (a : Answer) : (s.answer c st a).decks = s.decks := rfl
@[simp] theorem answer_engines (s : State) (c : Byte) (st : Status) (a : Answer) : (s.answer c st a).engines = s.engines := rfl
@[simp] theorem answer_loop (s : State) (c : Byte) (st : Status) (a : Answer) : (s.answer c st a).loop = s.loop := rfl
@[simp] theorem answer_units (s : State) (c : Byte) (st : Status) (a : Answer) : (s.answer c st a).units = s.units := rfl
@[simp] theorem answer_loader (s : State) (c : Byte) (st : Status) (a : Answer) : (s.answer c st a).loader = s.loader := rfl
@[simp] theorem answer_clock (s : State) (c : Byte) (st : Status) (a : Answer) : (s.answer c st a).clock = s.clock := rfl
@[simp] theorem answer_notices (s : State) (c : Byte) (st : Status) (a : Answer) : (s.answer c st a).notices = s.notices := rfl

/-! ### portBusy -/

@[simp] theorem portBusy_pending (s : State) (c : Byte) : (s.portBusy c).pending = s.pending := rfl
@[simp] theorem portBusy_free (s : State) (c : Byte) : (s.portBusy c).free = s.free := rfl
@[simp] theorem portBusy_rstLow (s : State) (c : Byte) : (s.portBusy c).rstLow = s.rstLow := rfl
@[simp] theorem portBusy_restarting (s : State) (c : Byte) : (s.portBusy c).restarting = s.restarting := rfl
@[simp] theorem portBusy_calEn (s : State) (c : Byte) : (s.portBusy c).calEn = s.calEn := rfl
@[simp] theorem portBusy_vt (s : State) (c : Byte) : (s.portBusy c).vt = s.vt := rfl
@[simp] theorem portBusy_vehicles (s : State) (c : Byte) : (s.portBusy c).vehicles = s.vehicles := rfl
@[simp] theorem portBusy_permits (s : State) (c : Byte) : (s.portBusy c).permits = s.permits := rfl
@[simp] theorem portBusy_lanes (s : State) (c : Byte) : (s.portBusy c).lanes = s.lanes := rfl
@[simp] theorem portBusy_barriers (s : State) (c : Byte) : (s.portBusy c).barriers = s.barriers := rfl
@[simp] theorem portBusy_decks (s : State) (c : Byte) : (s.portBusy c).decks = s.decks := rfl
@[simp] theorem portBusy_engines (s : State) (c : Byte) : (s.portBusy c).engines = s.engines := rfl
@[simp] theorem portBusy_loop (s : State) (c : Byte) : (s.portBusy c).loop = s.loop := rfl
@[simp] theorem portBusy_units (s : State) (c : Byte) : (s.portBusy c).units = s.units := rfl
@[simp] theorem portBusy_loader (s : State) (c : Byte) : (s.portBusy c).loader = s.loader := rfl
@[simp] theorem portBusy_clock (s : State) (c : Byte) : (s.portBusy c).clock = s.clock := rfl
@[simp] theorem portBusy_notices (s : State) (c : Byte) : (s.portBusy c).notices = s.notices := rfl

/-! ### transmit -/

@[simp] theorem transmit_pending (s : State) (k : Nat) (bs : List Byte) : (s.transmit k bs).pending = s.pending := rfl
@[simp] theorem transmit_free (s : State) (k : Nat) (bs : List Byte) : (s.transmit k bs).free = s.free := rfl
@[simp] theorem transmit_rstLow (s : State) (k : Nat) (bs : List Byte) : (s.transmit k bs).rstLow = s.rstLow := rfl
@[simp] theorem transmit_restarting (s : State) (k : Nat) (bs : List Byte) : (s.transmit k bs).restarting = s.restarting := rfl
@[simp] theorem transmit_calEn (s : State) (k : Nat) (bs : List Byte) : (s.transmit k bs).calEn = s.calEn := rfl
@[simp] theorem transmit_vt (s : State) (k : Nat) (bs : List Byte) : (s.transmit k bs).vt = s.vt := rfl
@[simp] theorem transmit_vehicles (s : State) (k : Nat) (bs : List Byte) : (s.transmit k bs).vehicles = s.vehicles := rfl
@[simp] theorem transmit_permits (s : State) (k : Nat) (bs : List Byte) : (s.transmit k bs).permits = s.permits := rfl
@[simp] theorem transmit_lanes (s : State) (k : Nat) (bs : List Byte) : (s.transmit k bs).lanes = s.lanes := rfl
@[simp] theorem transmit_barriers (s : State) (k : Nat) (bs : List Byte) : (s.transmit k bs).barriers = s.barriers := rfl
@[simp] theorem transmit_decks (s : State) (k : Nat) (bs : List Byte) : (s.transmit k bs).decks = s.decks := rfl
@[simp] theorem transmit_engines (s : State) (k : Nat) (bs : List Byte) : (s.transmit k bs).engines = s.engines := rfl
@[simp] theorem transmit_units (s : State) (k : Nat) (bs : List Byte) : (s.transmit k bs).units = s.units := rfl
@[simp] theorem transmit_loader (s : State) (k : Nat) (bs : List Byte) : (s.transmit k bs).loader = s.loader := rfl
@[simp] theorem transmit_clock (s : State) (k : Nat) (bs : List Byte) : (s.transmit k bs).clock = s.clock := rfl
@[simp] theorem transmit_port (s : State) (k : Nat) (bs : List Byte) : (s.transmit k bs).port = s.port := rfl
@[simp] theorem transmit_notices (s : State) (k : Nat) (bs : List Byte) : (s.transmit k bs).notices = s.notices := rfl

/-! ### setWorking -/

@[simp] theorem setWorking_pending (s : State) (k : Nat) (st : SlotStatus) : (s.setWorking k st).pending = s.pending := rfl
@[simp] theorem setWorking_free (s : State) (k : Nat) (st : SlotStatus) : (s.setWorking k st).free = s.free := rfl
@[simp] theorem setWorking_rstLow (s : State) (k : Nat) (st : SlotStatus) : (s.setWorking k st).rstLow = s.rstLow := rfl
@[simp] theorem setWorking_restarting (s : State) (k : Nat) (st : SlotStatus) : (s.setWorking k st).restarting = s.restarting := rfl
@[simp] theorem setWorking_calEn (s : State) (k : Nat) (st : SlotStatus) : (s.setWorking k st).calEn = s.calEn := rfl
@[simp] theorem setWorking_vt (s : State) (k : Nat) (st : SlotStatus) : (s.setWorking k st).vt = s.vt := rfl
@[simp] theorem setWorking_vehicles (s : State) (k : Nat) (st : SlotStatus) : (s.setWorking k st).vehicles = s.vehicles := rfl
@[simp] theorem setWorking_permits (s : State) (k : Nat) (st : SlotStatus) : (s.setWorking k st).permits = s.permits := rfl
@[simp] theorem setWorking_lanes (s : State) (k : Nat) (st : SlotStatus) : (s.setWorking k st).lanes = s.lanes := rfl
@[simp] theorem setWorking_barriers (s : State) (k : Nat) (st : SlotStatus) : (s.setWorking k st).barriers = s.barriers := rfl
@[simp] theorem setWorking_decks (s : State) (k : Nat) (st : SlotStatus) : (s.setWorking k st).decks = s.decks := rfl
@[simp] theorem setWorking_engines (s : State) (k : Nat) (st : SlotStatus) : (s.setWorking k st).engines = s.engines := rfl
@[simp] theorem setWorking_units (s : State) (k : Nat) (st : SlotStatus) : (s.setWorking k st).units = s.units := rfl
@[simp] theorem setWorking_loader (s : State) (k : Nat) (st : SlotStatus) : (s.setWorking k st).loader = s.loader := rfl
@[simp] theorem setWorking_clock (s : State) (k : Nat) (st : SlotStatus) : (s.setWorking k st).clock = s.clock := rfl
@[simp] theorem setWorking_port (s : State) (k : Nat) (st : SlotStatus) : (s.setWorking k st).port = s.port := rfl
@[simp] theorem setWorking_notices (s : State) (k : Nat) (st : SlotStatus) : (s.setWorking k st).notices = s.notices := rfl

/-! ### clearInject -/

@[simp] theorem clearInject_pending (s : State) (u : Fin 8) : (s.clearInject u).pending = s.pending := rfl
@[simp] theorem clearInject_free (s : State) (u : Fin 8) : (s.clearInject u).free = s.free := rfl
@[simp] theorem clearInject_rstLow (s : State) (u : Fin 8) : (s.clearInject u).rstLow = s.rstLow := rfl
@[simp] theorem clearInject_restarting (s : State) (u : Fin 8) : (s.clearInject u).restarting = s.restarting := rfl
@[simp] theorem clearInject_calEn (s : State) (u : Fin 8) : (s.clearInject u).calEn = s.calEn := rfl
@[simp] theorem clearInject_vt (s : State) (u : Fin 8) : (s.clearInject u).vt = s.vt := rfl
@[simp] theorem clearInject_vehicles (s : State) (u : Fin 8) : (s.clearInject u).vehicles = s.vehicles := rfl
@[simp] theorem clearInject_permits (s : State) (u : Fin 8) : (s.clearInject u).permits = s.permits := rfl
@[simp] theorem clearInject_lanes (s : State) (u : Fin 8) : (s.clearInject u).lanes = s.lanes := rfl
@[simp] theorem clearInject_barriers (s : State) (u : Fin 8) : (s.clearInject u).barriers = s.barriers := rfl
@[simp] theorem clearInject_decks (s : State) (u : Fin 8) : (s.clearInject u).decks = s.decks := rfl
@[simp] theorem clearInject_engines (s : State) (u : Fin 8) : (s.clearInject u).engines = s.engines := rfl
@[simp] theorem clearInject_units (s : State) (u : Fin 8) : (s.clearInject u).units = s.units := rfl
@[simp] theorem clearInject_loader (s : State) (u : Fin 8) : (s.clearInject u).loader = s.loader := rfl
@[simp] theorem clearInject_clock (s : State) (u : Fin 8) : (s.clearInject u).clock = s.clock := rfl
@[simp] theorem clearInject_port (s : State) (u : Fin 8) : (s.clearInject u).port = s.port := rfl
@[simp] theorem clearInject_notices (s : State) (u : Fin 8) : (s.clearInject u).notices = s.notices := rfl

/-! ### openFrame -/

@[simp] theorem openFrame_pending (s : State) : (s.openFrame).pending = s.pending := rfl
@[simp] theorem openFrame_free (s : State) : (s.openFrame).free = s.free := rfl
@[simp] theorem openFrame_rstLow (s : State) : (s.openFrame).rstLow = s.rstLow := rfl
@[simp] theorem openFrame_restarting (s : State) : (s.openFrame).restarting = s.restarting := rfl
@[simp] theorem openFrame_calEn (s : State) : (s.openFrame).calEn = s.calEn := rfl
@[simp] theorem openFrame_vt (s : State) : (s.openFrame).vt = s.vt := rfl
@[simp] theorem openFrame_vehicles (s : State) : (s.openFrame).vehicles = s.vehicles := rfl
@[simp] theorem openFrame_permits (s : State) : (s.openFrame).permits = s.permits := rfl
@[simp] theorem openFrame_lanes (s : State) : (s.openFrame).lanes = s.lanes := rfl
@[simp] theorem openFrame_barriers (s : State) : (s.openFrame).barriers = s.barriers := rfl
@[simp] theorem openFrame_engines (s : State) : (s.openFrame).engines = s.engines := rfl
@[simp] theorem openFrame_loader (s : State) : (s.openFrame).loader = s.loader := rfl
@[simp] theorem openFrame_clock (s : State) : (s.openFrame).clock = s.clock := rfl
@[simp] theorem openFrame_port (s : State) : (s.openFrame).port = s.port := rfl
@[simp] theorem openFrame_notices (s : State) : (s.openFrame).notices = s.notices := rfl

/-! ### touch -/

@[simp] theorem touch_pending (s : State) (k : Nat) : (s.touch k).pending = s.pending := by unfold touch; split <;> rfl
@[simp] theorem touch_free (s : State) (k : Nat) : (s.touch k).free = s.free := by unfold touch; split <;> rfl
@[simp] theorem touch_rstLow (s : State) (k : Nat) : (s.touch k).rstLow = s.rstLow := by unfold touch; split <;> rfl
@[simp] theorem touch_restarting (s : State) (k : Nat) : (s.touch k).restarting = s.restarting := by unfold touch; split <;> rfl
@[simp] theorem touch_calEn (s : State) (k : Nat) : (s.touch k).calEn = s.calEn := by unfold touch; split <;> rfl
@[simp] theorem touch_vehicles (s : State) (k : Nat) : (s.touch k).vehicles = s.vehicles := by unfold touch; split <;> rfl
@[simp] theorem touch_permits (s : State) (k : Nat) : (s.touch k).permits = s.permits := by unfold touch; split <;> rfl
@[simp] theorem touch_lanes (s : State) (k : Nat) : (s.touch k).lanes = s.lanes := by unfold touch; split <;> rfl
@[simp] theorem touch_barriers (s : State) (k : Nat) : (s.touch k).barriers = s.barriers := by unfold touch; split <;> rfl
@[simp] theorem touch_decks (s : State) (k : Nat) : (s.touch k).decks = s.decks := by unfold touch; split <;> rfl
@[simp] theorem touch_engines (s : State) (k : Nat) : (s.touch k).engines = s.engines := by unfold touch; split <;> rfl
@[simp] theorem touch_loop (s : State) (k : Nat) : (s.touch k).loop = s.loop := by unfold touch; split <;> rfl
@[simp] theorem touch_units (s : State) (k : Nat) : (s.touch k).units = s.units := by unfold touch; split <;> rfl
@[simp] theorem touch_loader (s : State) (k : Nat) : (s.touch k).loader = s.loader := by unfold touch; split <;> rfl
@[simp] theorem touch_clock (s : State) (k : Nat) : (s.touch k).clock = s.clock := by unfold touch; split <;> rfl
@[simp] theorem touch_port (s : State) (k : Nat) : (s.touch k).port = s.port := by unfold touch; split <;> rfl
@[simp] theorem touch_notices (s : State) (k : Nat) : (s.touch k).notices = s.notices := by unfold touch; split <;> rfl

/-! ### complete -/

@[simp] theorem complete_pending (s : State) (k : Nat) : (s.complete k).pending = s.pending := by unfold complete; split <;> rfl
@[simp] theorem complete_free (s : State) (k : Nat) : (s.complete k).free = s.free := by unfold complete; split <;> rfl
@[simp] theorem complete_rstLow (s : State) (k : Nat) : (s.complete k).rstLow = s.rstLow := by unfold complete; split <;> rfl
@[simp] theorem complete_restarting (s : State) (k : Nat) : (s.complete k).restarting = s.restarting := by unfold complete; split <;> rfl
@[simp] theorem complete_calEn (s : State) (k : Nat) : (s.complete k).calEn = s.calEn := by unfold complete; split <;> rfl
@[simp] theorem complete_vehicles (s : State) (k : Nat) : (s.complete k).vehicles = s.vehicles := by unfold complete; split <;> rfl
@[simp] theorem complete_permits (s : State) (k : Nat) : (s.complete k).permits = s.permits := by unfold complete; split <;> rfl
@[simp] theorem complete_lanes (s : State) (k : Nat) : (s.complete k).lanes = s.lanes := by unfold complete; split <;> rfl
@[simp] theorem complete_barriers (s : State) (k : Nat) : (s.complete k).barriers = s.barriers := by unfold complete; split <;> rfl
@[simp] theorem complete_decks (s : State) (k : Nat) : (s.complete k).decks = s.decks := by unfold complete; split <;> rfl
@[simp] theorem complete_engines (s : State) (k : Nat) : (s.complete k).engines = s.engines := by unfold complete; split <;> rfl
@[simp] theorem complete_loop (s : State) (k : Nat) : (s.complete k).loop = s.loop := by unfold complete; split <;> rfl
@[simp] theorem complete_units (s : State) (k : Nat) : (s.complete k).units = s.units := by unfold complete; split <;> rfl
@[simp] theorem complete_loader (s : State) (k : Nat) : (s.complete k).loader = s.loader := by unfold complete; split <;> rfl
@[simp] theorem complete_clock (s : State) (k : Nat) : (s.complete k).clock = s.clock := by unfold complete; split <;> rfl
@[simp] theorem complete_port (s : State) (k : Nat) : (s.complete k).port = s.port := by unfold complete; split <;> rfl
@[simp] theorem complete_notices (s : State) (k : Nat) : (s.complete k).notices = s.notices := by unfold complete; split <;> rfl

/-! ### Reading one block after a write -/

theorem lane_setLane (s : State) (n m : Fin 4) (x : Lane) :
    (s.setLane n x).lane m = if n = m then x else s.lane m := by
  simp only [setLane, lane, Vector.get_eq_getElem, Vector.getElem_set, Fin.ext_iff]

@[simp] theorem lane_setLane_self (s : State) (n : Fin 4) (x : Lane) : (s.setLane n x).lane n = x := by
  simp only [lane_setLane, if_true]

theorem barrier_setBarrier (s : State) (n m : Fin 4) (x : Barrier) :
    (s.setBarrier n x).barrier m = if n = m then x else s.barrier m := by
  simp only [setBarrier, barrier, Vector.get_eq_getElem, Vector.getElem_set, Fin.ext_iff]

@[simp] theorem barrier_setBarrier_self (s : State) (n : Fin 4) (x : Barrier) : (s.setBarrier n x).barrier n = x := by
  simp only [barrier_setBarrier, if_true]

theorem deck_setDeck (s : State) (n m : Fin 4) (x : Deck) :
    (s.setDeck n x).deck m = if n = m then x else s.deck m := by
  simp only [setDeck, deck, Vector.get_eq_getElem, Vector.getElem_set, Fin.ext_iff]

@[simp] theorem deck_setDeck_self (s : State) (n : Fin 4) (x : Deck) : (s.setDeck n x).deck n = x := by
  simp only [deck_setDeck, if_true]

theorem engine_setEngine (s : State) (n m : Fin 4) (x : Engine) :
    (s.setEngine n x).engine m = if n = m then x else s.engine m := by
  simp only [setEngine, engine, Vector.get_eq_getElem, Vector.getElem_set, Fin.ext_iff]

@[simp] theorem engine_setEngine_self (s : State) (n : Fin 4) (x : Engine) : (s.setEngine n x).engine n = x := by
  simp only [engine_setEngine, if_true]

theorem unit_setUnit (s : State) (n m : Fin 8) (x : UnitRec) :
    (s.setUnit n x).unit m = if n = m then x else s.unit m := by
  simp only [setUnit, unit, Vector.get_eq_getElem, Vector.getElem_set, Fin.ext_iff]

@[simp] theorem unit_setUnit_self (s : State) (n : Fin 8) (x : UnitRec) : (s.setUnit n x).unit n = x := by
  simp only [unit_setUnit, if_true]

@[simp] theorem barrier_setLane (s : State) (n : Fin 4) (x : Lane) (m : Fin 4) : (s.setLane n x).barrier m = s.barrier m := rfl
@[simp] theorem deck_setLane (s : State) (n : Fin 4) (x : Lane) (m : Fin 4) : (s.setLane n x).deck m = s.deck m := rfl
@[simp] theorem engine_setLane (s : State) (n : Fin 4) (x : Lane) (m : Fin 4) : (s.setLane n x).engine m = s.engine m := rfl
@[simp] theorem unit_setLane (s : State) (n : Fin 4) (x : Lane) (m : Fin 8) : (s.setLane n x).unit m = s.unit m := rfl
@[simp] theorem visit_setLane (s : State) (n : Fin 4) (x : Lane) (m : Nat) : (s.setLane n x).visit m = s.visit m := rfl
@[simp] theorem lane_setBarrier (s : State) (n : Fin 4) (x : Barrier) (m : Fin 4) : (s.setBarrier n x).lane m = s.lane m := rfl
@[simp] theorem deck_setBarrier (s : State) (n : Fin 4) (x : Barrier) (m : Fin 4) : (s.setBarrier n x).deck m = s.deck m := rfl
@[simp] theorem engine_setBarrier (s : State) (n : Fin 4) (x : Barrier) (m : Fin 4) : (s.setBarrier n x).engine m = s.engine m := rfl
@[simp] theorem unit_setBarrier (s : State) (n : Fin 4) (x : Barrier) (m : Fin 8) : (s.setBarrier n x).unit m = s.unit m := rfl
@[simp] theorem visit_setBarrier (s : State) (n : Fin 4) (x : Barrier) (m : Nat) : (s.setBarrier n x).visit m = s.visit m := rfl
@[simp] theorem lane_setDeck (s : State) (n : Fin 4) (x : Deck) (m : Fin 4) : (s.setDeck n x).lane m = s.lane m := rfl
@[simp] theorem barrier_setDeck (s : State) (n : Fin 4) (x : Deck) (m : Fin 4) : (s.setDeck n x).barrier m = s.barrier m := rfl
@[simp] theorem engine_setDeck (s : State) (n : Fin 4) (x : Deck) (m : Fin 4) : (s.setDeck n x).engine m = s.engine m := rfl
@[simp] theorem unit_setDeck (s : State) (n : Fin 4) (x : Deck) (m : Fin 8) : (s.setDeck n x).unit m = s.unit m := rfl
@[simp] theorem visit_setDeck (s : State) (n : Fin 4) (x : Deck) (m : Nat) : (s.setDeck n x).visit m = s.visit m := rfl
@[simp] theorem lane_setEngine (s : State) (n : Fin 4) (x : Engine) (m : Fin 4) : (s.setEngine n x).lane m = s.lane m := rfl
@[simp] theorem barrier_setEngine (s : State) (n : Fin 4) (x : Engine) (m : Fin 4) : (s.setEngine n x).barrier m = s.barrier m := rfl
@[simp] theorem deck_setEngine (s : State) (n : Fin 4) (x : Engine) (m : Fin 4) : (s.setEngine n x).deck m = s.deck m := rfl
@[simp] theorem unit_setEngine (s : State) (n : Fin 4) (x : Engine) (m : Fin 8) : (s.setEngine n x).unit m = s.unit m := rfl
@[simp] theorem visit_setEngine (s : State) (n : Fin 4) (x : Engine) (m : Nat) : (s.setEngine n x).visit m = s.visit m := rfl
@[simp] theorem lane_setUnit (s : State) (u : Fin 8) (x : UnitRec) (m : Fin 4) : (s.setUnit u x).lane m = s.lane m := rfl
@[simp] theorem barrier_setUnit (s : State) (u : Fin 8) (x : UnitRec) (m : Fin 4) : (s.setUnit u x).barrier m = s.barrier m := rfl
@[simp] theorem deck_setUnit (s : State) (u : Fin 8) (x : UnitRec) (m : Fin 4) : (s.setUnit u x).deck m = s.deck m := rfl
@[simp] theorem engine_setUnit (s : State) (u : Fin 8) (x : UnitRec) (m : Fin 4) : (s.setUnit u x).engine m = s.engine m := rfl
@[simp] theorem visit_setUnit (s : State) (u : Fin 8) (x : UnitRec) (m : Nat) : (s.setUnit u x).visit m = s.visit m := rfl
@[simp] theorem lane_setVisit (s : State) (k : Nat) (x : Visit) (m : Fin 4) : (s.setVisit k x).lane m = s.lane m := rfl
@[simp] theorem barrier_setVisit (s : State) (k : Nat) (x : Visit) (m : Fin 4) : (s.setVisit k x).barrier m = s.barrier m := rfl
@[simp] theorem deck_setVisit (s : State) (k : Nat) (x : Visit) (m : Fin 4) : (s.setVisit k x).deck m = s.deck m := rfl
@[simp] theorem engine_setVisit (s : State) (k : Nat) (x : Visit) (m : Fin 4) : (s.setVisit k x).engine m = s.engine m := rfl
@[simp] theorem unit_setVisit (s : State) (k : Nat) (x : Visit) (m : Fin 8) : (s.setVisit k x).unit m = s.unit m := rfl
@[simp] theorem lane_latch (s : State) (src : Source) (bit : Nat) (m : Fin 4) : (s.latch src bit).lane m = s.lane m := rfl
@[simp] theorem barrier_latch (s : State) (src : Source) (bit : Nat) (m : Fin 4) : (s.latch src bit).barrier m = s.barrier m := rfl
@[simp] theorem deck_latch (s : State) (src : Source) (bit : Nat) (m : Fin 4) : (s.latch src bit).deck m = s.deck m := rfl
@[simp] theorem engine_latch (s : State) (src : Source) (bit : Nat) (m : Fin 4) : (s.latch src bit).engine m = s.engine m := rfl
@[simp] theorem unit_latch (s : State) (src : Source) (bit : Nat) (m : Fin 8) : (s.latch src bit).unit m = s.unit m := rfl
@[simp] theorem visit_latch (s : State) (src : Source) (bit : Nat) (m : Nat) : (s.latch src bit).visit m = s.visit m := rfl
@[simp] theorem lane_followLevels (s : State) (m : Fin 4) : (s.followLevels).lane m = s.lane m := by simp only [followLevels, lane]
@[simp] theorem barrier_followLevels (s : State) (m : Fin 4) : (s.followLevels).barrier m = s.barrier m := by simp only [followLevels, barrier]
@[simp] theorem deck_followLevels (s : State) (m : Fin 4) : (s.followLevels).deck m = s.deck m := by simp only [followLevels, deck]
@[simp] theorem engine_followLevels (s : State) (m : Fin 4) : (s.followLevels).engine m = s.engine m := by simp only [followLevels, engine]
@[simp] theorem unit_followLevels (s : State) (m : Fin 8) : (s.followLevels).unit m = s.unit m := by simp only [followLevels, unit]
@[simp] theorem visit_followLevels (s : State) (m : Nat) : (s.followLevels).visit m = s.visit m := by simp only [followLevels, visit]
@[simp] theorem lane_addOccupancy (s : State) (d : Int) (m : Fin 4) : (s.addOccupancy d).lane m = s.lane m := rfl
@[simp] theorem barrier_addOccupancy (s : State) (d : Int) (m : Fin 4) : (s.addOccupancy d).barrier m = s.barrier m := rfl
@[simp] theorem deck_addOccupancy (s : State) (d : Int) (m : Fin 4) : (s.addOccupancy d).deck m = s.deck m := rfl
@[simp] theorem engine_addOccupancy (s : State) (d : Int) (m : Fin 4) : (s.addOccupancy d).engine m = s.engine m := rfl
@[simp] theorem unit_addOccupancy (s : State) (d : Int) (m : Fin 8) : (s.addOccupancy d).unit m = s.unit m := rfl
@[simp] theorem lane_answer (s : State) (c : Byte) (st : Status) (a : Answer) (m : Fin 4) : (s.answer c st a).lane m = s.lane m := rfl
@[simp] theorem barrier_answer (s : State) (c : Byte) (st : Status) (a : Answer) (m : Fin 4) : (s.answer c st a).barrier m = s.barrier m := rfl
@[simp] theorem deck_answer (s : State) (c : Byte) (st : Status) (a : Answer) (m : Fin 4) : (s.answer c st a).deck m = s.deck m := rfl
@[simp] theorem engine_answer (s : State) (c : Byte) (st : Status) (a : Answer) (m : Fin 4) : (s.answer c st a).engine m = s.engine m := rfl
@[simp] theorem unit_answer (s : State) (c : Byte) (st : Status) (a : Answer) (m : Fin 8) : (s.answer c st a).unit m = s.unit m := rfl
@[simp] theorem visit_answer (s : State) (c : Byte) (st : Status) (a : Answer) (m : Nat) : (s.answer c st a).visit m = s.visit m := rfl
@[simp] theorem lane_portBusy (s : State) (c : Byte) (m : Fin 4) : (s.portBusy c).lane m = s.lane m := rfl
@[simp] theorem barrier_portBusy (s : State) (c : Byte) (m : Fin 4) : (s.portBusy c).barrier m = s.barrier m := rfl
@[simp] theorem deck_portBusy (s : State) (c : Byte) (m : Fin 4) : (s.portBusy c).deck m = s.deck m := rfl
@[simp] theorem engine_portBusy (s : State) (c : Byte) (m : Fin 4) : (s.portBusy c).engine m = s.engine m := rfl
@[simp] theorem unit_portBusy (s : State) (c : Byte) (m : Fin 8) : (s.portBusy c).unit m = s.unit m := rfl
@[simp] theorem visit_portBusy (s : State) (c : Byte) (m : Nat) : (s.portBusy c).visit m = s.visit m := rfl
@[simp] theorem lane_transmit (s : State) (k : Nat) (bs : List Byte) (m : Fin 4) : (s.transmit k bs).lane m = s.lane m := rfl
@[simp] theorem barrier_transmit (s : State) (k : Nat) (bs : List Byte) (m : Fin 4) : (s.transmit k bs).barrier m = s.barrier m := rfl
@[simp] theorem deck_transmit (s : State) (k : Nat) (bs : List Byte) (m : Fin 4) : (s.transmit k bs).deck m = s.deck m := rfl
@[simp] theorem engine_transmit (s : State) (k : Nat) (bs : List Byte) (m : Fin 4) : (s.transmit k bs).engine m = s.engine m := rfl
@[simp] theorem unit_transmit (s : State) (k : Nat) (bs : List Byte) (m : Fin 8) : (s.transmit k bs).unit m = s.unit m := rfl
@[simp] theorem visit_transmit (s : State) (k : Nat) (bs : List Byte) (m : Nat) : (s.transmit k bs).visit m = s.visit m := rfl
@[simp] theorem lane_setWorking (s : State) (k : Nat) (st : SlotStatus) (m : Fin 4) : (s.setWorking k st).lane m = s.lane m := rfl
@[simp] theorem barrier_setWorking (s : State) (k : Nat) (st : SlotStatus) (m : Fin 4) : (s.setWorking k st).barrier m = s.barrier m := rfl
@[simp] theorem deck_setWorking (s : State) (k : Nat) (st : SlotStatus) (m : Fin 4) : (s.setWorking k st).deck m = s.deck m := rfl
@[simp] theorem engine_setWorking (s : State) (k : Nat) (st : SlotStatus) (m : Fin 4) : (s.setWorking k st).engine m = s.engine m := rfl
@[simp] theorem unit_setWorking (s : State) (k : Nat) (st : SlotStatus) (m : Fin 8) : (s.setWorking k st).unit m = s.unit m := rfl
@[simp] theorem visit_setWorking (s : State) (k : Nat) (st : SlotStatus) (m : Nat) : (s.setWorking k st).visit m = s.visit m := rfl
@[simp] theorem lane_clearInject (s : State) (u : Fin 8) (m : Fin 4) : (s.clearInject u).lane m = s.lane m := rfl
@[simp] theorem barrier_clearInject (s : State) (u : Fin 8) (m : Fin 4) : (s.clearInject u).barrier m = s.barrier m := rfl
@[simp] theorem deck_clearInject (s : State) (u : Fin 8) (m : Fin 4) : (s.clearInject u).deck m = s.deck m := rfl
@[simp] theorem engine_clearInject (s : State) (u : Fin 8) (m : Fin 4) : (s.clearInject u).engine m = s.engine m := rfl
@[simp] theorem unit_clearInject (s : State) (u : Fin 8) (m : Fin 8) : (s.clearInject u).unit m = s.unit m := rfl
@[simp] theorem visit_clearInject (s : State) (u : Fin 8) (m : Nat) : (s.clearInject u).visit m = s.visit m := rfl
@[simp] theorem lane_openFrame (s : State) (m : Fin 4) : (s.openFrame).lane m = s.lane m := rfl
@[simp] theorem barrier_openFrame (s : State) (m : Fin 4) : (s.openFrame).barrier m = s.barrier m := rfl
@[simp] theorem deck_openFrame (s : State) (m : Fin 4) :
    (s.openFrame).deck m = { s.deck m with sampled := false } := by
  simp [State.deck, State.openFrame, State.clearMarks, mapEach, Vector.get_eq_getElem]
@[simp] theorem engine_openFrame (s : State) (m : Fin 4) : (s.openFrame).engine m = s.engine m := rfl
@[simp] theorem unit_openFrame (s : State) (m : Fin 8) : (s.openFrame).unit m = { s.unit m with
    alarmSeen := false
    activate := { (s.unit m).activate with seen := false }
    deactivate := { (s.unit m).deactivate with seen := false } } := by
  simp [State.unit, State.openFrame, State.clearMarks, mapEach, Vector.get_eq_getElem]
@[simp] theorem visit_openFrame (s : State) (m : Nat) : (s.openFrame).visit m = s.visit m := rfl
@[simp] theorem visit_addOccupancy (s : State) (d : Int) (m : Nat) : (s.addOccupancy d).visit m = s.visit m := rfl
@[simp] theorem lane_touch (s : State) (k : Nat) (m : Fin 4) : (s.touch k).lane m = s.lane m := by
  unfold touch; split <;> rfl
@[simp] theorem barrier_touch (s : State) (k : Nat) (m : Fin 4) : (s.touch k).barrier m = s.barrier m := by
  unfold touch; split <;> rfl
@[simp] theorem deck_touch (s : State) (k : Nat) (m : Fin 4) : (s.touch k).deck m = s.deck m := by
  unfold touch; split <;> rfl
@[simp] theorem engine_touch (s : State) (k : Nat) (m : Fin 4) : (s.touch k).engine m = s.engine m := by
  unfold touch; split <;> rfl
@[simp] theorem unit_touch (s : State) (k : Nat) (m : Fin 8) : (s.touch k).unit m = s.unit m := by
  unfold touch; split <;> rfl
@[simp] theorem visit_touch (s : State) (k : Nat) (m : Nat) : (s.touch k).visit m = s.visit m := by
  unfold touch; split <;> rfl
@[simp] theorem lane_complete (s : State) (k : Nat) (m : Fin 4) : (s.complete k).lane m = s.lane m := by
  unfold complete; split <;> rfl
@[simp] theorem barrier_complete (s : State) (k : Nat) (m : Fin 4) : (s.complete k).barrier m = s.barrier m := by
  unfold complete; split <;> rfl
@[simp] theorem deck_complete (s : State) (k : Nat) (m : Fin 4) : (s.complete k).deck m = s.deck m := by
  unfold complete; split <;> rfl
@[simp] theorem engine_complete (s : State) (k : Nat) (m : Fin 4) : (s.complete k).engine m = s.engine m := by
  unfold complete; split <;> rfl
@[simp] theorem unit_complete (s : State) (k : Nat) (m : Fin 8) : (s.complete k).unit m = s.unit m := by
  unfold complete; split <;> rfl
@[simp] theorem visit_complete (s : State) (k : Nat) (m : Nat) : (s.complete k).visit m = s.visit m := by
  unfold complete; split <;> rfl

/-! ### What the Visit Table's lists hold after a write -/

@[simp] theorem touch_records (s : State) (k : Nat) : (s.touch k).vt.records = s.vt.records := by
  unfold touch; split <;> rfl

@[simp] theorem touch_nextTicket (s : State) (k : Nat) : (s.touch k).vt.nextTicket = s.vt.nextTicket := by
  unfold touch; split <;> rfl

@[simp] theorem touch_occupancy (s : State) (k : Nat) : (s.touch k).vt.occupancy = s.vt.occupancy := by
  unfold touch; split <;> rfl

@[simp] theorem touch_completion (s : State) (k : Nat) : (s.touch k).vt.completion = s.vt.completion := by
  unfold touch; split <;> rfl

@[simp] theorem complete_records (s : State) (k : Nat) : (s.complete k).vt.records = s.vt.records := by
  unfold complete; split <;> rfl

@[simp] theorem complete_occupancy (s : State) (k : Nat) : (s.complete k).vt.occupancy = s.vt.occupancy := by
  unfold complete; split <;> rfl

@[simp] theorem complete_changes (s : State) (k : Nat) : (s.complete k).vt.changes = s.vt.changes := by
  unfold complete; split <;> rfl

@[simp] theorem setVisit_records (s : State) (k : Nat) (v : Visit) :
    (s.setVisit k v).vt.records = s.vt.records.put k v := rfl

@[simp] theorem setVisit_changes (s : State) (k : Nat) (v : Visit) : (s.setVisit k v).vt.changes = s.vt.changes := rfl

@[simp] theorem setVisit_occupancy (s : State) (k : Nat) (v : Visit) :
    (s.setVisit k v).vt.occupancy = s.vt.occupancy := rfl

/-- R26: a record touched is on the Change List. -/
theorem mem_changes_touch (s : State) (k : Nat) : k ∈ (s.touch k).vt.changes := by
  unfold touch
  split
  · assumption
  · simp

/-- R26: a touch names the record at most once, if the list named each at most once before. -/
theorem touch_nodup (s : State) (k : Nat) (h : s.vt.changes.Nodup) : (s.touch k).vt.changes.Nodup := by
  unfold touch
  split
  · exact h
  · rename_i hk
    simp only [List.nodup_append, h, List.nodup_cons, List.not_mem_nil, not_false_eq_true, List.nodup_nil, and_self,
      List.mem_singleton, forall_eq, true_and]
    intro a ha hak
    exact hk (hak ▸ ha)

/-! ### An answer in the port (R193) -/

section Answered

variable (s : State) (c : Instr) (st : Status) (a : Answer)

@[simp] theorem answered_pending : (answered s c st a).pending = s.pending := rfl
@[simp] theorem answered_free : (answered s c st a).free = s.free := rfl
@[simp] theorem answered_rstLow : (answered s c st a).rstLow = s.rstLow := rfl
@[simp] theorem answered_restarting : (answered s c st a).restarting = s.restarting := rfl
@[simp] theorem answered_calEn : (answered s c st a).calEn = s.calEn := rfl
@[simp] theorem answered_vt : (answered s c st a).vt = s.vt := rfl
@[simp] theorem answered_vehicles : (answered s c st a).vehicles = s.vehicles := rfl
@[simp] theorem answered_permits : (answered s c st a).permits = s.permits := rfl
@[simp] theorem answered_lanes : (answered s c st a).lanes = s.lanes := rfl
@[simp] theorem answered_barriers : (answered s c st a).barriers = s.barriers := rfl
@[simp] theorem answered_decks : (answered s c st a).decks = s.decks := rfl
@[simp] theorem answered_engines : (answered s c st a).engines = s.engines := rfl
@[simp] theorem answered_loop : (answered s c st a).loop = s.loop := rfl
@[simp] theorem answered_units : (answered s c st a).units = s.units := rfl
@[simp] theorem answered_loader : (answered s c st a).loader = s.loader := rfl
@[simp] theorem answered_clock : (answered s c st a).clock = s.clock := rfl
@[simp] theorem answered_notices : (answered s c st a).notices = s.notices := rfl
@[simp] theorem lane_answered (n : Fin 4) : (answered s c st a).lane n = s.lane n := rfl
@[simp] theorem barrier_answered (n : Fin 4) : (answered s c st a).barrier n = s.barrier n := rfl
@[simp] theorem deck_answered (n : Fin 4) : (answered s c st a).deck n = s.deck n := rfl
@[simp] theorem engine_answered (n : Fin 4) : (answered s c st a).engine n = s.engine n := rfl
@[simp] theorem unit_answered (u : Fin 8) : (answered s c st a).unit u = s.unit u := rfl
@[simp] theorem visit_answered (k : Nat) : (answered s c st a).visit k = s.visit k := rfl
@[simp] theorem answered_buffer :
    (answered s c st a).port.buffer = .answer (BitVec.ofNat 8 (requestCode c)) st a := rfl

end Answered

/-! ### setLevelsAside and recallLevels (R199) -/

@[simp] theorem setLevelsAside_pending (s : State) : s.setLevelsAside.pending = s.pending := rfl
@[simp] theorem setLevelsAside_free (s : State) : s.setLevelsAside.free = s.free := rfl
@[simp] theorem setLevelsAside_rstLow (s : State) : s.setLevelsAside.rstLow = s.rstLow := rfl
@[simp] theorem setLevelsAside_restarting (s : State) : s.setLevelsAside.restarting = s.restarting := rfl
@[simp] theorem setLevelsAside_calEn (s : State) : s.setLevelsAside.calEn = s.calEn := rfl
@[simp] theorem setLevelsAside_vt (s : State) : s.setLevelsAside.vt = s.vt := rfl
@[simp] theorem setLevelsAside_vehicles (s : State) : s.setLevelsAside.vehicles = s.vehicles := rfl
@[simp] theorem setLevelsAside_permits (s : State) : s.setLevelsAside.permits = s.permits := rfl
@[simp] theorem setLevelsAside_lanes (s : State) : s.setLevelsAside.lanes = s.lanes := rfl
@[simp] theorem setLevelsAside_barriers (s : State) : s.setLevelsAside.barriers = s.barriers := rfl
@[simp] theorem setLevelsAside_decks (s : State) : s.setLevelsAside.decks = s.decks := rfl
@[simp] theorem setLevelsAside_engines (s : State) : s.setLevelsAside.engines = s.engines := rfl
@[simp] theorem setLevelsAside_loop (s : State) : s.setLevelsAside.loop = s.loop := rfl
@[simp] theorem setLevelsAside_units (s : State) : s.setLevelsAside.units = s.units := rfl
@[simp] theorem setLevelsAside_loader (s : State) : s.setLevelsAside.loader = s.loader := rfl
@[simp] theorem setLevelsAside_clock (s : State) : s.setLevelsAside.clock = s.clock := rfl
@[simp] theorem setLevelsAside_port (s : State) : s.setLevelsAside.port = s.port := rfl
@[simp] theorem setLevelsAside_latched (s : State) : s.setLevelsAside.notices.latched = s.notices.latched := rfl
@[simp] theorem setLevelsAside_mask (s : State) : s.setLevelsAside.notices.mask = s.notices.mask := rfl
@[simp] theorem setLevelsAside_edges (s : State) : s.setLevelsAside.notices.edges = s.notices.edges := rfl
@[simp] theorem recallLevels_pending (s : State) : s.recallLevels.pending = s.pending := rfl
@[simp] theorem recallLevels_free (s : State) : s.recallLevels.free = s.free := rfl
@[simp] theorem recallLevels_rstLow (s : State) : s.recallLevels.rstLow = s.rstLow := rfl
@[simp] theorem recallLevels_restarting (s : State) : s.recallLevels.restarting = s.restarting := rfl
@[simp] theorem recallLevels_calEn (s : State) : s.recallLevels.calEn = s.calEn := rfl
@[simp] theorem recallLevels_vt (s : State) : s.recallLevels.vt = s.vt := rfl
@[simp] theorem recallLevels_vehicles (s : State) : s.recallLevels.vehicles = s.vehicles := rfl
@[simp] theorem recallLevels_permits (s : State) : s.recallLevels.permits = s.permits := rfl
@[simp] theorem recallLevels_lanes (s : State) : s.recallLevels.lanes = s.lanes := rfl
@[simp] theorem recallLevels_barriers (s : State) : s.recallLevels.barriers = s.barriers := rfl
@[simp] theorem recallLevels_decks (s : State) : s.recallLevels.decks = s.decks := rfl
@[simp] theorem recallLevels_engines (s : State) : s.recallLevels.engines = s.engines := rfl
@[simp] theorem recallLevels_loop (s : State) : s.recallLevels.loop = s.loop := rfl
@[simp] theorem recallLevels_units (s : State) : s.recallLevels.units = s.units := rfl
@[simp] theorem recallLevels_loader (s : State) : s.recallLevels.loader = s.loader := rfl
@[simp] theorem recallLevels_clock (s : State) : s.recallLevels.clock = s.clock := rfl
@[simp] theorem recallLevels_port (s : State) : s.recallLevels.port = s.port := rfl
@[simp] theorem recallLevels_latched (s : State) : s.recallLevels.notices.latched = s.notices.latched := rfl
@[simp] theorem recallLevels_mask (s : State) : s.recallLevels.notices.mask = s.notices.mask := rfl
@[simp] theorem recallLevels_edges (s : State) : s.recallLevels.notices.edges = s.notices.edges := rfl
@[simp] theorem setLevelsAside_levels (s : State) : s.setLevelsAside.notices.levels = s.drivenLevels := rfl
@[simp] theorem setLevelsAside_beforeLoad (s : State) :
    s.setLevelsAside.notices.beforeLoad = some s.notices.levels := rfl
@[simp] theorem recallLevels_levels (s : State) :
    s.recallLevels.notices.levels = s.notices.beforeLoad.getD s.notices.levels := rfl
@[simp] theorem recallLevels_beforeLoad (s : State) : s.recallLevels.notices.beforeLoad = none := rfl

/-- R116: the burst length a capture starts with, by the rule's own words. -/
theorem burstLength_eq (s : State) (asked : Option Burst) (purpose : Purpose) :
    s.burstLength asked purpose = startingBurst s purpose asked := by
  rcases asked with _ | b
  · rcases purpose with ⟨t, role⟩ | _
    · simp only [State.burstLength, startingBurst]
      rcases s.byTicket t with _ | ⟨slot, v⟩
      · simp
      · rcases h : s.vehicles.get v.vehicle with _ | veh <;> simp [h]
    · rfl
  · rfl

end Sys2Proof.Machine.State
end

