-- ==== Sys2Proof/Laws/Table.lean ====
section
/-! SUPPORT. The keyed tables: reading after a write or a removal, the canonical form, and the finds. -/

namespace Sys2Proof.Machine.Table

variable {α : Type}

/-! ### Reading after a write or a removal -/

theorem get_put (t : Table α) (k j : Nat) (a : α) : (t.put k a).get j = if k = j then some a else t.get j := by
  induction t with
  | nil => simp [put, get]
  | cons p rest ih =>
    obtain ⟨i, b⟩ := p
    unfold put
    by_cases h1 : k < i
    · simp [h1, get]
    · by_cases h2 : k = i
      · subst h2
        simp only [Nat.lt_irrefl, if_false, if_true, get]
        split <;> rfl
      · simp only [h1, h2, if_false, get, ih]
        by_cases h3 : i = j
        · have : k ≠ j := fun h => h2 (h.trans h3.symm)
          simp [h3, this]
        · simp [h3]

@[simp] theorem get_put_self (t : Table α) (k : Nat) (a : α) : (t.put k a).get k = some a := by
  simp [get_put]

theorem get_put_of_ne (t : Table α) {k j : Nat} (a : α) (h : j ≠ k) : (t.put k a).get j = t.get j := by
  simp [get_put, h.symm]

theorem get_drop (t : Table α) (k j : Nat) : (t.drop k).get j = if k = j then none else t.get j := by
  induction t with
  | nil => simp [drop, get]
  | cons p rest ih =>
    obtain ⟨i, b⟩ := p
    simp only [drop] at ih
    by_cases h : i = k
    · subst h
      simp only [drop, ne_eq, List.filter_cons, not_true_eq_false, decide_false, Bool.false_eq_true, if_false, ih, get]
      by_cases h2 : i = j <;> simp [h2]
    · simp only [drop, ne_eq, List.filter_cons, h, not_false_eq_true, decide_true, if_true, get]
      by_cases h2 : i = j
      · have : k ≠ j := fun e => h (h2.trans e.symm)
        simp [h2, this]
      · rw [if_neg h2, if_neg h2]
        exact ih

@[simp] theorem get_drop_self (t : Table α) (k : Nat) : (t.drop k).get k = none := by simp [get_drop]

/-! ### The canonical form -/

theorem mem_put {t : Table α} {k : Nat} {a : α} {p : Nat × α} (h : p ∈ t.put k a) : p = (k, a) ∨ p ∈ t := by
  induction t with
  | nil => simpa [put] using h
  | cons q rest ih =>
    obtain ⟨i, b⟩ := q
    unfold put at h
    split at h
    · simpa using h
    · split at h
      · simp only [List.mem_cons] at h ⊢
        tauto
      · simp only [List.mem_cons] at h ⊢
        rcases h with h | h
        · tauto
        · rcases ih h with h | h <;> tauto

theorem put_wf {t : Table α} (k : Nat) (a : α) (h : t.wf) : (t.put k a).wf := by
  induction t with
  | nil => simp [put, wf]
  | cons q rest ih =>
    obtain ⟨i, b⟩ := q
    have hp := List.pairwise_cons.mp h
    unfold put
    split
    · rename_i hlt
      refine List.pairwise_cons.mpr ⟨?_, h⟩
      intro x hx
      rcases List.mem_cons.mp hx with rfl | hx
      · exact hlt
      · exact Nat.lt_trans hlt (hp.1 x hx)
    · split
      · rename_i heq
        subst heq
        exact List.pairwise_cons.mpr ⟨hp.1, hp.2⟩
      · rename_i h1 h2
        refine List.pairwise_cons.mpr ⟨?_, ih hp.2⟩
        intro x hx
        rcases mem_put hx with rfl | hx
        · exact Nat.lt_of_le_of_ne (Nat.le_of_not_lt h1) (fun e => h2 e.symm)
        · exact hp.1 x hx

theorem drop_wf {t : Table α} (k : Nat) (h : t.wf) : (t.drop k).wf := List.Pairwise.filter _ h

theorem map_wf {t : Table α} (f : Nat × α → α) (h : t.wf) : Table.wf (t.map (fun e => (e.1, f e))) := by
  unfold wf
  rw [List.pairwise_map]
  exact h

@[simp] theorem nil_wf : Table.wf ([] : Table α) := List.Pairwise.nil

/-! ### Members and finds of a canonical table -/

theorem mem_of_get {t : Table α} {k : Nat} {a : α} (h : t.get k = some a) : (k, a) ∈ t := by
  induction t with
  | nil => simp [get] at h
  | cons p rest ih =>
    obtain ⟨i, b⟩ := p
    unfold get at h
    split at h
    · rename_i e
      cases h
      subst e
      exact List.mem_cons_self
    · exact List.mem_cons_of_mem _ (ih h)

theorem get_of_mem {t : Table α} {k : Nat} {a : α} (hw : t.wf) (h : (k, a) ∈ t) : t.get k = some a := by
  induction t with
  | nil => simp at h
  | cons p rest ih =>
    obtain ⟨i, b⟩ := p
    have hp := List.pairwise_cons.mp hw
    unfold get
    rcases List.mem_cons.mp h with e | h
    · cases e
      simp
    · have hlt : i < k := hp.1 _ h
      rw [if_neg (Nat.ne_of_lt hlt)]
      exact ih hp.2 h

/-- What a find gives stands in the table under its key, and meets the test. -/
theorem find_some {t : Table α} {p : α → Bool} {k : Nat} {a : α} (hw : t.wf) (h : t.find p = some (k, a)) :
    t.get k = some a ∧ p a = true := by
  unfold find at h
  exact ⟨get_of_mem hw (List.mem_of_find?_eq_some h), by simpa using List.find?_some h⟩

/-- R1, R28: the position given out is free and the lowest such. -/
theorem lowestFree_some {t : Table α} {limit k : Nat} (h : t.lowestFree limit = some k) :
    k < limit ∧ t.get k = none ∧ ∀ j < k, (t.get j).isSome = true := by
  unfold lowestFree at h
  rw [List.find?_range_eq_some] at h
  obtain ⟨h1, h2, h3⟩ := h
  refine ⟨by simpa using h2, by simpa using h1, fun j hj => ?_⟩
  have := h3 j hj
  simpa [Option.isSome_iff_ne_none] using this

end Sys2Proof.Machine.Table
end

