-- ==== Sys2Proof/Laws/Finds.lean ====
section
/-! SUPPORT. What the finds of R1 give: the record found stands in its slot and bears the name; and the operands that
stand for one value only. -/

namespace Sys2Proof.Machine

namespace State

theorem touch_eq (s : State) (k : Nat) :
    s.touch k = { s with vt := { s.vt with changes := withChange s.vt.changes k } } := by
  unfold touch withChange
  split <;> rfl

@[simp] theorem touch_changes (s : State) (k : Nat) : (s.touch k).vt.changes = withChange s.vt.changes k := by
  rw [touch_eq]

theorem visit_setVisit (s : State) (k j : Nat) (v : Visit) :
    (s.setVisit k v).visit j = if k = j then some v else s.visit j := Table.get_put _ _ _ _

@[simp] theorem visit_setVisit_self (s : State) (k : Nat) (v : Visit) : (s.setVisit k v).visit k = some v :=
  Table.get_put_self _ _ _

theorem visit_setVisit_of_ne (s : State) {k j : Nat} (v : Visit) (h : j ≠ k) : (s.setVisit k v).visit j = s.visit j :=
  Table.get_put_of_ne _ _ h

variable {s : State} {slot : Nat} {v : Visit}

theorem byTicket_visit {t : Nat} (hw : s.vt.records.wf) (h : s.byTicket t = some (slot, v)) :
    s.visit slot = some v ∧ v.ticket = some t := by
  have := Table.find_some hw h
  simpa [visit] using this

theorem byHandle_visit {h : Nat} (hf : s.byHandle h = some (slot, v)) :
    slot = h ∧ s.visit slot = some v ∧ v.hasHandle = true := by
  unfold byHandle at hf
  split at hf
  · cases hf
  · split at hf
    · cases hf
      exact ⟨rfl, by assumption, by assumption⟩
    · cases hf

theorem byName_visit {name : RecordName} (hw : s.vt.records.wf) (h : s.byName name = some (slot, v)) :
    s.visit slot = some v := by
  cases name with
  | ticket t => exact (byTicket_visit hw h).1
  | handle k => exact (byHandle_visit h).2.1

theorem byTagBooked_visit {t : Tag} (hw : s.vt.records.wf) (h : s.byTagBooked t = some (slot, v)) :
    s.visit slot = some v ∧ v.tag = t ∧ v.state = .booked := by
  have := Table.find_some hw h
  simpa [visit] using this

theorem vehicleByTag_get {t : Tag} {i : Nat} {veh : Vehicle} (hw : s.vehicles.wf)
    (h : s.vehicleByTag t = some (i, veh)) : s.vehicles.get i = some veh ∧ veh.tag = t := by
  have := Table.find_some hw h
  simpa using this

theorem boundRecord_visit {n : Fin 4} (hw : s.vt.records.wf) (h : s.boundRecord n = some (slot, v)) :
    s.visit slot = some v ∧ (s.lane n).bound = v.ticket := by
  unfold boundRecord at h
  split at h
  · cases h
  · rename_i t ht
    exact ⟨(byTicket_visit hw h).1, ht.trans (byTicket_visit hw h).2.symm⟩

/-- R176: with no lane watching for a record nothing ends. -/
theorem endTracking_idle (h : ∀ n : Fin 4, (s.lane n).heldVisit = none) (t : Option Nat) : s.endTracking t = s := by
  cases t with
  | none => rfl
  | some t => simp [endTracking, forLanes, allLanes, List.foldl, h]

end State

theorem flag?_of_le {u : Nat} (h : u ≤ 1) : flag? u = some (decide (u = 1)) := by
  interval_cases u <;> rfl

/-! ### The latch -/

namespace Notices

theorem isLatched_latch (n : Notices) (src : Source) (bit : Nat) (h : bit < 16) :
    (n.latch src bit).isLatched src bit = true := by
  have : (n.latched.set src.word (n.latched.get src.word ||| BitVec.twoPow 16 bit)).get src.word =
      (n.latched.get src.word ||| BitVec.twoPow 16 bit) := by
    simp [Vector.get_eq_getElem]
  simp only [latch, isLatched, this]
  simp [h]

theorem takeLevels_isLatched (n : Notices) (new : Vector Word 7) {src : Source} {bit : Nat}
    (h : n.isLatched src bit = true) : (n.takeLevels new).isLatched src bit = true := by
  simp only [isLatched, takeLevels, Vector.get_eq_getElem, Vector.getElem_ofFn] at *
  split
  · simp [h]
  · exact h

theorem latch_isLatched (n : Notices) (src' : Source) (bit' : Nat) {src : Source} {bit : Nat}
    (h : n.isLatched src bit = true) : (n.latch src' bit').isLatched src bit = true := by
  simp only [isLatched, latch, Vector.get_eq_getElem, Vector.getElem_set] at *
  split
  · rename_i e
    simp only [e, BitVec.getLsbD_or, h, Bool.true_or]
  · exact h

end Notices

@[simp] theorem State.followLevels_isLatched (s : State) {src : Source} {bit : Nat}
    (h : s.notices.isLatched src bit = true) : s.followLevels.notices.isLatched src bit = true :=
  Notices.takeLevels_isLatched _ _ h

@[simp] theorem State.followLevels_levels (s : State) : s.followLevels.notices.levels = s.drivenLevels := by
  simp only [State.followLevels, Notices.takeLevels]

/-- The driven levels look at the units, the lanes, the decks, the Visit Table and the image alone. -/
theorem State.drivenLevels_congr {s t : State} (hu : s.units = t.units) (hl : s.lanes = t.lanes)
    (hd : s.decks = t.decks) (hv : s.vt = t.vt) (ho : s.loader = t.loader) : s.drivenLevels = t.drivenLevels := by
  cases s
  cases t
  simp only at hu hl hd hv ho
  subst hu hl hd hv ho
  rfl

@[simp] theorem State.followLevels_drivenLevels (s : State) : s.followLevels.drivenLevels = s.drivenLevels :=
  State.drivenLevels_congr (by simp) (by simp) (by simp) (by simp) (by simp)

theorem LevelsFollow.follow (s : State) : LevelsFollow s.followLevels :=
  (State.followLevels_levels s).trans (State.followLevels_drivenLevels s).symm

end Sys2Proof.Machine
end

