-- ==== Sys2Proof/Laws/Loop.lean ====
section
/-! SUPPORT. What the loop's shared operations do: the slot that a step may begin or end, a partial frame discarded, the
end of an IN slot, a frame opened and started, and a frame handed to the blocks. -/

namespace Sys2Proof.Machine

@[simp] theorem mapEach_get {α β : Type} {n : Nat} (f : α → β) (v : Vector α n) (k : Fin n) :
    (mapEach f v).get k = f (v.get k) := by
  simp [mapEach, Vector.get_eq_getElem]

/-- R151: the settings in frames rest on the image and on the period in force alone. -/
theorem State.frames_congr {s t : State} (x : Setting) (hi : s.loader.image = t.loader.image)
    (hp : s.loop.period = t.loop.period) : s.frames x = t.frames x := by
  simp only [State.frames, hi, hp]

namespace State

/-! ### Frames (R139, R146, R147) -/

/-- R147: all that discarding a frame changes: the loop's record of the frame, and the marks of units and decks. -/
theorem discardFrame_eq (s : State) : s.discardFrame = { s with
    loop := { s.loop with
      working := [], position := none, markerOpen := false, polled := none, slotDone := false, begun := none
      shown := 0, pauseShown := false }
    units := s.discardFrame.units, decks := s.discardFrame.decks } := rfl

/-- R99, R159, R166: what clearing the marks of the frame in progress does, to units and decks alone. -/
theorem clearMarks_eq (s : State) :
    s.clearMarks = { s with units := s.clearMarks.units, decks := s.clearMarks.decks } := rfl

theorem clearMarks_clears (s : State) : FrameMarksCleared s s.clearMarks where
  units u := by simp only [State.unit, clearMarks, mapEach_get]
  decks n := by simp only [State.deck, clearMarks, mapEach_get]

theorem discardFrame_clears (s : State) : FrameMarksCleared s s.discardFrame :=
  ⟨s.clearMarks_clears.1, s.clearMarks_clears.2⟩

theorem openFrame_clears (s : State) : FrameMarksCleared s s.openFrame := ⟨s.clearMarks_clears.1, s.clearMarks_clears.2⟩

/-- R132, R147: all that LOOP STOP changes: a frame is discarded, and no message waits in STOPPED. -/
theorem stopLoop_eq (s : State) : s.stopLoop = { s with
    loop := { s.loop with
      state := .stopped, delivery := none, working := [], position := none, markerOpen := false, polled := none
      slotDone := false, begun := none, shown := 0, pauseShown := false }
    units := s.stopLoop.units, decks := s.stopLoop.decks } := rfl

theorem stopLoop_clears (s : State) : FrameMarksCleared s s.stopLoop :=
  ⟨s.clearMarks_clears.1, s.clearMarks_clears.2⟩

/-- Marks that have been cleared are clear. -/
theorem FrameMarksCleared.trans {s t u : State} (h : FrameMarksCleared s t) (h' : FrameMarksCleared t u) :
    FrameMarksCleared s u where
  units k := by rw [h'.units, h.units]
  decks k := by rw [h'.decks, h.decks]

/-- R147, R151: a resume after SLOT SET: the loop as LOOP START leaves it, the table no longer changed. -/
theorem resumeAnew_eq (s : State) : s.resumeAnew = { s with
    units := s.resumeAnew.units, decks := s.resumeAnew.decks
    loop := { startedLoop s.loop with tableChanged := false } } := rfl

theorem resumeAnew_clears (s : State) : FrameMarksCleared s s.resumeAnew :=
  FrameMarksCleared.trans s.discardFrame_clears ⟨(openFrame_clears _).1, (openFrame_clears _).2⟩

/-- R90, R146, R151: a start: the loop's record and the travel timers that waited for it. -/
theorem startLoop_eq (s : State) : s.startLoop = { s with
    loop := startedLoop s.loop, barriers := s.startLoop.barriers, units := s.startLoop.units
    decks := s.startLoop.decks } := rfl

theorem startLoop_clears (s : State) : FrameMarksCleared s s.startLoop :=
  ⟨s.clearMarks_clears.1, s.clearMarks_clears.2⟩

theorem startLoop_barrier (s : State) (n : Fin 4) : s.startLoop.barrier n =
    travelStarted (s.barrier n) (framesOf (settingMs s.loader.image .travel) (s.loop.frameLength + 1)) := by
  simp only [State.barrier, startLoop, loadTravel, openFrame, clearMarks, mapEach_get, travelStarted, frames]
  rfl

/-! ### The slot in progress (R134, R147) -/

/-- R147: where the slot of a PAUSING loop has not ended, a RESUME calls the pause off and nothing else. -/
theorem callOffPause_inSlot (s : State) (h : s.loop.slotDone = false) :
    s.callOffPause = { s with loop := { s.loop with state := .running, pauseShown := false } } := by
  simp only [callOffPause, h, Bool.false_eq_true, if_false]

theorem callOffPause_ended (s : State) (h : s.loop.slotDone = true) : s.callOffPause = s.resumeAfter := by
  simp only [callOffPause, h, if_true]

/-- R134: what LOOP STATUS draws (log 40): never a slot before the first that can be in progress, nor one after the
last. -/
theorem positionDrawn_ge (s : State) : s.firstInProgress ≤ s.positionDrawn := Nat.le_add_right _ _

theorem positionDrawn_le (s : State) :
    s.positionDrawn ≤ max s.firstInProgress (s.loop.lastInProgress s.slotNow) := by
  have := Nat.mod_lt (Config.slotInProgress s.free)
    (show 0 < s.loop.lastInProgress s.slotNow - s.firstInProgress + 1 by omega)
  simp only [positionDrawn]
  omega

/-- R147: after a RESUME the slot after the one that had ended is in progress, or a later one. -/
theorem firstInProgress_resumeAfter (s : State) : s.slotAfter ≤ s.resumeAfter.firstInProgress := by
  simp only [firstInProgress, resumeAfter, Option.getD_some]
  omega

/-! ### The frame end (R145) -/

@[simp] theorem blocksFrameEnd_lane (s : State) (n : Fin 4) : s.blocksFrameEnd.lane n = (s.lane n).frameEnd := by
  simp only [State.lane, blocksFrameEnd, mapEach_get]

@[simp] theorem blocksFrameEnd_barrier (s : State) (n : Fin 4) :
    s.blocksFrameEnd.barrier n = (s.barrier n).frameEnd := by
  simp only [State.barrier, blocksFrameEnd, mapEach_get]

@[simp] theorem blocksFrameEnd_deck (s : State) (n : Fin 4) : s.blocksFrameEnd.deck n = (s.deck n).frameEnd := by
  simp only [State.deck, blocksFrameEnd, mapEach_get]

@[simp] theorem blocksFrameEnd_engine (s : State) (n : Fin 4) :
    s.blocksFrameEnd.engine n = (s.engine n).frameEnd := by
  simp only [State.engine, blocksFrameEnd, mapEach_get]

/-- R145: the frame end of the blocks changes their four sets of records alone. -/
theorem blocksFrameEnd_eq (s : State) : s.blocksFrameEnd = { s with
    lanes := s.blocksFrameEnd.lanes, barriers := s.blocksFrameEnd.barriers, decks := s.blocksFrameEnd.decks
    engines := s.blocksFrameEnd.engines } := rfl

/-! ### IN slots (R142, R143) -/

/-- R142, R143: the end of an IN slot changes the loop's record alone. -/
theorem endInSlot_eq (s : State) (k : Nat) (heard : Heard) :
    s.endInSlot k heard = slotEnded s k (s.inSlotStatus k heard).1 (s.inSlotStatus k heard).2 := rfl

end State

/-- R142: an IN slot in which the part listens may end. -/
theorem Listens.ends {s : State} {k : Nat} {u : Fin 8} (h : Listens s k u) :
    (s.pollEnds k || s.listenEnds k) = true := by
  have turns := h.turns
  rcases h.slot with ⟨hu, hm, hp, hn, hd⟩ | ⟨-, hp, hk⟩
  · have open_ : s.listenEnds k = true := by
      simp only [State.listenEnds, State.slotNow, h.clear, hm, hp, hn, h.owner, hu]
      rcases turns with t | t
      · simp [t]
      · have shown : (!s.loop.pauseShown || decide (s.loop.shown = k)) = true := by
          cases hs : s.loop.pauseShown
          · rfl
          · simpa using (hd t).2 hs
        simp [t, (hd t).1, shown]
    simp [open_]
  · have ends : s.pollEnds k = true := by
      simp only [State.pollEnds, h.clear, hp, hk]
      rcases turns with t | t <;> simp [t]
    simp [ends]

/-- R142: what an IN slot that listens does at its end. -/
theorem Listens.inSlotEnd {s : State} {k : Nat} {u : Fin 8} (h : Listens s k u) (heard : Heard) :
    exec (.inSlotEnd k heard) s = .next (slotEnded s k (judgeHeard u (s.loop.addresses.get u) heard).1
      (judgeHeard u (s.loop.addresses.get u) heard).2) := by
  have unit : s.slotUnit k = u := by simp [State.slotUnit, h.owner]
  have heardOf : s.inSlotStatus k heard = judgeHeard u (s.loop.addresses.get u) heard := by
    have : s.loop.polled ≠ some false := by
      rcases h.slot with ⟨-, -, hp, -⟩ | ⟨-, hp, -⟩ <;> simp [hp]
    simp [State.inSlotStatus, this, unit]
  show execInSlotEnd k heard s = _
  simp only [execInSlotEnd, when, whileUp, h.up, h.ends, State.endInSlot_eq, heardOf]
  rfl

end Sys2Proof.Machine
end

