-- ==== Sys2Proof/Laws/Outcome.lean ====
section
/-! SUPPORT. What the shared shapes of a meaning do: a step under its condition, a request at the port, a delivery. -/

namespace Sys2Proof.Machine

/-! ### Steps under a condition (log 1) -/

theorem whileUp_low {s : State} (f : State → State) (h : s.rstLow = true) : whileUp s f = .next s := by
  simp [whileUp, h]

theorem whileUp_high {s : State} (f : State → State) (h : s.rstLow = false) : whileUp s f = .next (f s) := by
  simp [whileUp, h]

theorem when_holds {s : State} {c : Bool} (f : State → State) (h : s.rstLow = false) (hc : c = true) :
    when c s f = .next (f s) := by
  simp [when, whileUp, h, hc]

theorem when_fails {s : State} {c : Bool} (f : State → State) (hc : c = false) : when c s f = .next s := by
  simp [when, whileUp, hc]

theorem when_low {s : State} (c : Bool) (f : State → State) (h : s.rstLow = true) : when c s f = .next s :=
  whileUp_low _ h

/-! ### Requests (R192, R193) -/

theorem onPort_low {s : State} (c : Instr) (body : State → State) (h : s.rstLow = true) : onPort c s body = .next s :=
  whileUp_low _ h

theorem onPort_taken {s : State} {c : Instr} (body : State → State) (h : s.rstLow = false)
    (ht : s.portTakes c = true) : onPort c s body = .next (body s) := by
  simp [onPort, whileUp, h, ht]

theorem onPort_busy {s : State} {c : Instr} (body : State → State) (h : s.rstLow = false)
    (ht : s.portTakes c = false) (hh : s.port.handed ≠ some c) :
    onPort c s body = .next (s.portBusy (codeByte c)) := by
  simp [onPort, whileUp, h, ht, State.turnAway, hh]

/-- The own step of a request that was taken within another step (log 31). -/
theorem onPort_early {s : State} {c : Instr} (body : State → State) (h : s.rstLow = false)
    (ht : s.portTakes c = false) (hh : s.port.handed = some c) :
    onPort c s body = .next { s with port := { s.port with handed := none } } := by
  simp [onPort, whileUp, h, ht, State.turnAway, hh]

theorem Accepts.ready {s : State} {c : Instr} (h : Accepts s c) : s.notReady = false := by
  simp [State.notReady, h.loaded, h.steady]

theorem notReady_of {s : State} (h : s.loader.status = .loading ∨ s.restarting = true) : s.notReady = true := by
  rcases h with h | h <;> simp [State.notReady, h]

/-- A request that is accepted is answered with its block's reply. -/
theorem request_accepted {s : State} {c : Instr} (body : State → Reply) (h : Accepts s c) :
    request c s body = .next (answered (body s).1 c (body s).2.1 (body s).2.2) := by
  unfold request
  rw [onPort_taken _ h.up h.taken, h.ready]
  rfl

theorem request_low {s : State} (c : Instr) (body : State → Reply) (h : s.rstLow = true) :
    request c s body = .next s := onPort_low _ _ h

theorem request_busy {s : State} {c : Instr} (body : State → Reply) (h : s.rstLow = false)
    (ht : s.portTakes c = false) (hh : s.port.handed ≠ some c) :
    request c s body = .next (s.portBusy (codeByte c)) := onPort_busy _ h ht hh

theorem request_notReady {s : State} {c : Instr} (body : State → Reply) (h : s.rstLow = false)
    (ht : s.portTakes c = true) (hn : s.loader.status = .loading ∨ s.restarting = true) :
    request c s body = .next (answered s c .notReady .empty) := by
  unfold request
  rw [onPort_taken _ h ht, notReady_of hn]
  rfl

/-! ### Operands in range -/

@[simp] theorem inRange_true (s : State) (body : State → Reply) : inRange true s body = body s := rfl

@[simp] theorem inRange_false (s : State) (body : State → Reply) :
    inRange false s body = (s, .badParameter, .empty) := rfl

theorem onLane_of_lt {k : Nat} (h : k < 4) (s : State) (body : Fin 4 → State → Reply) :
    onLane k s body = body ⟨k, h⟩ s := by
  simp [onLane, lane?, h]

theorem onLane_of_ge {k : Nat} (h : 4 ≤ k) (s : State) (body : Fin 4 → State → Reply) :
    onLane k s body = (s, .badParameter, .empty) := by
  simp [onLane, lane?, Nat.not_lt.mpr h, State.refuse]

@[simp] theorem onLane_fin (n : Fin 4) (s : State) (body : Fin 4 → State → Reply) :
    onLane n.val s body = body n s := onLane_of_lt n.isLt s body

theorem onUnit_of_lt {k : Nat} (h : k < 8) (s : State) (body : Fin 8 → State → Reply) :
    onUnit k s body = body ⟨k, h⟩ s := by
  simp [onUnit, unit?, h]

theorem onUnit_of_ge {k : Nat} (h : 8 ≤ k) (s : State) (body : Fin 8 → State → Reply) :
    onUnit k s body = (s, .badParameter, .empty) := by
  simp [onUnit, unit?, Nat.not_lt.mpr h, State.refuse]

@[simp] theorem onUnit_fin (u : Fin 8) (s : State) (body : Fin 8 → State → Reply) :
    onUnit u.val s body = body u s := onUnit_of_lt u.isLt s body

@[simp] theorem onRecord_some (slot : Nat) (v : Visit) (s : State) (body : Nat → Visit → State → Reply) :
    onRecord (some (slot, v)) s body = body slot v s := rfl

@[simp] theorem onRecord_none (s : State) (body : Nat → Visit → State → Reply) :
    onRecord none s body = (s, .notFound, .empty) := rfl

/-! ### Deliveries (R143) -/

theorem deliver_taken {s : State} {c : Instr} {frame : Nat} (take : Nat → State → State) (h : s.rstLow = false)
    (hd : s.loop.delivery = some ⟨c, frame⟩) :
    deliver c s take = .next (take frame { s with loop := { s.loop with delivery := none } }) := by
  simp [deliver, whileUp, h, hd]

theorem deliver_none {s : State} (c : Instr) (take : Nat → State → State) (hd : s.loop.delivery = none) :
    deliver c s take = .next s := by
  simp [deliver, whileUp, hd]

theorem deliver_low {s : State} (c : Instr) (take : Nat → State → State) (h : s.rstLow = true) :
    deliver c s take = .next s := whileUp_low _ h

end Sys2Proof.Machine
end

