-- ==== Sys2Proof/Laws/PerInstr.lean ====
section
/-! SUPPORT. The family Frame: what each command is to the Request Port, constructor by constructor. -/

namespace Sys2Proof.Laws

/-- R194: a command is a request with one of the listed codes, which fits the frame's code byte and is no 0, or one of
the part's own steps, which bears no code and carries no parameters. -/
def Frame.Statement (c : Instr) : Prop :=
  (Machine.requestCode c ∈ Machine.requestCodes ∧ 1 ≤ Machine.requestCode c ∧ Machine.requestCode c < 256) ∨
    (Machine.requestCode c = 0 ∧ Machine.requestParams c = [])

theorem Frame.of_listed {c : Instr} {k : Nat} (h : Machine.requestCode c = k)
    (hk : k ∈ Machine.requestCodes ∧ 1 ≤ k ∧ k < 256) : Frame.Statement c := by
  subst h
  exact Or.inl hk

theorem Frame.of_step {c : Instr} (h : Machine.requestCode c = 0) (hp : Machine.requestParams c = []) :
    Frame.Statement c := Or.inr ⟨h, hp⟩

theorem Frame.hardReset :
    Frame.Statement (.hardReset) := Frame.of_step rfl rfl
theorem Frame.loadEnd (read : Option (List Word)) :
    Frame.Statement (.loadEnd read) := Frame.of_step rfl rfl
theorem Frame.transactionStart :
    Frame.Statement (.transactionStart) := Frame.of_step rfl rfl
theorem Frame.transactionEnd (sent : List Byte) (calEn : Bool) :
    Frame.Statement (.transactionEnd sent calEn) := Frame.of_step rfl rfl
theorem Frame.identify :
    Frame.Statement (.identify) := Frame.of_listed (k := 1) rfl (by decide)
theorem Frame.noticeReport :
    Frame.Statement (.noticeReport) := Frame.of_listed (k := 2) rfl (by decide)
theorem Frame.noticeMask (words : List Word) :
    Frame.Statement (.noticeMask words) := Frame.of_listed (k := 3) rfl (by decide)
theorem Frame.noticeEdge (words : List Word) :
    Frame.Statement (.noticeEdge words) := Frame.of_listed (k := 4) rfl (by decide)
theorem Frame.admitVisit (lane : Nat) (name : AdmitName) :
    Frame.Statement (.admitVisit lane name) := Frame.of_listed (k := 10) rfl (by decide)
theorem Frame.book (tag : Tag) (kind permit useTare day : Nat) :
    Frame.Statement (.book tag kind permit useTare day) := Frame.of_listed (k := 11) rfl (by decide)
theorem Frame.lookup (name : LookupName) :
    Frame.Statement (.lookup name) := Frame.of_listed (k := 12) rfl (by decide)
theorem Frame.amend (name : RecordName) (useTare day : Nat) :
    Frame.Statement (.amend name useTare day) := Frame.of_listed (k := 13) rfl (by decide)
theorem Frame.hold (name : RecordName) :
    Frame.Statement (.hold name) := Frame.of_listed (k := 14) rfl (by decide)
theorem Frame.releaseHold (name : RecordName) (lane : Option Nat) :
    Frame.Statement (.releaseHold name lane) := Frame.of_listed (k := 15) rfl (by decide)
theorem Frame.voidVisit (name : RecordName) :
    Frame.Statement (.voidVisit name) := Frame.of_listed (k := 16) rfl (by decide)
theorem Frame.retire (ticket : Nat) :
    Frame.Statement (.retire ticket) := Frame.of_listed (k := 17) rfl (by decide)
theorem Frame.nextDone :
    Frame.Statement (.nextDone) := Frame.of_listed (k := 18) rfl (by decide)
theorem Frame.takeChanges :
    Frame.Statement (.takeChanges) := Frame.of_listed (k := 19) rfl (by decide)
theorem Frame.tipDeclare (ticket category : Nat) :
    Frame.Statement (.tipDeclare ticket category) := Frame.of_listed (k := 20) rfl (by decide)
theorem Frame.call (lane ticket : Nat) :
    Frame.Statement (.call lane ticket) := Frame.of_listed (k := 21) rfl (by decide)
theorem Frame.vehiclePut (tag : Tag) (permit : Nat) (payload : Int) (groups refresh banned : Nat) (tare : TareParam) :
    Frame.Statement (.vehiclePut tag permit payload groups refresh banned tare) := Frame.of_listed (k := 24) rfl (by decide)
theorem Frame.vehicleGet (name : VehicleName) :
    Frame.Statement (.vehicleGet name) := Frame.of_listed (k := 25) rfl (by decide)
theorem Frame.vehicleDrop (tag : Tag) :
    Frame.Statement (.vehicleDrop tag) := Frame.of_listed (k := 26) rfl (by decide)
theorem Frame.tareStore (ticket index validity : Nat) :
    Frame.Statement (.tareStore ticket index validity) := Frame.of_listed (k := 27) rfl (by decide)
theorem Frame.permitPut (number : Nat) (allowed : BitVec 32) (primary expiry : Nat) :
    Frame.Statement (.permitPut number allowed primary expiry) := Frame.of_listed (k := 28) rfl (by decide)
theorem Frame.permitGet (name : PermitName) :
    Frame.Statement (.permitGet name) := Frame.of_listed (k := 29) rfl (by decide)
theorem Frame.permitAdjust (number : Nat) (amount : Int) :
    Frame.Statement (.permitAdjust number amount) := Frame.of_listed (k := 30) rfl (by decide)
theorem Frame.permitSuspend (number : Nat) :
    Frame.Statement (.permitSuspend number) := Frame.of_listed (k := 31) rfl (by decide)
theorem Frame.permitResume (number : Nat) :
    Frame.Statement (.permitResume number) := Frame.of_listed (k := 32) rfl (by decide)
theorem Frame.permitDrop (number : Nat) :
    Frame.Statement (.permitDrop number) := Frame.of_listed (k := 33) rfl (by decide)
theorem Frame.laneMode (lane mode autoTake walkIn walkTare autoCapture : Nat) :
    Frame.Statement (.laneMode lane mode autoTake walkIn walkTare autoCapture) := Frame.of_listed (k := 36) rfl (by decide)
theorem Frame.laneRelease (lane : Nat) :
    Frame.Statement (.laneRelease lane) := Frame.of_listed (k := 37) rfl (by decide)
theorem Frame.laneReset (lane : Nat) :
    Frame.Statement (.laneReset lane) := Frame.of_listed (k := 38) rfl (by decide)
theorem Frame.maintainOn (lane : Nat) :
    Frame.Statement (.maintainOn lane) := Frame.of_listed (k := 39) rfl (by decide)
theorem Frame.maintainOff (lane : Nat) :
    Frame.Statement (.maintainOff lane) := Frame.of_listed (k := 40) rfl (by decide)
theorem Frame.barrierRaise (lane : Nat) :
    Frame.Statement (.barrierRaise lane) := Frame.of_listed (k := 41) rfl (by decide)
theorem Frame.barrierLower (lane : Nat) :
    Frame.Statement (.barrierLower lane) := Frame.of_listed (k := 42) rfl (by decide)
theorem Frame.laneStatus (lane : Nat) :
    Frame.Statement (.laneStatus lane) := Frame.of_listed (k := 43) rfl (by decide)
theorem Frame.capture (lane : Nat) (burst : Option Nat) :
    Frame.Statement (.capture lane burst) := Frame.of_listed (k := 46) rfl (by decide)
theorem Frame.terminate (lane : Nat) :
    Frame.Statement (.terminate lane) := Frame.of_listed (k := 47) rfl (by decide)
theorem Frame.zero (deck : Nat) :
    Frame.Statement (.zero deck) := Frame.of_listed (k := 48) rfl (by decide)
theorem Frame.deckStatus (deck : Nat) :
    Frame.Statement (.deckStatus deck) := Frame.of_listed (k := 49) rfl (by decide)
theorem Frame.loopStart :
    Frame.Statement (.loopStart) := Frame.of_listed (k := 52) rfl (by decide)
theorem Frame.loopPause :
    Frame.Statement (.loopPause) := Frame.of_listed (k := 53) rfl (by decide)
theorem Frame.loopResume :
    Frame.Statement (.loopResume) := Frame.of_listed (k := 54) rfl (by decide)
theorem Frame.loopStop :
    Frame.Statement (.loopStop) := Frame.of_listed (k := 55) rfl (by decide)
theorem Frame.slotSet (frameLength : Nat) (entries : List Byte) :
    Frame.Statement (.slotSet frameLength entries) := Frame.of_listed (k := 56) rfl (by decide)
theorem Frame.unitAddress (unit address : Nat) :
    Frame.Statement (.unitAddress unit address) := Frame.of_listed (k := 57) rfl (by decide)
theorem Frame.inject (unit : Nat) :
    Frame.Statement (.inject unit) := Frame.of_listed (k := 58) rfl (by decide)
theorem Frame.loopStatus :
    Frame.Statement (.loopStatus) := Frame.of_listed (k := 59) rfl (by decide)
theorem Frame.counterMode (unit selection report : Nat) :
    Frame.Statement (.counterMode unit selection report) := Frame.of_listed (k := 62) rfl (by decide)
theorem Frame.counterReport (unit : Nat) :
    Frame.Statement (.counterReport unit) := Frame.of_listed (k := 63) rfl (by decide)
theorem Frame.autoSwitch (unit on : Nat) :
    Frame.Statement (.autoSwitch unit on) := Frame.of_listed (k := 64) rfl (by decide)
theorem Frame.unitStatus (unit : Nat) :
    Frame.Statement (.unitStatus unit) := Frame.of_listed (k := 65) rfl (by decide)
theorem Frame.settingRead (word source : Nat) :
    Frame.Statement (.settingRead word source) := Frame.of_listed (k := 68) rfl (by decide)
theorem Frame.settingWrite (word value : Nat) (calEn : Bool) :
    Frame.Statement (.settingWrite word value calEn) := Frame.of_listed (k := 69) rfl (by decide)
theorem Frame.reload :
    Frame.Statement (.reload) := Frame.of_listed (k := 70) rfl (by decide)
theorem Frame.restart :
    Frame.Statement (.restart) := Frame.of_listed (k := 71) rfl (by decide)
theorem Frame.clockSet (day minute : Nat) :
    Frame.Statement (.clockSet day minute) := Frame.of_listed (k := 72) rfl (by decide)
theorem Frame.clockRead :
    Frame.Statement (.clockRead) := Frame.of_listed (k := 73) rfl (by decide)
theorem Frame.storeReadEnd (answer : Option Word) :
    Frame.Statement (.storeReadEnd answer) := Frame.of_step rfl rfl
theorem Frame.writeCycleEnd (readBack : Option Word) :
    Frame.Statement (.writeCycleEnd readBack) := Frame.of_step rfl rfl
theorem Frame.restartEnd :
    Frame.Statement (.restartEnd) := Frame.of_step rfl rfl
theorem Frame.yardClockSecond :
    Frame.Statement (.yardClockSecond) := Frame.of_step rfl rfl
theorem Frame.dayChange :
    Frame.Statement (.dayChange) := Frame.of_step rfl rfl
theorem Frame.reportIntervalTick :
    Frame.Statement (.reportIntervalTick) := Frame.of_step rfl rfl
theorem Frame.marker (readBack : List BitSamples) :
    Frame.Statement (.marker readBack) := Frame.of_step rfl rfl
theorem Frame.laneCommand (slot : Nat) (readBack : List BitSamples) :
    Frame.Statement (.laneCommand slot readBack) := Frame.of_step rfl rfl
theorem Frame.poll (slot : Nat) (readBack : List BitSamples) :
    Frame.Statement (.poll slot readBack) := Frame.of_step rfl rfl
theorem Frame.inSlotEnd (slot : Nat) (heard : Heard) :
    Frame.Statement (.inSlotEnd slot heard) := Frame.of_step rfl rfl
theorem Frame.laneStatusMessage (unit : Fin 4) (report : LaneReport) :
    Frame.Statement (.laneStatusMessage unit report) := Frame.of_step rfl rfl
theorem Frame.tagRead (unit : Fin 4) (tag : Tag) :
    Frame.Statement (.tagRead unit tag) := Frame.of_step rfl rfl
theorem Frame.unitAlarm (unit : Fin 8) (code : AlarmCode) :
    Frame.Statement (.unitAlarm unit code) := Frame.of_step rfl rfl
theorem Frame.deckSample (deck : Fin 4) (raw : BitVec 24) (overRange : Bool) :
    Frame.Statement (.deckSample deck raw overRange) := Frame.of_step rfl rfl
theorem Frame.loopPaused (slot : Nat) :
    Frame.Statement (.loopPaused slot) := Frame.of_step rfl rfl
theorem Frame.settleTimerExpiry (lane : Fin 4) :
    Frame.Statement (.settleTimerExpiry lane) := Frame.of_step rfl rfl
theorem Frame.cycleTimerExpiry (lane : Fin 4) :
    Frame.Statement (.cycleTimerExpiry lane) := Frame.of_step rfl rfl
theorem Frame.recoveryTimerExpiry (lane : Fin 4) :
    Frame.Statement (.recoveryTimerExpiry lane) := Frame.of_step rfl rfl
theorem Frame.passageTimeout (lane : Fin 4) :
    Frame.Statement (.passageTimeout lane) := Frame.of_step rfl rfl
theorem Frame.travelTimerExpiry (lane : Fin 4) :
    Frame.Statement (.travelTimerExpiry lane) := Frame.of_step rfl rfl
theorem Frame.gateClearTimerExpiry (lane : Fin 4) :
    Frame.Statement (.gateClearTimerExpiry lane) := Frame.of_step rfl rfl
theorem Frame.abandonTimerExpiry (lane : Fin 4) :
    Frame.Statement (.abandonTimerExpiry lane) := Frame.of_step rfl rfl
theorem Frame.captureTimerExpiry (deck : Fin 4) :
    Frame.Statement (.captureTimerExpiry deck) := Frame.of_step rfl rfl
theorem Frame.trackingTimerExpiry (deck : Fin 4) :
    Frame.Statement (.trackingTimerExpiry deck) := Frame.of_step rfl rfl
theorem Frame.noDataEntry (deck : Fin 4) :
    Frame.Statement (.noDataEntry deck) := Frame.of_step rfl rfl
theorem Frame.unitLostEntry (unit : Fin 8) :
    Frame.Statement (.unitLostEntry unit) := Frame.of_step rfl rfl
theorem Frame.unitGoodEntry (unit : Fin 8) :
    Frame.Statement (.unitGoodEntry unit) := Frame.of_step rfl rfl
theorem Frame.alarmClear (unit : Fin 8) :
    Frame.Statement (.alarmClear unit) := Frame.of_step rfl rfl
theorem Frame.detectorAssert (unit : Fin 4) (kind : DetectorKind) :
    Frame.Statement (.detectorAssert unit kind) := Frame.of_step rfl rfl
theorem Frame.detectorDeassert (unit : Fin 4) (kind : DetectorKind) :
    Frame.Statement (.detectorDeassert unit kind) := Frame.of_step rfl rfl
theorem Frame.rstNLow :
    Frame.Statement (.rstNLow) := Frame.of_step rfl rfl

end Sys2Proof.Laws
end

