-- ==== Sys2Proof/Laws/Tries.lean ====
section
/-! SUPPORT. What the tries of a tag buffer do, and a host claim that is met before one (R56, R57). -/

namespace Sys2Proof.Machine

/-- R192: a request turned away changes the port alone. -/
theorem State.turnAway_eq (s : State) (c : Instr) (code : Byte) :
    s.turnAway c code = { s with port := (s.turnAway c code).port } := by
  unfold State.turnAway
  split <;> rfl

/-- R152: a slot drawn changes the model's own fields alone (log 40). -/
theorem State.drawPosition_eq (s : State) : s.drawPosition = { s with
    free := s.free + 1
    loop := { s.loop with shown := s.drawPosition.loop.shown, pauseShown := s.drawPosition.loop.pauseShown } } := rfl

/-- R134: the slot drawn is not below the first that can be in progress. -/
theorem State.firstInProgress_le_drawn (s : State) : s.firstInProgress ≤ s.drawPosition.loop.shown :=
  Nat.le_add_right _ _

/-- R57: what meeting a claim can do: nothing, a draw that leaves the claim waiting, or the claim taken. -/
theorem State.meetClaim_cases (s : State) (n : Fin 4) :
    s.meetClaim n = s ∨ s.meetClaim n = { s with free := s.free + 1 } ∨
      ∃ t, s.takeHandedClaim n = some t ∧ s.meetClaim n = { t with free := t.free + 1 } := by
  unfold State.meetClaim
  split
  · exact .inl rfl
  · split
    · exact .inl rfl
    · rename_i t ht
      split
      · exact .inr (.inr ⟨t, ht, rfl⟩)
      · exact .inr (.inl rfl)

/-- R57: a lane whose buffer is empty, or that does not take tags by itself, meets no claim. -/
theorem State.meetClaim_of_nothing (s : State) (n : Fin 4)
    (h : (s.lane n).autoTake = false ∨ (s.lane n).buffer = []) : s.meetClaim n = s := by
  unfold State.meetClaim
  rcases h with h | h <;> simp [h]

/-- R56: an empty buffer ends the try. -/
theorem State.makeTry_of_empty (s : State) (n : Fin 4) (h : (s.lane n).buffer = []) : s.makeTry n = s := by
  unfold State.makeTry
  split
  · simp [h, State.tryRounds]
  · rfl

/-- R56: a lane that has not entered IDLE makes no try. -/
theorem State.tryOnIdle_of_not {s t : State} {n : Fin 4} (h : (t.lane n).state ≠ .idle) : t.tryOnIdle n s = t := by
  simp [State.tryOnIdle, h]

/-- R56: an entry to IDLE with an empty buffer. -/
theorem State.tryOnIdle_of_empty {s t : State} {n : Fin 4} (h : (t.lane n).buffer = []) : t.tryOnIdle n s = t := by
  unfold State.tryOnIdle
  rw [State.meetClaim_of_nothing t n (.inr h), State.makeTry_of_empty t n h]
  split <;> rfl

end Sys2Proof.Machine
end

