-- ==== Sys2Proof/Tests/Slice0.lean ====
section
/-! SUPPORT. The tests: ill-formed commands the check refuses, a witness for the hypotheses of each statement at the
ends of its ranges, and single steps on small states. -/

namespace Sys2Proof.Tests

open Sys2Proof.Machine

/-! ### Small states -/

/-- The part with its defaults loaded, the tables empty and the port free. -/
def ready : State := { State.reset with loader := { Loader.reset with status := .loaded, afterReset := false } }

def veh : Vehicle := ⟨5, some 7, 1000, 0, none, false, false, 1⟩
def perm : Permit := ⟨.active, 5000, 1000, 3, 0, 100, 1⟩
def weighing (r : Role) : Weighing := ⟨r, some 0, some .whole, 8000, none, .complete, .valid, true, ⟨10, 60⟩⟩

/-- A record of the vehicle above, with ticket 1. -/
def record (st : VisitState) (lane : Option (Fin 4)) : Visit :=
  { newVisit .tip 5 0 (some 7) false none with ticket := some 1, state := st, lane := lane }

/-- The part with one record, its vehicle and its permit. -/
def yard (v : Visit) : State :=
  { ready with
    vt := { VisitTable.reset with records := [(0, v)], nextTicket := 2 }
    vehicles := [(0, veh)], permits := [(7, perm)], clock := ⟨10, 60, 5, true⟩ }

/-- That part with lane L0 in a mode and a state, the record bound to it where `b` is set. -/
def atLane (mode : LaneMode) (st : LaneState) (b : Bool) (v : Visit) : State :=
  (yard v).setLane 0 { Lane.reset with
    mode := mode, state := st, bound := if b then some 1 else none, boundTag := if b then some 5 else none }

def params : DeckParams := ⟨1000, 32768, 60000, 20, 20⟩

/-- With deck D0 enabled, in a state. -/
def withDeck (s : State) (st : DeckState) : State :=
  s.setDeck 0 { Deck.reset with
    method := .whole, params := some params, certified := true, workingZero := 1000, state := st, noData := 0 }

def withBarrier (s : State) (st : BarrierState) (o : BarrierOrder) : State :=
  s.setBarrier 0 { Barrier.reset with state := st, order := o, travelAtStart := false }

/-- With a message waiting for its block, in frame 9. -/
def delivering (s : State) (c : Instr) : State := { s with loop := { s.loop with delivery := some ⟨c, 9⟩ } }

/-- The test of a next state. -/
def after (r : Result) (p : State → Bool) : Bool :=
  match r with
  | .next t => p t
  | .fault _ | .refused _ => false

theorem accepts_of {s : State} {c : Instr}
    (h : s.rstLow = false ∧ s.portTakes c = true ∧ s.loader.status ≠ .loading ∧ s.restarting = false) : Accepts s c :=
  ⟨h.1, h.2.1, h.2.2.1, h.2.2.2⟩

theorem canonical_of {s : State} (h : s.vt.records.wf ∧ s.vehicles.wf ∧ s.permits.wf) : TablesCanonical s :=
  ⟨h.1, h.2.1, h.2.2⟩

/-- What `Accepts` says, as a condition that can be decided. -/
theorem accepts_iff (s : State) (c : Instr) : Accepts s c ↔
    (s.rstLow = false ∧ s.portTakes c = true ∧ s.loader.status ≠ .loading ∧ s.restarting = false) :=
  ⟨fun h => ⟨h.up, h.taken, h.loaded, h.steady⟩, accepts_of⟩

theorem canonical_iff (s : State) : TablesCanonical s ↔ (s.vt.records.wf ∧ s.vehicles.wf ∧ s.permits.wf) :=
  ⟨fun h => ⟨h.records, h.vehicles, h.permits⟩, canonical_of⟩

/-! ### The check of a command's operands -/

theorem test_illFormed_visits :
    ([.loadEnd (some []), .noticeMask [], .noticeEdge [], .admitVisit 256 (.tag 0), .admitVisit 0 (.handle 256),
      .book 0 256 0 0 0, .book 0 0 65536 0 0, .book 0 0 0 256 0, .book 0 0 0 0 65536, .lookup (.ticket 4294967296),
      .lookup (.handle 256), .amend (.ticket 4294967296) 0 0, .amend (.handle 0) 256 0, .amend (.handle 0) 0 65536,
      .hold (.handle 256), .releaseHold (.handle 256) none, .releaseHold (.handle 0) (some 256),
      .voidVisit (.ticket 4294967296), .retire 4294967296, .tipDeclare 4294967296 0, .tipDeclare 0 256,
      .call 256 0, .call 0 4294967296] : List Instr).all (fun c => !c.wf) = true := by decide

theorem test_illFormed_registers :
    ([.vehiclePut 0 65536 0 0 0 0 .none, .vehiclePut 0 0 2147483648 0 0 0 .none, .vehiclePut 0 0 0 256 0 0 .none,
      .vehiclePut 0 0 0 0 256 0 .none, .vehiclePut 0 0 0 0 0 256 .none,
      .vehiclePut 0 0 0 0 0 0 (.weight (-2147483649) 0 0), .vehiclePut 0 0 0 0 0 0 (.weight 0 65536 0),
      .vehiclePut 0 0 0 0 0 0 (.weight 0 0 65536), .vehicleGet (.index 65536), .tareStore 4294967296 0 0,
      .tareStore 0 256 0, .tareStore 0 0 65536, .permitPut 65536 0 0 0, .permitPut 0 0 256 0, .permitPut 0 0 0 65536,
      .permitGet (.number 65536), .permitGet (.next 65536), .permitAdjust 65536 0, .permitAdjust 0 2147483648,
      .permitSuspend 65536, .permitResume 65536, .permitDrop 65536] : List Instr).all (fun c => !c.wf) = true := by
  decide

theorem test_illFormed_lanes :
    ([.laneMode 256 0 0 0 0 0, .laneMode 0 256 0 0 0 0, .laneMode 0 0 256 0 0 0, .laneMode 0 0 0 256 0 0,
      .laneMode 0 0 0 0 256 0, .laneMode 0 0 0 0 0 256, .laneRelease 256, .laneReset 256, .maintainOn 256,
      .maintainOff 256, .barrierRaise 256, .barrierLower 256, .laneStatus 256, .terminate 256, .zero 256,
      .deckStatus 256, .capture 256 none, .capture 0 (some 256)] : List Instr).all (fun c => !c.wf) = true := by decide

theorem test_illFormed_loop :
    ([.slotSet 256 (List.replicate 22 15), .slotSet 0 [], .unitAddress 256 0, .unitAddress 0 256, .inject 256,
      .counterReport 256, .unitStatus 256, .counterMode 256 0 0, .counterMode 0 256 0, .counterMode 0 0 256,
      .autoSwitch 256 0, .autoSwitch 0 256, .settingRead 65536 0, .settingRead 0 256, .settingWrite 65536 0 false,
      .settingWrite 0 65536 false, .clockSet 65536 0, .clockSet 0 65536, .laneCommand 0 [], .laneCommand 23 [],
      .poll 0 [], .poll 23 [], .inSlotEnd 0 .nothing, .inSlotEnd 23 .nothing, .loopPaused 23] : List Instr).all
      (fun c => !c.wf) = true := by decide

theorem test_wellFormed :
    ([.loadEnd none, .loadEnd (some defaultImage), .admitVisit 255 (.handle 255), .book 0 255 65535 255 65535,
      .slotSet 255 (List.replicate 22 15), .laneCommand 1 [], .poll 22 [], .loopPaused 0, .capture 0 none,
      .permitAdjust 0 (-2147483648), .rstNLow] : List Instr).all Instr.wf = true := by decide +kernel

/-! ### The port, start-up and the clock -/

theorem witness_EveryCommandAnswersNextState :
    { State.reset with rstLow := true }.rstLow = true ∧ Instr.identify ≠ .hardReset ∧ Instr.identify ≠ .rstNLow := by
  decide

theorem witness_PortDropsOrAnswersRequests :
    let busy := { ready with port := { Port.reset with buffer := .pending 1 } }
    let early := { ready with port := { Port.reset with buffer := .answer 21 .ok .empty, handed := some (.call 0 1) } }
    (busy.rstLow = false ∧ requestCode .clockRead ≠ 0 ∧ busy.portTakes .clockRead = false ∧
      busy.port.handed ≠ some .clockRead) ∧
    (early.rstLow = false ∧ requestCode (.call 0 1) ≠ 0 ∧ early.portTakes (.call 0 1) = false ∧
      early.port.handed = some (.call 0 1)) ∧
    (State.reset.rstLow = false ∧ State.reset.portTakes .clockRead = true ∧ State.reset.loader.status = .loading) ∧
    (ready.rstLow = false ∧ { ready with restarting := true }.portTakes (.settingRead 0 0) = true) ∧
    State.reset.portTakes .identify = true := by decide

theorem witness_FramesCarryRequestsAndAnswers_parameters :
    (Instr.clockSet 65535 65535).wf = true ∧ requestCode (.clockSet 65535 65535) ≠ 0 ∧
    (Instr.settingWrite 3 4 true).wf = true ∧
    (∀ word value level, Instr.settingWrite 3 4 true = .settingWrite word value level → level = true) := by
  refine ⟨by decide, by decide, by decide, ?_⟩
  rintro _ _ _ ⟨⟩
  rfl

/-- The three cases of a request frame: a free port, the whole answer read in the same transaction, and a port not
free. -/
theorem witness_FramesCarryRequestsAndAnswers_request :
    let s := { ready with port := { Port.reset with sending := some ⟨false, []⟩ } }
    let read := { ready with port := { Port.reset with
      buffer := .answer 70 .ok .empty, sending := some ⟨true, [0x46, 0, 0]⟩ } }
    let full := { ready with port := { Port.reset with buffer := .pending 1, sending := some ⟨false, []⟩ } }
    (Instr.hold (.handle 255)).wf = true ∧ requestCode (.hold (.handle 255)) ≠ 0 ∧ s.rstLow = false ∧
      s.port.sending = some ⟨false, []⟩ ∧ s.port.buffer = .none ∧ read.port.sending = some ⟨true, [0x46, 0, 0]⟩ ∧
      3 ≤ (requestFrame (.hold (.handle 255)) ++ []).length ∧ full.port.sending = some ⟨false, []⟩ ∧
      full.port.buffer ≠ .none ∧
      (∀ word value level, Instr.hold (.handle 255) = .settingWrite word value level → level = false) := by
  refine ⟨by decide, by decide, by decide, by decide, by decide, by decide, by decide, by decide, by decide, ?_⟩
  rintro _ _ _ ⟨⟩

/-- R191: an IDENTIFY frame, byte by byte: its length 2, which counts the code and the check byte, code 1, and the check
byte FDH. -/
theorem test_frame_is_taken :
    requestFrame .identify = [2, 1, 0xFD] ∧
    after (exec (.transactionEnd [2, 1, 0xFD] false)
      { ready with port := { Port.reset with sending := some ⟨false, []⟩ } })
      (fun t => decide (t.port.handed = some .identify)) = true := by decide

theorem witness_FramesCarryRequestsAndAnswers_answer :
    let s := { ready with port := { Port.reset with buffer := .answer 70 .ok .empty } }
    s.rstLow = false ∧ s.port.sending = none ∧ s.port.buffer = .answer 70 .ok .empty ∧
      s.port.response.length ≤ s.port.response.length := by decide

/-- Frames on a free port: a length byte alone, a length of 1 and of 65, one byte too few and one bit too many, a code
that is not listed, and an IDENTIFY with a parameter, of which no request of code 1 has one. -/
theorem witness_FramesCarryRequestsAndAnswers_failed :
    let s := { ready with port := { Port.reset with sending := some ⟨false, []⟩ } }
    let framed (length : Byte) (rest : List Byte) := length ≠ 1 ∧ length.toNat ≤ 64 ∧ length.toNat ≤ rest.length ∧
      length + (rest.take length.toNat).sum = 0
    s.rstLow = false ∧ s.port.sending = some ⟨false, []⟩ ∧ s.port.buffer = .none ∧
    ¬ framed 1 [255] ∧ ¬ framed 65 [1] ∧ ¬ framed 2 [1] ∧ ¬ framed 2 [1, 0xFC] ∧ framed 2 [5, 0xF9] ∧
    framed 3 [1, 0, 0xFC] ∧ ∀ c, requestCode c = 1 → requestParams c ≠ ([0, 0xFC] : List Byte).take (3 - 2) := by
  refine ⟨by decide, by decide, by decide, by decide, by decide, by decide, by decide, by decide, by decide, ?_⟩
  intro c h
  cases c <;> first | (exfalso; revert h; simp only [requestCode]; decide) | decide

/-- R191, R192: those frames' answers, and a response frame byte by byte: condition PENDING, code 12, status NOT_READY,
busy status PORT_BUSY for code 9. -/
theorem test_frame_fails :
    let s := { ready with port := { Port.reset with sending := some ⟨false, []⟩ } }
    ([([2, 1, 0xFC], 1, Status.badFrame), ([2, 5, 0xF9], 5, .unknownRequest), ([3, 1, 0, 0xFC], 1, .badFrame)] :
      List (List Byte × Byte × Status)).all (fun x => after (exec (.transactionEnd x.1 false) s) (fun t =>
        decide (t.port.buffer = .answer x.2.1 x.2.2 .empty))) = true ∧
    { Port.reset with buffer := .pending 12, busy := true, busyCode := 9 }.response =
      [0x06, 0x00, 0x01, 0x0C, 0x02, 0x03, 0x09, 0xDF] := by decide

/-- A state in which all the laws hold, with an admitting visit bound to lane L0 and a command in the queue. -/
def keptState : State :=
  let v := { record .admitting (some 0) with reservation := 1000 }
  { atLane .entry .bound true v with pending := [.laneRelease 0] }

theorem keptState_visit {slot : Nat} {v : Visit} (h : keptState.visit slot = some v) :
    slot = 0 ∧ v = { record .admitting (some 0) with reservation := 1000 } := by
  have mem := Table.mem_of_get (t := keptState.vt.records) h
  have all : keptState.vt.records = [(0, { record .admitting (some 0) with reservation := 1000 })] := by decide
  rw [all, List.mem_singleton] at mem
  exact ⟨congrArg Prod.fst mem, congrArg Prod.snd mem⟩

theorem keptState_vehicle {i : Nat} {x : Vehicle} (h : keptState.vehicles.get i = some x) : i = 0 ∧ x = veh := by
  have mem := Table.mem_of_get (t := keptState.vehicles) h
  have all : keptState.vehicles = [(0, veh)] := by decide
  rw [all, List.mem_singleton] at mem
  exact ⟨congrArg Prod.fst mem, congrArg Prod.snd mem⟩

theorem keptState_permit {i : Nat} {x : Permit} (h : keptState.permits.get i = some x) : i = 7 ∧ x = perm := by
  have mem := Table.mem_of_get (t := keptState.permits) h
  have all : keptState.permits = [(7, perm)] := by decide
  rw [all, List.mem_singleton] at mem
  exact ⟨congrArg Prod.fst mem, congrArg Prod.snd mem⟩

theorem witness_NoticeRequestsAnswer :
    Accepts ready (.noticeMask (List.replicate 20 0xFFFF)) ∧ (List.replicate 20 (0xFFFF : Word)).length = 20 ∧
    Accepts ready (.noticeEdge (List.replicate 7 0xFFFF)) ∧ (List.replicate 7 (0xFFFF : Word)).length = 7 ∧
    Accepts ready .noticeReport :=
  ⟨accepts_of (by decide), by decide, accepts_of (by decide), by decide, accepts_of (by decide)⟩

/-- A latched position masked and unmasked, a level that rises, and one that falls under the edge selection BOTH. -/
theorem witness_NoticesFollowTheirLevels :
    let latched := (ready.notices.latch .passed 3)
    let lost := { ready.setUnit 7 { ready.unit 7 with state := .good, badRun := 8 } with
      notices := { Notices.reset with latched := Vector.replicate 20 0 } }
    let fallen := (ready.setUnit 7 { ready.unit 7 with state := .alarm, alarmFree := 4, goodRun := 4 }).followLevels
    let both := { fallen with notices := { fallen.notices with
      latched := Vector.replicate 20 0, edges := Vector.replicate 7 0xFFFF } }
    latched.attn = true ∧ { latched with mask := latched.mask.set 5 0xF }.attn = false ∧
    (lost.notices.levels.get 0).getLsbD 7 = false ∧
    after (exec (.unitLostEntry 7) lost) (fun t =>
      (t.notices.levels.get 0).getLsbD 7 && t.notices.isLatched .unitLost 7) = true ∧
    (both.notices.levels.get 1).getLsbD 7 = true ∧
    after (exec (.alarmClear 7) both) (fun t =>
      !(t.notices.levels.get 1).getLsbD 7 && t.notices.isLatched .unitAlarm 7) = true := by decide +kernel

/-- The invariants hold together in a state whose next command runs. -/
theorem witness_invariants :
    InGoodOrder keptState ∧ ChangesLawful keptState ∧ NoticesLegal keptState ∧ ∃ t, step keptState = .next t :=
  ⟨⟨canonical_of (by decide), by unfold LevelsFollow; decide +kernel⟩, ⟨by decide, by decide⟩,
    ⟨by decide +kernel, by decide +kernel, by decide +kernel⟩, ⟨_, rfl⟩⟩

theorem witness_Lawful : Lawful keptState where
  tables := canonical_of (by decide)
  visits :=
    { each := by
        rintro slot v h
        obtain ⟨rfl, rfl⟩ := keptState_visit h
        refine ⟨by decide, by decide, ?_, by decide, by decide, by decide, by decide, by decide, by decide, by decide,
          by decide, by decide⟩
        rintro t ⟨⟩
        decide
      tickets := by
        rintro a b v w t ha hb - -
        rw [(keptState_visit ha).1, (keptState_visit hb).1]
      booked := by
        rintro a b v w ha hb - - -
        rw [(keptState_visit ha).1, (keptState_visit hb).1]
      inProgress := by
        rintro a b v w ha hb - - - - -
        rw [(keptState_visit ha).1, (keptState_visit hb).1]
      next := by decide
      once := by decide
      finished := by
        intro slot
        refine ⟨fun h => absurd h (by simp [keptState, atLane, yard, VisitTable.reset]), ?_⟩
        rintro ⟨v, h, f⟩
        obtain ⟨rfl, rfl⟩ := keptState_visit h
        exact absurd f (by decide) }
  occupancy := by unfold OccupancyLawful; decide
  bindings :=
    { visit := by
        rintro slot v n h e
        obtain ⟨rfl, rfl⟩ := keptState_visit h
        cases e
        decide
      passes := by
        rintro slot v n h e -
        obtain ⟨rfl, rfl⟩ := keptState_visit h
        decide
      lane := by
        intro n hn
        have only : n = 0 := by revert hn; revert n; decide
        subst only
        exact ⟨0, _, rfl, rfl⟩
      free := by decide
      watched := by
        intro n t h
        have none_ : ∀ n : Fin 4, (keptState.lane n).heldVisit = none := by decide
        rw [none_ n] at h
        cases h
      once := by
        intro m n t h
        have none_ : ∀ n : Fin 4, (keptState.lane n).heldVisit = none := by decide
        rw [none_ m] at h
        cases h
      loading := by decide }
  barriers := ⟨by decide, by decide, by decide, by decide⟩
  reservations := by
    intro number p h
    obtain ⟨rfl, rfl⟩ := keptState_permit h
    decide
  retention :=
    { vehicle := by
        rintro slot v h
        obtain ⟨rfl, rfl⟩ := keptState_visit h
        exact ⟨veh, by decide, by decide⟩
      permit := by
        rintro slot v number h e
        obtain ⟨rfl, rfl⟩ := keptState_visit h
        cases e
        decide
      vehicles := by
        rintro i x h
        obtain ⟨rfl, rfl⟩ := keptState_vehicle h
        decide
      permits := by
        rintro i x h
        obtain ⟨rfl, rfl⟩ := keptState_permit h
        decide
      tags := by
        rintro a b v w ha hb -
        rw [(keptState_vehicle ha).1, (keptState_vehicle hb).1] }

theorem witness_LoadsJudgeAndTakeTheImage : State.reset.rstLow = false ∧ State.reset.loader.status = .loading := by
  decide

/-- R180: an image that is signed and sums as it should: its first words and padding words in the unused region. -/
def goodImage : List Word := [0x4B59, 58] ++ List.replicate 253 0 ++ [0x20AB]

theorem witness_LoadEnd_good :
    goodImage.length = 256 ∧ goodImage.getD 0 0 = 0x4B59 ∧ goodImage.foldl (· + ·) 0 = 0x6C3E := by decide +kernel

theorem witness_LoadEnd_bad :
    (List.replicate 256 (0 : Word)).getD 0 0 ≠ 0x4B59 ∧ ((0x4B59 : Word) :: List.replicate 255 0).getD 0 0 = 0x4B59 ∧
      ((0x4B59 : Word) :: List.replicate 255 0).foldl (· + ·) 0 ≠ 0x6C3E := by decide +kernel

/-- A frame of one slot, the shortest there is, and settings at and past the ends of their ranges. -/
theorem witness_SettingsAreConvertedToFrames :
    (0 < Loop.reset.period ∧ framesOf 1500 1 = 1500 ∧ framesOf 1500 4 = 375 ∧ framesOf 1501 4 = 376) ∧
    settingMs (defaultImage.set 44 500) .travel = 500 ∧ settingMs (defaultImage.set 44 499) .travel = 6000 ∧
    settingMs ((defaultImage.set 45 0x27C0).set 46 9) .passage = 600000 ∧
    settingMs ((defaultImage.set 45 0x27C1).set 46 9) .passage = 120000 := by decide +kernel

theorem test_loadEnd :
    after (exec (.loadEnd (some goodImage)) State.reset)
      (fun t => decide (t.loader.status = .loaded ∧ t.loader.lockBoundary = 58)) = true := by decide +kernel

/-- R181: an image that is signed, sums as it should, and holds a value for each kind of word: deck D0, the next ticket
5, lane L0 in ENTRY with every flag set, three slots, addresses, auto-start, and every edge selection. -/
def loadImage : List Word :=
  [0x4B59, 58] ++ [1, 1000, 0, 32768, 0, 60000, 0, 20, 20] ++ List.replicate 27 0
    ++ [24, 5, 0, 1500, 8000, 2000, 6000, 54464, 1, 5000, 1000, 30000, 1000] ++ [1, 31] ++ List.replicate 6 0
    ++ [3, 0, 16, 20] ++ List.replicate 19 15 ++ [1, 2, 3, 4, 5, 6, 7, 8] ++ [1] ++ List.replicate 20 0
    ++ List.replicate 7 0xFFFF ++ List.replicate 137 0 ++ [0x6F6]

def loadSlots : List SlotEntry :=
  [⟨some 0, .out⟩, ⟨some 0, .inward⟩, ⟨some 4, .inward⟩] ++ List.replicate 19 ⟨none, .out⟩

theorem witness_HoldsLoopWords : HoldsLoopWords loadImage loadSlots #v[1, 2, 3, 4, 5, 6, 7, 8] where
  count := by decide
  units k e h := by
    have hk : k < 22 := (List.getElem?_eq_some_iff.mp h).1
    have all : ∀ k < 22, ∀ e ∈ loadSlots[k]?, (wordAt loadImage (60 + k) % 16 = 15 ∧ e.unit = none) ∨
        ∃ u : Fin 8, wordAt loadImage (60 + k) % 16 = u.val ∧ e.unit = some u := by decide +kernel
    exact all k hk e h
  dirs k e h := by
    have hk : k < 22 := (List.getElem?_eq_some_iff.mp h).1
    have all : ∀ k < 22, ∀ e ∈ loadSlots[k]?,
        e.dir = if wordAt loadImage (60 + k) / 16 % 2 = 0 then .out else .inward := by decide +kernel
    exact all k hk e h
  suit := by unfold SlotsSuitUnits; decide +kernel
  given := by decide +kernel
  differ := by decide +kernel

/-- The words of a deck and of a lane in range and out of it. -/
theorem witness_TakesWords :
    loadImage.length = 256 ∧ loadImage.foldl (· + ·) 0 = 0x6C3E ∧ DeckWordsInRange loadImage 2 ∧
    ¬ DeckWordsInRange loadImage 11 ∧ wordAt loadImage 51 ≤ 3 ∧ 3 < wordAt (loadImage.set 51 0x101) 51 ∧
    1 ≤ doubleAt loadImage 39 ∧ wordAt loadImage 90 % 2 = 1 := by
  unfold DeckWordsInRange
  decide +kernel

theorem test_loadEnd_taken :
    after (exec (.loadEnd (some loadImage)) State.reset) (fun t =>
      decide (t.vt.nextTicket = 5 ∧ (t.deck 0).params = some ⟨1000, 32768, 60000, 20, 20⟩ ∧
        (t.deck 0).certified = true ∧ (t.lane 0).mode = .entry ∧ (t.lane 0).state = .idle ∧
        (t.lane 0).walkTare = true ∧ (t.unit 0).autoSwitch = true ∧ (t.unit 4).state = .searching ∧
        (t.unit 7).state = .absent ∧ t.loop.slots = loadSlots ∧ t.loop.state = .running)) = true := by decide +kernel

theorem witness_ReloadStartsALoad :
    Accepts ready .reload ∧ Accepts (atLane .entry .bound true (record .admitting (some 0))) .reload ∧
    (∀ n : Fin 4, (ready.lane n).state = .idle ∨ (ready.lane n).state = .closed) ∧ ready.loop.state = .stopped ∧
    ready.loader.writing = none :=
  ⟨accepts_of (by decide), accepts_of (by decide), by decide, by decide, by decide⟩

/-- R168, R199 (log 29): a RELOAD lets a LOST unit be ABSENT at once and latches nothing for the level's fall. -/
theorem test_reload_clears_levels :
    after (exec .reload ((ready.setUnit 3 { ready.unit 3 with state := .lost }).followLevels)) (fun t =>
      decide ((t.unit 3).state = .absent ∧ t.notices.levels = Vector.replicate 7 0) &&
        t.notices.beforeLoad.isSome) = true := by decide +kernel

/-- A lane with a bound visit, a lane that watches for a held one, and the end of a restart with auto-start clear and
set. -/
theorem witness_ResetsLeaveEachBlock :
    let s := atLane .entry .bound true (record .admitting (some 0))
    let r := atLane .entry .releasing false (record .admitting (some 0))
    let watching := r.setLane 0 { r.lane 0 with heldVisit := some 1 }
    let ending := { s with restarting := true }
    Accepts s .restart ∧ TablesCanonical s ∧ (s.lane 0).bound = some 1 ∧
      s.byTicket 1 = some (0, record .admitting (some 0)) ∧ (record .admitting (some 0)).state ≠ .held ∧
      Accepts watching .restart ∧ TablesCanonical watching ∧ (watching.lane 0).heldVisit = some 1 ∧
      (watching.lane 0).bound = none ∧ (watching.lane 0).state = .releasing ∧ (s.lane 3).state = .closed ∧
      ending.rstLow = false ∧ ending.restarting = true ∧ ending.loop.autoStart = false ∧
      { ending with loop := { ending.loop with autoStart := true } }.loop.autoStart = true := by
  simp only [accepts_iff, canonical_iff]
  and_intros <;> decide

theorem witness_SettingsStoreIsWrittenAndRead :
    Accepts ready (.settingWrite 2047 65535 true) ∧ Accepts ready (.settingWrite 2048 0 false) ∧
    Accepts ready (.settingWrite 255 0 false) ∧ 255 ≤ ready.loader.lockBoundary ∧ ready.loader.writing = none ∧
    Accepts ready (.settingWrite 256 0 false) ∧ ready.loader.lockBoundary < 256 ∧
    Accepts ready (.settingRead 2047 1) ∧
    { ready with loader := { ready.loader with reading := some 0 } }.loader.reading.isSome = true ∧
    ready.rstLow = false :=
  ⟨accepts_of (by decide), accepts_of (by decide), accepts_of (by decide), by decide, by decide,
    accepts_of (by decide), by decide, accepts_of (by decide), by decide, by decide⟩

theorem test_settingWrite_is_locked :
    after (exec (.settingWrite 1 0 false) ready)
      (fun t => decide (t.port.buffer = .answer 69 .certifiedLock .empty)) = true := by decide

/-- The part with the clock at a day's last second. -/
def midnight (day : Nat) : State :=
  { yard { record .booked none with ticket := none, bookingDay := some 10 } with clock := ⟨day, 1439, 59, true⟩ }

/-- The clock at the ends of its ranges, and a day change with a record that lapses and a finished one on the Completion
List. -/
theorem witness_ClockRunsAndDaysChange :
    let m := midnight 10
    let done := { m with vt := { m.vt with records := m.vt.records ++ [(1, record .done none)], completion := [1] } }
    Accepts ready (.clockSet 65535 1439) ∧ Accepts ready (.clockSet 65536 0) ∧ Accepts ready (.clockSet 0 1440) ∧
    ready.clock.isSet = false ∧ (yard (record .inYard none)).clock.second < 59 ∧
    { ready with clock := ⟨3, 1438, 59, true⟩ }.clock.minute ≠ 1439 ∧
    (midnight 65535).clock.day = 65535 ∧ (midnight 65534).clock.day < 65535 ∧ TablesCanonical done ∧
    done.visit 0 = some { record .booked none with ticket := none, bookingDay := some 10 } ∧
    ∀ slot ∈ done.vt.completion, ∃ v, done.visit slot = some v ∧ v.finished = true := by
  refine ⟨accepts_of (by decide), accepts_of (by decide), accepts_of (by decide), by decide, by decide, by decide,
    by decide, by decide, canonical_of (by decide), by decide, ?_⟩
  intro slot h
  rw [List.mem_singleton] at h
  exact ⟨record .done none, by rw [h]; decide, by decide⟩

theorem test_day_change_lapses :
    after (exec .dayChange (midnight 10)) (fun t => decide (t.vt.records = [] ∧ t.clock.day = 11) &&
      t.notices.isLatched .bookingLapsed 0) = true := by decide

/-! ### Visits, vehicles and permits -/

/-- Booked by tag, with no ticket yet. -/
def booked : Visit := { record .booked none with ticket := none, bookingDay := some 20 }
/-- Held from a state, with a reason. -/
def heldFrom (st : VisitState) (r : HoldReason) : Visit :=
  { record .held none with prior := some st, reason := some r }
/-- In the yard, with k counted weighings. -/
def weighed (k : Nat) : Visit := { record .inYard none with inYard := true, weighings := List.replicate k (weighing .entry) }

/-- The yard with no record. -/
def empty : State := { yard booked with vt := VisitTable.reset }

theorem witness_BookCreatesBooking :
    Accepts empty (.book 5 0 7 1 65535) ∧ Accepts empty (.book 5 1 0 0 0) ∧ TablesCanonical empty ∧
    empty.vehicleByTag 5 = some (0, veh) ∧ empty.byTagBooked 5 = none ∧ empty.vt.records.lowestFree 192 = some 0 ∧
    empty.permits.get 7 = some perm := by
  simp only [accepts_iff, canonical_iff]
  and_intros <;> decide

/-- Each refusal of BOOK: numbers just out of range, a vehicle or a permit that is not there, a booking that is, a full
table. -/
theorem witness_BookCreatesBooking_refused :
    let full := { empty with
      vt := { VisitTable.reset with records := (List.range 192).map (fun k => (k, record .done none)) } }
    Accepts empty (.book 5 2 0 0 0) ∧ Accepts empty (.book 5 0 0 0 0) ∧ Accepts empty (.book 5 1 1 0 0) ∧
    Accepts empty (.book 5 0 7 2 0) ∧ Accepts empty (.book 6 0 65535 0 0) ∧ empty.vehicleByTag 6 = none ∧
    Accepts empty (.book 5 0 1 0 0) ∧ empty.permits.get 1 = none ∧ Accepts empty (.book 6 1 0 0 0) ∧
    Accepts (yard booked) (.book 5 0 7 0 0) ∧ ((yard booked).byTagBooked 5).isSome ∧
    ¬ ((yard booked).vehicleByTag 5 = none) ∧ Accepts full (.book 5 1 0 0 0) ∧ full.byTagBooked 5 = none ∧
    full.vt.records.lowestFree 192 = none := by
  simp only [accepts_iff]
  and_intros <;> decide +kernel

theorem test_book :
    after (exec (.book 5 0 7 1 65535) empty) (fun t => decide (t.vt.changes = [0] ∧
      t.vehicleByTag 5 = some (0, { veh with live := 2 }) ∧ t.port.buffer = .answer 11 .ok (.handle 0))) = true := by
  decide +kernel

theorem witness_ReadingRequestsChangeNothing :
    let s := withDeck (yard (record .done none)) .empty
    let t := { s with vt := { s.vt with completion := [0] } }
    Accepts s (.lookup (.ticket 1)) ∧ s.byTicket 1 = some (0, record .done none) ∧
    Accepts t .nextDone ∧ t.vt.completion = 0 :: [] ∧ t.visit 0 = some (record .done none) ∧
    Accepts s (.vehicleGet (.tag 5)) ∧ s.vehicleByTag 5 = some (0, veh) ∧
    Accepts s (.permitGet (.number 7)) ∧ s.permits.get 7 = some perm ∧
    Accepts s (.laneStatus 3) ∧ Accepts s (.deckStatus 0) ∧ (s.deck 0).params = some params ∧
    Accepts s .loopStatus ∧ Accepts s (.unitStatus 7) ∧ Accepts s (.settingRead 255 0) ∧ Accepts s .clockRead :=
  ⟨accepts_of (by decide), by decide, accepts_of (by decide), rfl, by decide, accepts_of (by decide), by decide,
    accepts_of (by decide), by decide, accepts_of (by decide), accepts_of (by decide), by decide,
    accepts_of (by decide), accepts_of (by decide), accepts_of (by decide), accepts_of (by decide)⟩

/-- Each way to name a record, a vehicle and a permit, one that finds nothing and one out of range; a deck that is not
enabled; an empty Completion List. -/
theorem witness_ReadingRequestsChangeNothing_names :
    let s := yard booked
    let held := yard { record .held none with ticket := none, prior := some .booked }
    Accepts s (.lookup (.handle 0)) ∧ s.visit 0 = some booked ∧ booked.state = .booked ∧
    held.visit 0 = some { record .held none with ticket := none, prior := some .booked } ∧
    Accepts s (.lookup (.tag 5)) ∧ s.byTagInProgress 5 = none ∧ s.byTagBooked 5 = some (0, booked) ∧
    (held.byTagInProgress 5).isSome ∧ Accepts s (.lookup (.tag 6)) ∧ s.byTagInProgress 6 = none ∧
    s.byTagBooked 6 = none ∧ Accepts s (.lookup (.handle 191)) ∧ s.visit 191 = none ∧
    Accepts s (.lookup (.ticket 1)) ∧ s.byTicket 1 = none ∧ Accepts s (.lookup (.ticket 0)) ∧
    Accepts s (.lookup (.handle 192)) ∧ Accepts s .nextDone ∧ s.vt.completion = [] ∧
    Accepts s (.vehicleGet (.index 0)) ∧ s.vehicles.get 0 = some veh ∧ Accepts s (.vehicleGet (.index 1023)) ∧
    s.vehicles.get 1023 = none ∧ Accepts s (.vehicleGet (.index 1024)) ∧ Accepts s (.vehicleGet (.tag 6)) ∧
    s.vehicleByTag 6 = none ∧ TablesCanonical s ∧ Accepts s (.permitGet (.next 6)) ∧
    s.permits.get 7 = some perm ∧ (∀ k, 6 < k → k < 7 → s.permits.get k = none) ∧
    Accepts s (.permitGet (.next 7)) ∧ Accepts s (.permitGet (.next 65536)) ∧
    Accepts s (.permitGet (.number 8)) ∧ s.permits.get 8 = none ∧ (s.deck 0).params = none ∧
    Accepts s (.deckStatus 4) ∧ Accepts s (.unitStatus 8) ∧ Accepts s (.settingRead 256 0) := by
  simp only [accepts_iff, canonical_iff]
  and_intros <;> first | decide | (intro k h h'; omega)

theorem test_permit_next :
    after (exec (.permitGet (.next 6)) (yard booked)) (fun t =>
      decide (t.port.buffer = .answer 29 .ok (.permit 7 perm))) = true ∧
    after (exec (.permitGet (.next 7)) (yard booked)) (fun t =>
      decide (t.port.buffer = .answer 29 .notFound .empty)) = true := by decide +kernel

/-- LOOP STATUS between the steps of the loop's slots: free to draw, with a slot shown in PAUSING, with a slot or the
marker slot begun by a RESUME, and while a POLL waits for its slot's end. -/
theorem witness_ReadingRequestsChangeNothing_between :
    let s := { ready with loop := { Loop.reset with state := .running, frameLength := 3, position := some 0 } }
    let shown := { s with loop := { s.loop with state := .pausing, shown := 2, pauseShown := true } }
    let marker := { s with loop := { s.loop with begun := some 0 } }
    Accepts s .loopStatus ∧ s.loop.state = .running ∧ s.loop.markerOpen = false ∧ s.loop.polled = none ∧
    s.loop.slotDone = false ∧ s.loop.pauseShown = false ∧ { s.loop with polled := some true }.polled ≠ none ∧
    s.loop.begun ≠ some 0 ∧ { s.loop with begun := some 3 }.begun ≠ some 0 ∧
    Accepts shown .loopStatus ∧ shown.loop.state = .pausing ∧ shown.loop.pauseShown = true ∧
    after (exec .loopStatus shown) (fun t => decide (t.loop = shown.loop)) = true ∧
    Accepts marker .loopStatus ∧ marker.loop.begun = some 0 := by
  simp only [accepts_iff]
  and_intros <;> decide +kernel

theorem witness_AmendReplacesTheFieldsOfItsState :
    Accepts (yard booked) (.amend (.handle 0) 1 65535) ∧ RecordName.inRange (.handle 0) = true ∧
    (yard booked).byName (.handle 0) = some (0, booked) ∧ booked.state = .booked ∧
    Accepts (yard (weighed 1)) (.amend (.ticket 1) 0 0) ∧ RecordName.inRange (.ticket 1) = true ∧
    (yard (weighed 1)).byName (.ticket 1) = some (0, weighed 1) ∧ (weighed 1).state = .inYard ∧
    Accepts (yard (record .done none)) (.amend (.ticket 1) 0 0) ∧
    (yard (record .done none)).byName (.ticket 1) = some (0, record .done none) :=
  ⟨accepts_of (by decide), by decide, by decide, by decide, accepts_of (by decide), by decide, by decide, by decide,
    accepts_of (by decide), by decide⟩

theorem witness_HoldsSuspendAndRelease_hold :
    let twice := { yard booked with vt := { VisitTable.reset with records := [(0, booked), (1, weighed 1)] } }
    Accepts (yard (weighed 1)) (.hold (.ticket 1)) ∧ TablesCanonical (yard (weighed 1)) ∧
    (yard (weighed 1)).byName (.ticket 1) = some (0, weighed 1) ∧ (weighed 1).state = .inYard ∧
    (weighed 1).lane = none ∧
    Accepts (yard booked) (.hold (.handle 0)) ∧ TablesCanonical (yard booked) ∧
    (yard booked).byName (.handle 0) = some (0, booked) ∧ booked.state = .booked ∧
    (yard booked).byTagInProgress 5 = none ∧ booked.lane = none ∧
    Accepts twice (.hold (.handle 0)) ∧ TablesCanonical twice ∧ twice.byName (.handle 0) = some (0, booked) ∧
    (twice.byTagInProgress 5).isSome ∧
    Accepts (yard (heldFrom .inYard .restart)) (.hold (.ticket 1)) ∧
    (yard (heldFrom .inYard .restart)).byName (.ticket 1) = some (0, heldFrom .inYard .restart) ∧
    (heldFrom .inYard .restart).state = .held ∧ (heldFrom .inYard .restart).reason ≠ some .host ∧
    HoldReason.host ∉ (heldFrom .inYard .restart).later ∧ (heldFrom .inYard .host).reason = some .host ∧
    Accepts (yard (record .done none)) (.hold (.ticket 1)) ∧
    (yard (record .done none)).byName (.ticket 1) = some (0, record .done none) := by
  simp only [accepts_iff, canonical_iff]
  and_intros <;> decide

/-- RELEASE HOLD of each prior state that needs no lane, with no lane watching and with one that does. -/
theorem witness_HoldsSuspendAndRelease_release :
    let gone := heldFrom .cleared .host
    let twice := { yard (heldFrom .booked .host) with
      vt := { VisitTable.reset with records := [(0, heldFrom .booked .host), (1, booked)] } }
    let r := atLane .entry .releasing false (heldFrom .inYard .host)
    let watching := r.setLane 0 { r.lane 0 with heldVisit := some 1 }
    (∀ st ∈ [VisitState.inYard, .booked],
      (yard (heldFrom st .host)).byName (.ticket 1) = some (0, heldFrom st .host)) ∧
    Accepts (yard (heldFrom .inYard .host)) (.releaseHold (.ticket 1) none) ∧
    (yard (heldFrom .booked .host)).byTagBooked 5 = none ∧
    Accepts twice (.releaseHold (.ticket 1) none) ∧ (twice.byTagBooked 5).isSome ∧
    Accepts (yard gone) (.releaseHold (.ticket 1) none) ∧ (yard gone).byName (.ticket 1) = some (0, gone) ∧
    gone.prior = some .cleared ∧ gone.inYard = false ∧ 0 ∉ (yard gone).vt.completion ∧
    { gone with voidMark := true }.voidMark = true ∧
    Accepts watching (.releaseHold (.ticket 1) none) ∧ (watching.lane 0).heldVisit = (heldFrom .inYard .host).ticket ∧
    (watching.lane 0).state = .releasing ∧
    Accepts (yard (weighed 1)) (.releaseHold (.ticket 1) none) ∧
    (yard (weighed 1)).byName (.ticket 1) = some (0, weighed 1) ∧ (weighed 1).state ≠ .held := by
  simp only [accepts_iff]
  and_intros <;> decide

theorem test_releaseHold_stops_watching :
    let r := atLane .entry .releasing false (heldFrom .inYard .host)
    after (exec (.releaseHold (.ticket 1) none) (r.setLane 0 { r.lane 0 with heldVisit := some 1 })) (fun t =>
      decide ((t.visit 0).map (·.state) = some .inYard ∧ (t.lane 0).heldVisit = none ∧
        (t.lane 0).state = .releasing ∧ (t.barrier 0).tracking = .inactive)) = true := by decide +kernel

/-- A rebind that is granted, one of each eligibility, and each refusal. -/
theorem witness_HoldsSuspendAndRelease_rebind :
    let s := atLane .entry .idle false (heldFrom .admitting .host)
    let eligible := { heldFrom .reweighing .host with weighings := [weighing .reweigh], inYard := true }
    let left := heldFrom .exiting .host
    let waiting := s.setLane 0 { s.lane 0 with cycle := some 1 }
    Accepts s (.releaseHold (.ticket 1) (some 0)) ∧ Accepts s (.releaseHold (.ticket 1) none) ∧
    Accepts s (.releaseHold (.ticket 1) (some 3)) ∧ (s.lane 3).mode ≠ .entry ∧
    s.byTicket 1 = some (0, heldFrom .admitting .host) ∧ (s.lane 0).state = .idle ∧ (s.lane 0).cycle = none ∧
    (s.lane 0).mode = .entry ∧ Accepts waiting (.releaseHold (.ticket 1) (some 0)) ∧
    (waiting.lane 0).cycle = some (0 + 1) ∧
    (atLane .internal .idle false eligible).byTicket 1 = some (0, eligible) ∧
    Accepts (atLane .internal .idle false eligible) (.releaseHold (.ticket 1) (some 0)) ∧
    (∃ w ∈ eligible.weighings.drop eligible.stopMark, w.role = .reweigh ∧ w.standing = .valid) ∧
    Accepts (atLane .exit .idle false left) (.releaseHold (.ticket 1) (some 0)) ∧
    (atLane .exit .idle false left).byTicket 1 = some (0, left) ∧ left.inYard = false ∧
    (atLane .exit .maintenance false { left with inYard := true }).byTicket 1 = some (0, { left with inYard := true }) ∧
    ((atLane .exit .maintenance false { left with inYard := true }).lane 0).state ≠ .idle := by
  simp only [accepts_iff]
  and_intros <;> decide

theorem test_rebind :
    after (exec (.releaseHold (.ticket 1) (some 0)) (atLane .entry .idle false (heldFrom .admitting .host))) (fun t =>
      decide (t.visit 0 = some (record .admitting (some 0)) ∧ (t.lane 0).state = .settling ∧
        (t.lane 0).bound = some 1)) = true := by decide +kernel

theorem witness_VoidCancelsTheVisit :
    Accepts (yard (weighed 1)) (.voidVisit (.ticket 1)) ∧
    (yard (weighed 1)).byName (.ticket 1) = some (0, weighed 1) ∧ 0 ∉ (yard (weighed 1)).vt.completion ∧
    (weighed 1).inYard = true ∧ (weighed 1).permit = some 7 ∧ (yard (weighed 1)).permits.get 7 = some perm ∧
    Accepts (yard (heldFrom .cleared .host)) (.voidVisit (.ticket 1)) ∧
    (yard (heldFrom .cleared .host)).byName (.ticket 1) = some (0, heldFrom .cleared .host) ∧
    (heldFrom .cleared .host).inYard = false ∧
    Accepts (yard booked) (.voidVisit (.handle 0)) ∧ (yard booked).byName (.handle 0) = some (0, booked) ∧
    (yard booked).vehicles.get 0 = some veh ∧ (yard booked).permits.get 7 = some perm ∧
    (yard (heldFrom .booked .host)).byName (.ticket 1) = some (0, heldFrom .booked .host) ∧
    Accepts (yard (record .cleared none)) (.voidVisit (.ticket 1)) ∧
    (yard (record .cleared none)).byName (.ticket 1) = some (0, record .cleared none) := by
  simp only [accepts_iff]
  and_intros <;> decide

theorem witness_RetireFreesTheSlot :
    let load := { record .done none with kind := .load, permit := none }
    Accepts (yard (record .done none)) (.retire 1) ∧
    (yard (record .done none)).byTicket 1 = some (0, record .done none) ∧
    (yard (record .done none)).vehicles.get 0 = some veh ∧ (yard (record .done none)).permits.get 7 = some perm ∧
    Accepts (yard load) (.retire 1) ∧ (yard load).byTicket 1 = some (0, load) ∧
    (yard load).vehicles.get 0 = some veh ∧ load.permit = none ∧
    Accepts (yard (weighed 1)) (.retire 1) ∧ (yard (weighed 1)).byTicket 1 = some (0, weighed 1) ∧
    (weighed 1).state ≠ .done ∧ (weighed 1).state ≠ .void ∧ Accepts ready (.retire 100000000) ∧
    Accepts ready (.retire 99999999) ∧ ready.byTicket 99999999 = none ∧ Accepts (yard booked) .takeChanges := by
  simp only [accepts_iff]
  and_intros <;> decide

theorem witness_TipDeclarePlacesATip :
    let tipped := { weighed 1 with tips := [⟨1, 0, .declared, none⟩] }
    (∀ k ∈ [0, 1, 5, 6], Accepts (yard (weighed k)) (.tipDeclare 1 0) ∧
      (yard (weighed k)).byTicket 1 = some (0, weighed k) ∧ (weighed k).countedWeighings.length = k) ∧
    (weighed 1).permit = some 7 ∧ (yard (weighed 1)).permits.get 7 = some perm ∧
    perm.allowed.getLsbD 0 = true ∧ perm.allowed.getLsbD 31 = false ∧ Accepts (yard (weighed 1)) (.tipDeclare 1 31) ∧
    (yard tipped).byTicket 1 = some (0, tipped) ∧ (∃ t ∈ tipped.tips, t.interval = 1) ∧
    (weighed 1).tips = [] ++ [] ∧ (record .done none).state ≠ .inYard := by
  refine ⟨?_, by decide, by decide, by decide, by decide, accepts_of (by decide), by decide, by decide, rfl, by decide⟩
  intro k hk
  fin_cases hk <;> exact ⟨accepts_of (by decide), by decide, by decide⟩

theorem witness_TipDeclarePlacesATip_refused :
    let load := { weighed 1 with kind := .load, permit := none }
    Accepts (yard (weighed 1)) (.tipDeclare 0 0) ∧ Accepts (yard (weighed 1)) (.tipDeclare 1 32) ∧
    Accepts (yard (weighed 1)) (.tipDeclare 99999999 31) ∧ (yard (weighed 1)).byTicket 99999999 = none ∧
    Accepts (yard load) (.tipDeclare 1 0) ∧ (yard load).byTicket 1 = some (0, load) ∧ load.kind = .load ∧
    Accepts (yard (record .done none)) (.tipDeclare 1 0) ∧
    (yard (record .done none)).byTicket 1 = some (0, record .done none) := by
  simp only [accepts_iff]
  and_intros <;> decide

/-- An admission of a booking, TIP and LOAD, and of a walk-in, each by ADMIT with the tag and by a TAG_READ, a booking
also by its handle. -/
theorem witness_AdmitGrantsABooking :
    let load := { booked with kind := .load, permit := none }
    let at_ (s : State) := delivering (s.setLane 0 { s.lane 0 with autoTake := true, walkIn := true }) (.tagRead 0 5)
    let tip := at_ (atLane .entry .idle false booked)
    let walk := { tip with vt := VisitTable.reset }
    (∀ s ∈ [tip, at_ (atLane .entry .idle false load), walk],
      (s.rstLow = false ∧ s.portTakes (.admitVisit 0 (.tag 5)) = true ∧ s.loader.status ≠ .loading ∧
        s.restarting = false) ∧ s.loop.delivery = some ⟨.tagRead 0 5, 9⟩ ∧ (s.lane 0).autoTake = true ∧
      (s.lane 0).boundTag ≠ some 5 ∧ (s.lane 0).buffer = [] ∧ 0 < s.tagWindow ∧
      (s.vt.records.wf ∧ s.vehicles.wf ∧ s.permits.wf) ∧ (s.lane 0).mode = .entry ∧ (s.lane 0).state = .idle ∧
      (s.lane 0).cycle = none ∧ s.clock.isSet = true ∧ s.vehicleByTag 5 = some (0, veh) ∧ veh.banned = false ∧
      s.byTagInProgress 5 = none ∧ s.vt.occupancy + s.numAdmitting < occupancyLimit s.loader.image ∧
      s.permits.get 7 = some perm) ∧
    perm.state = .active ∧ veh.payload ≤ perm.balance - perm.reserved ∧ veh.defaultPermit = some 7 ∧
    tip.byTagBooked 5 = some (0, booked) ∧ booked.kind = .tip ∧ booked.permit = some 7 ∧ tip.visit 0 = some booked ∧
    tip.portTakes (.admitVisit 0 (.handle 0)) = true ∧
    (at_ (atLane .entry .idle false load)).byTagBooked 5 = some (0, load) ∧ load.kind = .load ∧
    walk.byTagBooked 5 = none ∧ (walk.lane 0).walkIn = true ∧ walk.vt.records.lowestFree 192 = some 0 ∧
    1 ≤ tip.vt.nextTicket ∧ tip.vt.nextTicket ≤ 99999999 ∧
    (tip.vt.records.filter (fun e => e.2.ticket.isSome)).length < 192 := by decide +kernel

theorem test_admit :
    after (exec (.admitVisit 0 (.tag 5)) (atLane .entry .idle false booked)) (fun t =>
      decide ((t.lane 0).state = .settling ∧ (t.lane 0).bound = some 2 ∧ (t.lane 0).settle = some 1500 ∧
        t.port.buffer = .answer 10 .ok (.ticket 2))) = true := by decide +kernel

theorem test_walkIn :
    let s := atLane .entry .idle false booked
    after (exec (.admitVisit 0 (.tag 5)) { s.setLane 0 { s.lane 0 with walkIn := true } with vt := VisitTable.reset })
      (fun t => decide ((t.visit 0).map (fun v => (v.state, v.ticket, v.reservation)) =
          some (.admitting, some 1, 1000) ∧ t.vehicles = [(0, { veh with live := 2 })] ∧
        t.permits = [(7, { perm with live := 2, reserved := 2000 })])) = true := by decide +kernel

/-- The checks 1 and 2 of R9, a handle out of range, a lane of another mode, and a handle that names no booking. -/
theorem witness_AdmitRefusesInOrder :
    let s := atLane .entry .idle false booked
    let waiting := s.setLane 0 { s.lane 0 with cycle := some 1 }
    let moving := atLane .entry .bound true (record .admitting (some 0))
    Accepts moving (.admitVisit 0 (.tag 5)) ∧ (moving.lane 0).mode = .entry ∧ (moving.lane 0).state ≠ .idle ∧
    Accepts waiting (.admitVisit 0 (.tag 5)) ∧ (waiting.lane 0).cycle = some (0 + 1) ∧
    Accepts s (.admitVisit 0 (.handle 192)) ∧ Accepts s (.admitVisit 1 (.tag 5)) ∧ (s.lane 1).mode ≠ .entry ∧
    Accepts s (.admitVisit 0 (.handle 191)) ∧ s.visit 191 = none ∧
    Accepts s (.admitVisit 0 (.handle 0)) ∧ s.visit 0 = some booked ∧ booked.state = .booked ∧ booked.tag = 5 ∧
    s.clock.isSet = true ∧ Accepts s (.admitVisit 0 (.tag 5)) ∧ (s.lane 0).state = .idle ∧ (s.lane 0).cycle = none := by
  simp only [accepts_iff]
  and_intros <;> decide

/-- Each of the checks 2 to 9 of R9 fails somewhere: with a booking, and with a walk-in. -/
theorem witness_FailsCheck :
    let s := atLane .entry .idle false booked
    let none_ := { s with vt := VisitTable.reset }
    let walk := none_.setLane 0 { none_.lane 0 with walkIn := true }
    let unset := { s with clock := ⟨0, 0, 0, false⟩ }
    let full := { walk with vt := { VisitTable.reset with
      records := (List.range 192).map (fun k => (k, record .done none)) } }
    let crowd := { s with vt := { s.vt with occupancy := 65535 } }
    let load := { booked with kind := .load, permit := none }
    let crowdL := { atLane .entry .idle false load with vt := { (yard load).vt with occupancy := 65535 } }
    FailsCheck unset 0 5 .clockUnset ∧ FailsCheck s 0 6 .notFound ∧
    FailsCheck { s with vehicles := [(0, { veh with banned := true })] } 0 5 .banned ∧
    FailsCheck (atLane .entry .idle false (weighed 1)) 0 5 .inYard ∧ FailsCheck none_ 0 5 .noBooking ∧
    FailsCheck full 0 5 .tableFull ∧ FailsCheck { s with permits := [(7, { perm with state := .suspended })] } 0 5
      .permitInactive ∧
    FailsCheck { walk with vehicles := [(0, { veh with defaultPermit := none })] } 0 5 .permitInactive ∧
    FailsCheck { s with permits := [(7, { perm with balance := 1999 })] } 0 5 .noBalance ∧
    FailsCheck crowd 0 5 .occupancyLimit ∧ FailsCheck crowdL 0 5 .occupancyLimit := by
  refine ⟨.clock (by decide), .unknown (by decide) (by decide), .banned 0 { veh with banned := true } (by decide)
      (by decide) (by decide), .inside 0 veh (by decide) (by decide) (by decide) (by decide),
    .unbooked 0 veh ⟨by decide, by decide, by decide, by decide⟩ (by decide) (by decide),
    .full 0 veh ⟨by decide, by decide, by decide, by decide +kernel⟩ (by decide +kernel) (by decide)
      (by decide +kernel),
    .inactive 0 veh (some 7) ⟨by decide, by decide, by decide, by decide⟩ (.booking 0 booked (by decide)) ?_,
    .inactive 0 { veh with defaultPermit := none } none ⟨by decide, by decide, by decide, by decide⟩
      (.walkIn 0 (by decide) (by decide) (by decide)) ?_,
    .poor 0 veh 7 { perm with balance := 1999 } ⟨by decide, by decide, by decide, by decide⟩
      (.booking 0 booked (by decide)) (by decide) (by decide) (by decide),
    .crowdedTip 0 veh 7 perm ⟨by decide, by decide, by decide, by decide⟩ (.booking 0 booked (by decide)) (by decide)
      (by decide) (by decide) (by decide +kernel),
    .crowdedLoad 0 veh none ⟨by decide, by decide, by decide, by decide⟩
      (.booking 0 { booked with kind := .load, permit := none } (by decide)) (by decide +kernel)⟩
  · rintro number p ⟨⟩ h
    cases h
    decide
  · rintro number p ⟨⟩

theorem witness_CallBindsTheRecord :
    let s := atLane .internal .idle false (weighed 1)
    let gone : Visit := { weighed 1 with state := .void, voidMark := true }
    let e := atLane .exit .idle false gone
    Accepts s (.call 0 1) ∧ TablesCanonical s ∧ (s.lane 0).state = .idle ∧ (s.lane 0).cycle = none ∧
    s.byTicket 1 = some (0, weighed 1) ∧ (s.lane 0).mode = .internal ∧ (weighed 1).state = .inYard ∧
    Accepts e (.call 0 1) ∧ TablesCanonical e ∧ e.byTicket 1 = some (0, gone) ∧ (e.lane 0).mode = .exit ∧
    gone.state = .void ∧ gone.inYard = true :=
  ⟨accepts_of (by decide), canonical_of (by decide), by decide, by decide, by decide, by decide, by decide,
    accepts_of (by decide), canonical_of (by decide), by decide, by decide, by decide, by decide⟩

/-- An EXIT bind with no stored tare to use, one with a tare to use and a full list, and a tag-named bind. -/
theorem witness_CallBindsTheRecord_exit :
    let e := atLane .exit .idle false (weighed 1)
    let v := { weighed 6 with useTare := true }
    let full := { atLane .exit .idle false v with vehicles := [(0, { veh with tare := some ⟨5000, 5, 5⟩ })] }
    let i := atLane .internal .idle false (weighed 1)
    let read := delivering (i.setLane 0 { i.lane 0 with autoTake := true }) (.tagRead 0 5)
    Accepts e (.call 0 1) ∧ TablesCanonical e ∧ e.byTicket 1 = some (0, weighed 1) ∧ (e.lane 0).mode = .exit ∧
    (weighed 1).useTare = false ∧
    Accepts full (.call 0 1) ∧ TablesCanonical full ∧ full.byTicket 1 = some (0, v) ∧ v.weighings.length = 6 ∧
    full.vehicles.get 0 = some { veh with tare := some ⟨5000, 5, 5⟩ } ∧ full.clock.day ≤ 5 + 5 ∧
    0 < full.frames .recovery ∧
    read.rstLow = false ∧ read.loop.delivery = some ⟨.tagRead 0 5, 9⟩ ∧ (read.lane 0).mode = .internal ∧
    (read.lane 0).state = .idle ∧ (read.lane 0).autoTake = true ∧ (read.lane 0).boundTag ≠ some 5 ∧
    (read.lane 0).buffer = [] ∧ (read.lane 0).cycle = none ∧ 0 < read.tagWindow ∧
    read.byTagInProgress 5 = some (0, weighed 1) := by
  simp only [accepts_iff, canonical_iff]
  and_intros <;> decide +kernel

/-- Each refusal of CALL: a lane and a ticket out of range, a lane of another mode, one in use, one whose cycle timer
runs, a ticket that no record holds, and records that the lane does not bind. -/
theorem witness_CallBindsTheRecord_refused :
    let s := atLane .internal .idle false (weighed 1)
    let soon := s.setLane 0 { s.lane 0 with cycle := some 1 }
    let left : Visit := { weighed 1 with state := .void, inYard := false }
    let exit := atLane .exit .idle false left
    let inside := atLane .internal .idle false { weighed 1 with state := .void }
    Accepts s (.call 4 1) ∧ Accepts s (.call 0 0) ∧ Accepts s (.call 1 1) ∧ (s.lane 1).mode = .closed ∧
    Accepts (atLane .entry .idle false booked) (.call 0 1) ∧
    ((atLane .entry .idle false booked).lane 0).mode = .entry ∧
    Accepts (atLane .exit .bound true (weighed 1)) (.call 0 1) ∧
    ((atLane .exit .bound true (weighed 1)).lane 0).state ≠ .idle ∧
    Accepts soon (.call 0 1) ∧ (soon.lane 0).mode = .internal ∧ (soon.lane 0).state = .idle ∧
    (soon.lane 0).cycle = some (0 + 1) ∧ Accepts s (.call 0 2) ∧ s.byTicket 2 = none ∧
    Accepts exit (.call 0 1) ∧ exit.byTicket 1 = some (0, left) ∧ left.state ≠ .inYard ∧ left.inYard = false ∧
    Accepts inside (.call 0 1) ∧ inside.byTicket 1 = some (0, { weighed 1 with state := .void }) := by
  simp only [accepts_iff]
  and_intros <;> decide

theorem test_call_list_full :
    after (exec (.call 0 1) { atLane .exit .idle false { weighed 6 with useTare := true } with
      vehicles := [(0, { veh with tare := some ⟨5000, 5, 5⟩ })] }) (fun t =>
        decide ((t.visit 0).map (·.reason) = some (some .listFull) ∧ (t.lane 0).state = .releasing ∧
          (t.lane 0).heldVisit = some 1)) = true := by decide +kernel

theorem test_tag_binds :
    let i := atLane .internal .idle false (weighed 1)
    after (exec (.tagRead 0 5) (delivering (i.setLane 0 { i.lane 0 with autoTake := true }) (.tagRead 0 5))) (fun t =>
      decide ((t.lane 0).state = .settling ∧ (t.lane 0).bound = some 1 ∧
        (t.visit 0).map (·.state) = some .reweighing)) = true := by decide +kernel

/-- Each form of the stored tare; KEEP and refresh over an entry without one; a full register. -/
theorem witness_VehiclePutWritesTheEntry :
    let full := { empty with vehicles := (List.range 1024).map (fun k => (k, veh)) }
    Accepts empty (.vehiclePut 5 0 1 8 1 1 (.weight 0 65535 3650)) ∧ empty.vehicleByTag 5 = some (0, veh) ∧
    Accepts empty (.vehiclePut 5 0 1 8 1 1 .keep) ∧ veh.tare = none ∧ Accepts empty (.vehiclePut 5 0 1 8 0 1 .none) ∧
    Accepts empty (.vehiclePut 6 65535 200000 0 0 0 (.weight 200000 0 0)) ∧ empty.vehicleByTag 6 = none ∧
    Accepts empty (.vehiclePut 6 0 1 0 1 0 .none) ∧ Accepts empty (.vehiclePut 5 0 0 0 0 0 .none) ∧
    Accepts empty (.vehiclePut 5 0 1 9 0 0 .none) ∧ Accepts empty (.vehiclePut 5 0 1 0 0 0 (.weight 0 0 3651)) ∧
    empty.vehicles.lowestFree 1024 = some 1 ∧ full.vehicleByTag 6 = none ∧
    Accepts full (.vehiclePut 6 0 1 0 0 0 (.weight 0 0 0)) := by
  simp only [accepts_iff]
  and_intros <;> decide +kernel

theorem witness_vehicles_full (veh : Vehicle) :
    Table.lowestFree ((List.range 1024).map (fun k => (k, veh))) 1024 = none := by
  have get : ∀ (l : List Nat) (k : Nat), k ∈ l → (Table.get (l.map (fun k => (k, veh))) k).isSome := by
    intro l k hk
    induction l with
    | nil => cases hk
    | cons j l ih =>
      by_cases h : j = k
      · simp [Table.get, h]
      · simp only [List.map_cons, Table.get, h, if_false]
        exact ih ((List.mem_cons.mp hk).resolve_left (fun e => h e.symm))
  simp only [Table.lowestFree, List.find?_eq_none]
  intro k hk
  have := get _ k hk
  cases h : Table.get ((List.range 1024).map (fun k => (k, veh))) k <;> simp_all

theorem witness_TareStoreWritesALegalWeighing :
    Accepts (yard booked) (.tareStore 0 1 0) ∧ Accepts (yard booked) (.tareStore 99999999 1 0) ∧
    (yard booked).byTicket 99999999 = none ∧ Accepts (yard (weighed 6)) (.tareStore 1 6 3650) ∧
    (yard (weighed 6)).byTicket 1 = some (0, weighed 6) ∧
    (weighed 6).weighings[5]? = some (weighing .entry) ∧ (weighing .entry).legal = true ∧
    (yard (weighed 6)).vehicles.get 0 = some veh ∧ (weighed 5).weighings.length < 6 ∧
    ({ weighed 0 with weighings := [weighing .storedTare] }).weighings[0]? = some (weighing .storedTare) ∧
    (weighing .storedTare).role = .storedTare := by
  simp only [accepts_iff]
  and_intros <;> decide

theorem witness_PermitPutCreatesOrReplaces :
    Accepts empty (.permitPut 1 0x80000000 31 65535) ∧ (0x80000000 : BitVec 32).getLsbD 31 = true ∧
    empty.permits.get 1 = none ∧ empty.permits.length < 128 ∧ Accepts empty (.permitPut 7 1 0 0) ∧
    empty.permits.get 7 = some perm ∧
    128 ≤ { empty with permits := (List.range' 2 128).map (fun k => (k, perm)) }.permits.length ∧
    { empty with permits := (List.range' 2 128).map (fun k => (k, perm)) }.permits.get 1 = none :=
  ⟨accepts_of (by decide), by decide, by decide, by decide, accepts_of (by decide), by decide, by decide +kernel,
    by decide +kernel⟩

theorem witness_PermitAdjustAddsToTheBalance :
    let lapsed := { empty with permits := [(7, { perm with state := .expired })] }
    let idle := { empty with vehicles := [(0, { veh with live := 0 })], permits := [(7, { perm with live := 0 })] }
    (∀ c ∈ [Instr.permitGet (.number 0), .permitAdjust 65536 0, .permitSuspend 0, .permitResume 65536, .permitDrop 0],
      empty.portTakes c = true) ∧
    Accepts empty (.permitAdjust 7 (-2000000000)) ∧ -2000000000 ≤ perm.balance + -2000000000 ∧
    Accepts empty (.permitAdjust 7 2000000000) ∧ 2000000000 < perm.balance + 2000000000 ∧
    Accepts empty (.permitAdjust 7 2000000001) ∧ Accepts empty (.permitAdjust 65535 0) ∧
    empty.permits.get 7 = some perm ∧ empty.permits.get 65535 = none ∧
    Accepts empty (.permitSuspend 7) ∧ perm.state ≠ .expired ∧ Accepts lapsed (.permitResume 7) ∧
    lapsed.permits.get 7 = some { perm with state := .expired } ∧ Accepts empty (.permitResume 65535) ∧
    Accepts empty (.vehicleDrop 5) ∧ empty.vehicleByTag 5 = some (0, veh) ∧ 0 < veh.live ∧
    Accepts idle (.vehicleDrop 5) ∧ idle.vehicleByTag 5 = some (0, { veh with live := 0 }) ∧
    Accepts empty (.vehicleDrop 6) ∧ empty.vehicleByTag 6 = none ∧
    Accepts empty (.permitDrop 7) ∧ 0 < perm.live ∧
    Accepts idle (.permitDrop 7) ∧ idle.permits.get 7 = some { perm with live := 0 } ∧
    Accepts empty (.permitDrop 65535) := by
  simp only [accepts_iff]
  and_intros <;> decide

/-- Log 24: a permit number 0. -/
theorem test_permit_zero :
    after (exec (.permitSuspend 0) empty) (fun t => decide (t.port.buffer = .answer 31 .badParameter .empty)) = true := by
  decide

/-! ### Lanes and barriers -/

/-- A visit at lane L0, admitting. -/
def atEntry (st : LaneState) : State := atLane .entry st true (record .admitting (some 0))

theorem witness_LaneModeSetsTheLane :
    let s := ready
    let idle := atLane .entry .idle false booked
    let lost := s.setUnit 0 { s.unit 0 with state := .lost }
    Accepts s (.laneMode 0 3 1 1 1 1) ∧ [LaneMode.closed, .entry, .exit, .internal][3]? = some .internal ∧
    (s.lane 0).state = .closed ∧ (s.unit (laneUnit 0)).state ≠ .lost ∧ (s.barrier 0).state ≠ .fault ∧
    Accepts s (.laneMode 3 0 0 0 0 0) ∧ [LaneMode.closed, .entry, .exit, .internal][0]? = some .closed ∧
    Accepts idle (.laneMode 0 0 0 0 0 0) ∧ (idle.lane 0).state = .idle ∧ Accepts idle (.laneMode 0 1 1 0 0 0) ∧
    Accepts lost (.laneMode 0 1 0 0 0 0) ∧ (lost.unit (laneUnit 0)).state = .lost ∧ (lost.lane 0).state = .closed ∧
    Accepts (atEntry .bound) (.laneMode 0 1 0 0 0 0) ∧ ((atEntry .bound).lane 0).state ≠ .idle :=
  ⟨accepts_of (by decide), by decide, by decide, by decide, by decide, accepts_of (by decide), by decide,
    accepts_of (by decide), by decide, accepts_of (by decide), accepts_of (by decide), by decide, by decide,
    accepts_of (by decide), by decide⟩

theorem test_laneMode_lost :
    after (exec (.laneMode 0 1 0 0 0 0) (ready.setUnit 0 { ready.unit 0 with state := .lost })) (fun t =>
      decide ((t.lane 0).state = .fault ∧ (t.lane 0).mode = .entry ∧ (t.lane 0).display = ⟨.seeOffice, 0⟩) &&
        t.notices.isLatched .laneFault 0) = true := by decide +kernel

theorem witness_LaneReleaseFreesTheLane :
    let i := atLane .internal .bound true (record .reweighing (some 0))
    let e := atLane .exit .settling true (record .cleared (some 0))
    Accepts (atEntry .settling) (.laneRelease 0) ∧ TablesCanonical (atEntry .settling) ∧
    ((atEntry .settling).lane 0).bound = some 1 ∧
    (atEntry .settling).byTicket 1 = some (0, record .admitting (some 0)) ∧
    (record .admitting (some 0)).lane = some 0 ∧ ((atEntry .settling).engine 0).run = none ∧
    0 < (atEntry .settling).frames .recovery ∧ Accepts i (.laneRelease 0) ∧ (i.lane 0).mode = .internal ∧
    i.byTicket 1 = some (0, record .reweighing (some 0)) ∧ (i.lane 0).state = .bound ∧
    Accepts e (.laneRelease 0) ∧ (e.lane 0).mode = .exit ∧ e.byTicket 1 = some (0, record .cleared (some 0)) ∧
    Accepts (atEntry .passing) (.laneRelease 0) ∧ ((atEntry .passing).lane 0).state = .passing :=
  ⟨accepts_of (by decide), canonical_of (by decide), by decide, by decide, by decide, by decide, by decide +kernel,
    accepts_of (by decide), by decide, by decide, by decide, accepts_of (by decide), by decide, by decide,
    accepts_of (by decide), by decide⟩

theorem test_laneRelease :
    after (exec (.laneRelease 0) (atEntry .bound)) (fun t =>
      decide ((t.lane 0).state = .releasing ∧ (t.lane 0).heldVisit = some 1 ∧ (t.lane 0).recovery = some 2000 ∧
        (t.barrier 0).tracking = .heldVisit ∧ (t.visit 0).map (·.reason) = some (some .released)) &&
        t.notices.isLatched .visitHeld 0) = true := by decide +kernel

theorem witness_LaneReleaseFreesTheLane_reset :
    let f := withBarrier (atLane .entry .fault false booked) .fault .raise
    let g := f.setUnit 0 { f.unit 0 with state := .good }
    let b := (atEntry .passing).setUnit 0 { ready.unit 0 with state := .good }
    Accepts ready (.laneReset 0) ∧ (ready.lane 0).state = .closed ∧
    Accepts f (.laneReset 0) ∧ TablesCanonical f ∧ (f.engine 0).run = none ∧ (f.lane 0).state = .fault ∧
    (f.lane 0).bound = none ∧ (f.unit (laneUnit 0)).state ≠ .good ∧ (f.barrier 0).state = .fault ∧
    Accepts g (.laneReset 0) ∧ (g.unit (laneUnit 0)).state = .good ∧ 0 < g.frames .recovery ∧
    Accepts b (.laneReset 0) ∧ TablesCanonical b ∧ (b.lane 0).bound = some 1 ∧
    b.byTicket 1 = some (0, record .admitting (some 0)) ∧ (record .admitting (some 0)).lane = some 0 ∧
    (b.lane 0).state = .passing := by
  simp only [accepts_iff, canonical_iff]
  and_intros <;> decide +kernel

/-- A lane without a bound visit, in IDLE, in RELEASING with a held visit and in MAINTENANCE, and one with a bound
visit; its unit SEARCHING, and LOST. -/
theorem witness_LaneReleaseFreesTheLane_states :
    ∀ st ∈ [LaneState.idle, .releasing, .maintenance, .bound], ∀ unit ∈ [UnitState.searching, .lost],
      let s := (atLane .entry st (decide (st = .bound)) (record .admitting (some 0))).setUnit 0
        { ready.unit 0 with state := unit }
      let s := s.setLane 0 { s.lane 0 with heldVisit := if st = .releasing then some 1 else none }
      Accepts s (.laneReset 0) ∧ TablesCanonical s ∧ (s.engine 0).run = none ∧ (s.lane 0).state = st ∧
      (s.unit (laneUnit 0)).state = unit ∧ 0 < s.frames .recovery ∧
      (s.lane 0).bound = (if st = .bound then some 1 else none) ∧
      s.byTicket 1 = some (0, record .admitting (some 0)) := by
  simp only [accepts_iff, canonical_iff]
  decide +kernel

/-- R65: from RELEASING to RELEASING the lane keeps its held visit, to FAULT it loses it. -/
theorem test_laneReset_releasing :
    let s := atLane .entry .releasing false (heldFrom .admitting .released)
    let s := withBarrier (s.setLane 0 { s.lane 0 with heldVisit := some 1 }) .up .lower
    let reset (unit : UnitState) := exec (.laneReset 0) (s.setUnit 0 { s.unit 0 with state := unit })
    after (reset .searching) (fun t => decide ((t.lane 0).heldVisit = some 1 ∧
      (t.barrier 0).tracking = .heldVisit ∧ (t.lane 0).state = .releasing)) = true ∧
    after (reset .lost) (fun t => decide ((t.lane 0).heldVisit = none ∧ (t.lane 0).state = .fault)) = true := by
  decide +kernel

theorem test_laneReset :
    after (exec (.laneReset 0) ((withBarrier (atLane .entry .fault false booked) .fault .raise).setUnit 0
      { ready.unit 0 with state := .good })) (fun t =>
        decide ((t.lane 0).state = .releasing ∧ (t.barrier 0).state = .lowering ∧
          (t.barrier 0).travel = some 6000)) = true := by decide +kernel

theorem witness_MaintenanceByRequest :
    let idle := atLane .entry .idle false booked
    let m := withBarrier (atLane .entry .maintenance false booked) .up .lower
    let f := withBarrier (atLane .entry .maintenance false booked) .fault .raise
    TablesCanonical idle ∧ (idle.engine 0).run = none ∧ Accepts idle (.maintainOn 0) ∧ (idle.lane 0).state = .idle ∧
    (idle.lane 0).bound = none ∧ Accepts m (.maintainOn 0) ∧ Accepts m (.maintainOff 0) ∧
    (m.lane 0).state = .maintenance ∧ (m.barrier 0).state ≠ .fault ∧ 0 < m.frames .recovery ∧
    Accepts f (.maintainOff 0) ∧ (f.barrier 0).state = .fault ∧ Accepts idle (.maintainOff 0) ∧
    Accepts ready (.maintainOn 0) ∧ (ready.lane 0).state = .closed ∧ Accepts (atEntry .passing) (.maintainOn 0) ∧
    TablesCanonical (atEntry .passing) ∧ ((atEntry .passing).lane 0).bound = some 1 ∧
    (atEntry .passing).byTicket 1 = some (0, record .admitting (some 0)) :=
  ⟨canonical_of (by decide), by decide, accepts_of (by decide), by decide, by decide, accepts_of (by decide),
    accepts_of (by decide), by decide, by decide, by decide +kernel, accepts_of (by decide), by decide,
    accepts_of (by decide), accepts_of (by decide), by decide, accepts_of (by decide), canonical_of (by decide),
    by decide, by decide⟩

theorem test_maintainOn_holds :
    after (exec (.maintainOn 0) (atEntry .passing)) (fun t =>
      decide ((t.lane 0).state = .maintenance ∧ (t.visit 0).map (·.reason) = some (some .maintenance))) = true := by
  decide +kernel

theorem witness_MaintenanceByRequest_barrier :
    (∀ st ∈ [BarrierState.down, .raising, .up, .lowering, .fault],
      ((withBarrier (atLane .entry .maintenance false booked) st .raise).lane 0).state = .maintenance ∧
      ((withBarrier (atLane .entry .maintenance false booked) st .raise).barrier 0).state = st) ∧
    Accepts (withBarrier (atLane .entry .maintenance false booked) .up .raise) (.barrierLower 0) ∧
    Accepts (withBarrier (atLane .entry .maintenance false booked) .up .lower) (.barrierLower 0) ∧
    Accepts (withBarrier (atLane .entry .maintenance false booked) .down .lower) (.barrierRaise 0) ∧
    Accepts (withBarrier (atLane .entry .maintenance false booked) .fault .lower) (.barrierRaise 0) ∧
    Accepts ready (.barrierRaise 0) ∧ (ready.lane 0).state ≠ .maintenance :=
  ⟨by decide, accepts_of (by decide), accepts_of (by decide), accepts_of (by decide), accepts_of (by decide),
    accepts_of (by decide), by decide⟩

/-! ### Decks and captures -/

/-- A running capture. -/
def capture (purpose : Purpose) (m : Method) (groups : List Group) : Capture :=
  { phase := if m = .whole then .measuring else .grouping, purpose := purpose, method := m, burst := .open
    groups := groups, counted := groups.length, missed := false, beyondSeen := false, timer := some 0 }

def withRun (s : State) (c : Capture) : State := s.setEngine 0 { Engine.reset with run := some c }

theorem witness_CaptureStartsOrWaits :
    let s := withDeck (atEntry .bound) .empty
    let w := withDeck (atEntry .settling) .empty
    let full := withDeck (atLane .entry .bound true { record .admitting (some 0) with
      weighings := List.replicate 6 (weighing .entry) }) .empty
    let m := withDeck (atLane .entry .maintenance false booked) .motion
    Accepts s (.capture 0 none) ∧ Accepts s (.capture 0 (some 0)) ∧ Accepts s (.capture 0 (some 8)) ∧
    (s.engine 0).run = none ∧ (s.deck 0).params.isSome ∧ (s.lane 0).state = .bound ∧ (s.lane 0).bound = some 1 ∧
    s.byTicket 1 = some (0, record .admitting (some 0)) ∧ (s.deck 0).state ≠ .overload ∧
    Accepts w (.capture 0 none) ∧ (w.lane 0).state = .settling ∧
    Accepts full (.capture 0 none) ∧ (full.lane 0).bound = some 1 ∧ (full.byTicket 1).isSome ∧
    Accepts m (.capture 0 none) ∧ (m.lane 0).state = .maintenance ∧ (m.deck 0).state ≠ .noData ∧
    Accepts (atEntry .bound) (.capture 0 none) ∧ ((atEntry .bound).deck 0).params = none ∧
    ((withDeck (atEntry .passing) .empty).lane 0).state = .passing ∧
    s.vehicles.get (record .admitting (some 0)).vehicle = some veh :=
  ⟨accepts_of (by decide), accepts_of (by decide), accepts_of (by decide), by decide, by decide, by decide, by decide,
    by decide, by decide, accepts_of (by decide), by decide, accepts_of (by decide), by decide, by decide,
    accepts_of (by decide), by decide, by decide, accepts_of (by decide), by decide, by decide, by decide⟩

/-- A CAPTURE over a running capture with settled groups, with room for its entry and without, and in MAINTENANCE; and
on a deck in OVERLOAD or NO_DATA, for a visit and in MAINTENANCE. -/
theorem witness_CaptureStartsOrWaits_again :
    let c := capture (.visit 1 .entry) .axleSum [⟨5000, true⟩]
    let s := withRun (withDeck (atEntry .bound) .empty) c
    let v := { record .admitting (some 0) with weighings := List.replicate 5 (weighing .entry) }
    let full := withRun (withDeck (atLane .entry .bound true v) .empty) c
    let x := withRun (withDeck (atLane .entry .maintenance false booked) .empty) (capture .test .axleSum [⟨5000, true⟩])
    let o := withDeck (atLane .entry .maintenance false booked) .overload
    let d := withDeck (atEntry .bound) .noData
    Accepts s (.capture 0 none) ∧ TablesCanonical s ∧ (s.engine 0).run = some c ∧ c.method = .axleSum ∧ c.groups ≠ [] ∧
    s.byTicket 1 = some (0, record .admitting (some 0)) ∧ (record .admitting (some 0)).weighings.length < 5 ∧
    (record .admitting (some 0)).lane = some 0 ∧
    Accepts full (.capture 0 none) ∧ full.byTicket 1 = some (0, v) ∧ 5 ≤ v.weighings.length ∧
    (full.engine 0).run = some c ∧
    Accepts x (.capture 0 none) ∧ (x.engine 0).run = some (capture .test .axleSum [⟨5000, true⟩]) ∧
    (x.lane 0).state = .maintenance ∧ (x.deck 0).state ≠ .overload ∧ (x.deck 0).state ≠ .noData ∧
    Accepts o (.capture 0 none) ∧ (o.deck 0).state = .overload ∧ (o.engine 0).run = none ∧
    Accepts d (.capture 0 none) ∧ (d.deck 0).state = .noData ∧ (d.deck 0).params.isSome ∧
    (d.lane 0).bound = some 1 ∧ d.byTicket 1 = some (0, record .admitting (some 0)) ∧ (d.engine 0).run = none ∧
    (d.engine 0).failures < 2 ∧ RoleOf (record .admitting (some 0)) .entry := by
  simp only [accepts_iff, canonical_iff, RoleOf]
  and_intros <;> decide

theorem test_capture :
    after (exec (.capture 0 none) (withDeck (atEntry .bound) .empty)) (fun t =>
      decide ((t.engine 0).run = some ⟨.waiting, .visit 1 .entry, .whole, .open, [], 0, false, false, some 30000⟩)) =
      true := by decide +kernel

/-- A binding whose engine has failed twice, a capture running. -/
def third (s : State) (c : Capture) : State := s.setEngine 0 { Engine.reset with run := some c, failures := 2 }

/-- The conditions on a third failure, as one that can be decided. -/
theorem atThirdFailure_of {s : State} {c : Capture} {v : Visit} {role : Role} (hc : c.purpose = .visit 1 role)
    (h : (s.engine 0).failures = 2 ∧ (s.vt.records.wf ∧ s.vehicles.wf ∧ s.permits.wf) ∧
      ((s.lane 0).state = .bound ∧ (s.lane 0).bound = some 1) ∧
      (s.byTicket 1 = some (0, v) ∧ v.lane = some 0 ∧ v.state ≠ .held) ∧ 0 < s.frames .recovery) :
    AtThirdFailure s 0 c 1 0 v :=
  ⟨⟨role, hc⟩, h.1, canonical_of h.2.1, h.2.2.1, h.2.2.2.1, h.2.2.2.2⟩

theorem witness_CapturesEndEarly :
    let s := atEntry .bound
    let pending := s.setLane 0 { s.lane 0 with pendingCapture := some ⟨none⟩ }
    let v := withRun s (capture (.visit 1 .entry) .whole [])
    let x := withRun (withDeck (atLane .entry .maintenance false booked) .empty) (capture .test .axleSum [⟨5000, true⟩])
    let sums := withRun (withDeck s .empty) (capture (.visit 1 .entry) .axleSum [⟨5000, true⟩])
    Accepts s (.terminate 0) ∧ (s.engine 0).run = none ∧ (s.lane 0).pendingCapture = none ∧
    Accepts pending (.terminate 0) ∧ (pending.lane 0).pendingCapture.isSome ∧
    Accepts v (.terminate 0) ∧ (v.engine 0).run = some (capture (.visit 1 .entry) .whole []) ∧
    (v.engine 0).failures < 2 ∧ Accepts x (.terminate 0) ∧
    (x.engine 0).run = some (capture .test .axleSum [⟨5000, true⟩]) ∧
    (capture .test .axleSum [⟨5000, true⟩]).groups ≠ [] ∧ (capture .test .axleSum []).groups = [] ∧
    Accepts (third s (capture (.visit 1 .entry) .whole [])) (.terminate 0) ∧
    AtThirdFailure (third s (capture (.visit 1 .entry) .whole [])) 0 (capture (.visit 1 .entry) .whole []) 1 0
      (record .admitting (some 0)) ∧
    Accepts sums (.terminate 0) ∧ TablesCanonical sums ∧ (sums.lane 0).state = .bound ∧ (sums.lane 0).bound = some 1 ∧
    sums.byTicket 1 = some (0, record .admitting (some 0)) ∧ RoleOf (record .admitting (some 0)) .entry ∧
    (record .admitting (some 0)).weighings.length < 6 := by
  refine ⟨accepts_of (by decide), by decide, by decide, accepts_of (by decide), by decide, accepts_of (by decide),
    by decide, by decide, accepts_of (by decide), by decide, by decide, by decide, accepts_of (by decide),
    atThirdFailure_of rfl (by decide +kernel), accepts_of (by decide), canonical_of (by decide), by decide, by decide,
    by decide, .inl (by decide), by decide⟩

theorem test_third_failure :
    after (exec (.terminate 0) (third (atEntry .bound) (capture (.visit 1 .entry) .whole []))) (fun t =>
      decide ((t.visit 0).map (·.reason) = some (some .captureFailed) ∧ (t.lane 0).state = .releasing ∧
        (t.engine 0).failures = 3)) = true := by decide +kernel

/-- An ENTRY visit being weighed as the sample that settles its deck waits. -/
def abortable : State :=
  let s := withDeck (withBarrier (atEntry .bound) .down .lower) .motion
  let s := s.setDeck 0 { s.deck 0 with window := some ⟨8000, 1000, 3, false⟩ }
  let s := s.setUnit 0 { s.unit 0 with state := .good }
  delivering (withRun s (capture (.visit 1 .entry) .whole [])) (.deckSample 0 17000 false)

/-- The three aborts of a running capture, with settled groups, without, and with a sample that would complete it; and a
test weighing under MAINTAIN OFF and LANE RESET. -/
theorem witness_AbortedCapturesEnd :
    let v := withRun (atEntry .bound) (capture (.visit 1 .entry) .axleSum [⟨5000, true⟩])
    let m := withBarrier (atLane .entry .maintenance false booked) .up .lower
    let x := withRun (m.setUnit 0 { m.unit 0 with state := .good }) (capture .test .whole [])
    (∀ s ∈ [v, abortable], (s.rstLow = false ∧ s.loader.status ≠ .loading ∧ s.restarting = false) ∧
      (∀ i ∈ [Instr.laneRelease 0, .laneReset 0, .maintainOn 0], s.portTakes i = true) ∧
      (s.vt.records.wf ∧ s.vehicles.wf ∧ s.permits.wf) ∧ (s.lane 0).mode = .entry ∧ (s.lane 0).state = .bound ∧
      (s.lane 0).bound = some 1 ∧ s.byTicket 1 = some (0, record .admitting (some 0)) ∧ 0 < s.frames .recovery) ∧
    (record .admitting (some 0)).lane = some 0 ∧ (record .admitting (some 0)).weighings.length < 6 ∧
    v.loop.delivery = none ∧ (v.engine 0).run = some (capture (.visit 1 .entry) .axleSum [⟨5000, true⟩]) ∧
    (abortable.unit (laneUnit 0)).state = .good ∧
    (abortable.engine 0).run = some (capture (.visit 1 .entry) .whole []) ∧
    Sampled abortable 0 17000 9 params 8000 ∧ ReadsAs abortable 0 params 8000 .stable ∧
    Accepts x (.maintainOff 0) ∧ Accepts x (.laneReset 0) ∧ (x.lane 0).state = .maintenance ∧
    (x.lane 0).bound = none ∧ (x.barrier 0).state ≠ .fault ∧ (x.unit (laneUnit 0)).state = .good ∧
    0 < x.frames .recovery ∧ (x.engine 0).run = some (capture .test .whole []) := by
  refine ⟨by decide +kernel, by decide, by decide, by decide, by decide, by decide, by decide,
    ⟨by decide, by decide, by decide, by decide, by decide, by decide⟩,
    .stable ⟨8000, 1000, 3, false⟩ (by decide) (by decide) (by decide) (by decide +kernel) (by decide),
    accepts_of (by decide), accepts_of (by decide), by decide, by decide, by decide, by decide, by decide +kernel,
    by decide⟩

theorem test_release_aborts :
    after (exec (.laneRelease 0) (withRun (atEntry .bound) (capture (.visit 1 .entry) .axleSum [⟨5000, true⟩]))) (fun t =>
      decide ((t.visit 0).map (·.weighings) = some [⟨.entry, some 0, some .axleSum, 5000, some [5000], .part, .withdrawn,
        false, ⟨10, 60⟩⟩] ∧ (t.engine 0).run = none)) = true := by decide +kernel

theorem test_terminate :
    after (exec (.terminate 0) (withRun (withDeck (atLane .entry .maintenance false booked) .empty)
      (capture .test .axleSum [⟨5000, true⟩, ⟨3000, true⟩]))) (fun t =>
        decide ((t.lane 0).testResult =
          some ⟨.complete, .axleSum, some 8000, some [5000, 3000], some true, ⟨10, 60⟩⟩)) = true := by decide +kernel

/-- Deck D0 EMPTY with a settled window and a last sample. -/
def settledDeck (raw : Nat) : State :=
  (withDeck (yard booked) .empty).setDeck 0 { (withDeck ready .empty).deck 0 with
    window := some ⟨0, 1000, 4, true⟩, last := some ⟨raw, false, 9, 0, 0⟩ }

theorem witness_ZeroSetsTheWorkingZero :
    Accepts ready (.zero 4) ∧ Accepts ready (.zero 0) ∧ (ready.deck 0).params = none ∧
    Accepts (settledDeck 1010) (.zero 0) ∧ ((settledDeck 1010).deck 0).params = some params ∧
    ((settledDeck 1010).deck 0).window = some ⟨0, 1000, 4, true⟩ ∧ ((settledDeck 1010).engine 0).run = none ∧
    ((settledDeck 1010).deck 0).last = some ⟨1010, false, 9, 0, 0⟩ ∧
    (roundDiv (((3400 : Int) - 1000) * 32768) 65536).natAbs ≤ 1200 ∧
    1200 < (roundDiv (((3401 : Int) - 1000) * 32768) 65536).natAbs ∧
    ((withDeck ready .motion).deck 0).state ≠ .empty :=
  ⟨accepts_of (by decide), accepts_of (by decide), by decide, accepts_of (by decide), by decide, by decide, by decide,
    by decide, by decide, by decide, by decide⟩

theorem test_zero :
    after (exec (.zero 0) (settledDeck 1010)) (fun t =>
      decide ((t.deck 0).workingZero = 1010 ∧ t.port.buffer = .answer 48 .ok (.zeroOffset 5))) = true := by
  decide +kernel

/-- A sample of each kind: weighed, dropped, at and past the drift that zero tracking takes, in overload under a
capture. -/
theorem witness_DeckSampleIsWeighed :
    let s := delivering (settledDeck 1000) (.deckSample 0 17000 false)
    let d := delivering ready (.deckSample 0 17000 true)
    let z := (settledDeck 1000).setDeck 0 { (settledDeck 1000).deck 0 with window := some ⟨0, 1000, 4, true⟩ }
    let o := delivering (withRun (withDeck (atLane .entry .maintenance false booked) .motion) (capture .test .whole []))
      (.deckSample 0 17000 true)
    (s.rstLow = false ∧ s.loop.delivery = some ⟨.deckSample 0 17000 false, 9⟩ ∧ (s.deck 0).params = some params ∧
    (s.unit (digitizer 0)).state ≠ .lost ∧ (s.unit (digitizer 0)).state ≠ .alarm ∧ (s.engine 0).run = none ∧
    (s.deck 0).window = some ⟨0, 1000, 4, true⟩ ∧
    roundDiv (roundDiv (((17000 : Int) - 1000) * 32768) 65536) 20 * 20 = 8000) ∧
    (d.loop.delivery = some ⟨.deckSample 0 17000 true, 9⟩ ∧ (d.deck 0).params = none) ∧
    (2 * (roundDiv (((1020 : Int) - 1000) * 32768) 65536).natAbs ≤ 20 ∧
      20 < 2 * (roundDiv (((1021 : Int) - 1000) * 32768) 65536).natAbs ∧ (z.deck 0).tracking = none) ∧
    (o.loop.delivery = some ⟨.deckSample 0 17000 true, 9⟩ ∧ (o.deck 0).params = some params ∧
      (o.engine 0).run = some (capture .test .whole []) ∧ (capture .test .whole []).purpose = .test) := by decide

/-- An overload sample under a VISIT capture whose binding has failed twice. -/
theorem witness_DeckSampleIsWeighed_third :
    let c := capture (.visit 1 .entry) .whole []
    let s := third (delivering (withDeck (atEntry .bound) .motion) (.deckSample 0 17000 true)) c
    s.rstLow = false ∧ s.loop.delivery = some ⟨.deckSample 0 17000 true, 9⟩ ∧ (s.deck 0).params = some params ∧
    (s.unit (digitizer 0)).state ≠ .lost ∧ (s.unit (digitizer 0)).state ≠ .alarm ∧ (s.engine 0).run = some c ∧
    AtThirdFailure s 0 c 1 0 (record .admitting (some 0)) :=
  ⟨by decide, by decide, by decide, by decide, by decide, by decide, atThirdFailure_of rfl (by decide +kernel)⟩

theorem test_deckSample :
    after (exec (.deckSample 0 17000 false) (delivering (settledDeck 1000) (.deckSample 0 17000 false))) (fun t =>
      decide ((t.deck 0).state = .motion ∧ (t.deck 0).window = some ⟨8000, 0, 1, false⟩ ∧
        (t.deck 0).last = some ⟨17000, false, 9, 8000, 8000⟩)) = true := by decide +kernel

/-- R103: an EMPTY settled deck that has drifted by half a division is tracked to the sample. -/
theorem test_zero_tracking :
    after (exec (.deckSample 0 1020 false) (delivering (settledDeck 1000) (.deckSample 0 1020 false))) (fun t =>
      decide ((t.deck 0).workingZero = 1020 ∧ (t.deck 0).state = .empty ∧ (t.deck 0).tracking = some 1000)) = true := by
  decide +kernel

/-- An ENTRY visit being weighed on a deck whose window has settled at 8,000 kg. -/
def weighingNow : State :=
  let s := withDeck (withBarrier (atEntry .bound) .down .lower) .motion
  let s := s.setDeck 0 { s.deck 0 with window := some ⟨8000, 1000, 3, false⟩ }
  delivering (withRun s (capture (.visit 1 .entry) .whole [])) (.deckSample 0 17000 false)

/-- The sample that waits in a state whose deck D0 has the parameters above. -/
theorem sampled_now {s : State} (raw : BitVec 24) (weight : Int)
    (h : s.rstLow = false ∧ s.loop.delivery = some ⟨.deckSample 0 raw false, 9⟩ ∧ (s.deck 0).params = some params ∧
      (s.unit (digitizer 0)).state ≠ .lost ∧ (s.unit (digitizer 0)).state ≠ .alarm ∧
      weight = roundDiv (roundDiv (((raw.toNat : Int) - (s.deck 0).workingZero) * params.span) 65536) params.division *
        params.division ∧ weight ≤ (params.capacity + 9 * params.division : Int)) :
    Sampled s 0 raw 9 params weight :=
  ⟨h.1, h.2.1, h.2.2.1, ⟨h.2.2.2.1, h.2.2.2.2.1⟩, h.2.2.2.2.2.1, h.2.2.2.2.2.2⟩

theorem witness_StableReadingLetsTheVisitPass :
    Sampled weighingNow 0 17000 9 params 8000 ∧ ReadsAs weighingNow 0 params 8000 .stable ∧
    TablesCanonical weighingNow ∧ (weighingNow.lane 0).state = .bound ∧ (weighingNow.lane 0).bound = some 1 ∧
    weighingNow.byTicket 1 = some (0, record .admitting (some 0)) ∧
    (record .admitting (some 0)).lane = some 0 ∧ (record .admitting (some 0)).weighings.length < 6 ∧
    (weighingNow.engine 0).run = some (capture (.visit 1 .entry) .whole []) ∧
    (capture (.visit 1 .entry) .whole []).phase = .measuring := by
  refine ⟨sampled_now 17000 8000 (by decide), .stable ⟨8000, 1000, 3, false⟩ (by decide) (by decide) (by decide)
    (by decide +kernel) (by decide), canonical_of (by decide), ?_⟩
  and_intros <;> decide

theorem test_stable_reading :
    after (exec (.deckSample 0 17000 false) weighingNow) (fun t =>
      decide ((t.lane 0).state = .passing ∧ (t.barrier 0).order = .raise ∧
        (t.visit 0).map (·.weighings) = some [⟨.entry, some 0, some .whole, 8000, none, .complete, .valid, true,
          ⟨10, 60⟩⟩] ∧ (t.engine 0).run = none ∧ (t.deck 0).state = .stable)) = true := by decide +kernel

/-- An EXIT visit whose ENTRY weighing is `kg`, about to be weighed at 8,000 kg. -/
def exitingNow (kg : Int) : State :=
  let v := { record .exiting (some 0) with inYard := true, weighings := [{ weighing .entry with weight := kg }] }
  let s := withDeck (withBarrier (atLane .exit .bound true v) .down .lower) .motion
  let s := s.setDeck 0 { s.deck 0 with window := some ⟨8000, 1000, 3, false⟩ }
  delivering (withRun s (capture (.visit 1 .exit) .whole [])) (.deckSample 0 17000 false)

/-- The record of that visit. -/
def exitingVisit (kg : Int) : Visit :=
  { record .exiting (some 0) with inYard := true, weighings := [{ weighing .entry with weight := kg }] }

/-- A difference of −1 division completes, one just below it holds. -/
theorem witness_ClearanceChargesOrHolds :
    (∀ kg ∈ [(7980 : Int), 7979], Sampled (exitingNow kg) 0 17000 9 params 8000 ∧ TablesCanonical (exitingNow kg) ∧
      (exitingNow kg).byTicket 1 = some (0, exitingVisit kg) ∧ ((exitingNow kg).lane 0).state = .bound ∧
      ((exitingNow kg).lane 0).bound = some 1 ∧ ((exitingNow kg).engine 0).run = some (capture (.visit 1 .exit) .whole []) ∧
      (exitingNow kg).permits.get 7 = some perm ∧ (exitingNow kg).vehicles.get 0 = some veh ∧
      ReadsAs (exitingNow kg) 0 params 8000 .stable) ∧
    ClearanceCompletes (exitingNow 7980) { exitingVisit 7980 with
      weighings := withEntry (exitingVisit 7980) (wholeEntry (exitingNow 7980) 0 .exit 8000 true) } ∧
    ClearanceHolds (exitingNow 7979) { exitingVisit 7979 with
      weighings := withEntry (exitingVisit 7979) (wholeEntry (exitingNow 7979) 0 .exit 8000 true) } := by
  refine ⟨?_, ⟨by decide, ?_⟩, .inr ⟨(-21, some 20), by decide, 20, by decide, by decide⟩⟩
  · have both : ∀ kg : Int, kg = 7980 ∨ kg = 7979 → Sampled (exitingNow kg) 0 17000 9 params 8000 ∧
        TablesCanonical (exitingNow kg) ∧
        (exitingNow kg).byTicket 1 = some (0, exitingVisit kg) ∧ ((exitingNow kg).lane 0).state = .bound ∧
        ((exitingNow kg).lane 0).bound = some 1 ∧
        ((exitingNow kg).engine 0).run = some (capture (.visit 1 .exit) .whole []) ∧
        (exitingNow kg).permits.get 7 = some perm ∧ (exitingNow kg).vehicles.get 0 = some veh ∧
        ReadsAs (exitingNow kg) 0 params 8000 .stable := by
      rintro kg (rfl | rfl) <;>
      exact ⟨sampled_now 17000 8000 (by decide), canonical_of (by decide), by decide, by decide, by decide, by decide,
        by decide, by decide, .stable ⟨8000, 1000, 3, false⟩ (by decide) (by decide) (by decide) (by decide +kernel)
          (by decide)⟩
    intro kg hk
    exact both kg (by simpa using hk)
  · have only : differencesOf (exitingNow 7980) { exitingVisit 7980 with
        weighings := withEntry (exitingVisit 7980) (wholeEntry (exitingNow 7980) 0 .exit 8000 true) } =
        [(-20, some 20)] := by decide
    rw [only]
    intro d hd
    simp only [List.mem_singleton] at hd
    subst hd
    exact .inr ⟨20, rfl, by decide⟩

theorem test_clearance :
    after (exec (.deckSample 0 17000 false) (exitingNow 9000)) (fun t =>
      decide ((t.visit 0).map (·.tips) = some [⟨1, 0, .default, some 1000⟩] ∧ (t.visit 0).map (·.state) = some .cleared ∧
        t.permits = [(7, { perm with balance := 4000 })] ∧ (t.lane 0).state = .passing)) = true := by decide +kernel

/-- R21 (log 38): a record held with NEGATIVE_NET has its DEFAULT entry, without a net. -/
theorem test_clearance_held :
    after (exec (.deckSample 0 17000 false) (exitingNow 7979)) (fun t =>
      decide ((t.visit 0).map (·.tips) = some [⟨1, 0, .default, none⟩] ∧
        (t.visit 0).map (·.reason) = some (some .negativeNet) ∧ t.permits = [(7, perm)])) = true := by decide +kernel

theorem witness_ClearanceChargesOrHolds_stored :
    let v := { weighed 1 with useTare := true }
    let s := { atLane .exit .idle false v with vehicles := [(0, { veh with tare := some ⟨5000, 5, 5⟩ })] }
    Accepts s (.call 0 1) ∧ TablesCanonical s ∧ (s.lane 0).mode = .exit ∧ (s.lane 0).state = .idle ∧
    (s.lane 0).cycle = none ∧ s.byTicket 1 = some (0, v) ∧ v.state = .inYard ∧ v.weighings.length < 6 ∧
    0 < s.frames .recovery ∧ v.kind = .tip ∧ v.useTare = true ∧ v.permit = some 7 ∧ s.permits.get 7 = some perm ∧
    s.vehicles.get 0 = some { veh with tare := some ⟨5000, 5, 5⟩ } ∧ s.clock.day ≤ 5 + 5 := by
  simp only [accepts_iff, canonical_iff]
  and_intros <;> decide +kernel

/-- An AXLE_SUM capture `c` on deck D0 with this window, a sample waiting. -/
def axleNow (c : Capture) (window : Option Window) (raw : BitVec 24) : State :=
  let s := withDeck (withBarrier (atEntry .bound) .down .lower) .motion
  let s := s.setDeck 0 { s.deck 0 with method := .axle, window := window }
  delivering (withRun s c) (.deckSample 0 raw false)

/-- A group arrives and is recorded; a burst runs out on the empty deck, ends at its length, and misses its last group;
the captures that end so may fail, are of a test weighing, or are of a bound visit. -/
theorem witness_AxleGroupsAreGathered :
    let g := capture (.visit 1 .entry) .axleSum [⟨5000, true⟩]
    let fixed := { g with burst := .fixed 2 }
    let out := { g with beyondSeen := true }
    let onGroup := { fixed with phase := .onGroup false }
    let settled : Option Window := some ⟨8000, 1000, 3, false⟩
    (Sampled (axleNow g none 17000) 0 17000 9 params 8000 ∧ ReadsAs (axleNow g none 17000) 0 params 8000 .motion ∧
      AxleGoesOn g 8000 true .motion { g with phase := .onGroup false }) ∧
    (ReadsAs (axleNow g settled 17000) 0 params 8000 .stable ∧ AxleGoesOn g 8000 true .stable (withGroup g 8000 true)) ∧
    (Sampled (axleNow out none 1000) 0 1000 9 params 0 ∧ ReadsAs (axleNow out none 1000) 0 params 0 .empty ∧
      AxleEnds out 0 true .empty out) ∧
    AxleEnds fixed 8000 true .stable (withGroup fixed 8000 true) ∧
    AxleEnds onGroup 0 true .empty (withoutGroup onGroup) ∧
    ((axleNow g settled 17000).engine 0).run = some g ∧ TablesCanonical (axleNow g settled 17000) ∧
    (axleNow g settled 17000).byTicket 1 = some (0, record .admitting (some 0)) ∧
    ((axleNow g settled 17000).lane 0).state = .bound ∧ g.purpose = .visit 1 .entry ∧ g.method = .axleSum ∧
    MayFail (axleNow g settled 17000) 0 g := by
  refine ⟨⟨sampled_now 17000 8000 (by decide), .started (by decide) (by rintro w ⟨⟩), .arrives (by decide)⟩,
    ⟨.stable ⟨8000, 1000, 3, false⟩ (by decide) (by decide) (by decide) (by decide +kernel) (by decide),
      .records (.inl (by decide)) ?_⟩,
    ⟨sampled_now 1000 0 (by decide), .empty (by decide), .runsOut (by decide) (by decide) (by decide) (by decide)⟩,
    .records (.inl (by decide)) (.inr ⟨2, by decide, by decide⟩),
    .misses (by decide) (.inr ⟨2, by decide, by decide⟩), by decide, canonical_of (by decide), by decide, by decide,
    by decide, by decide, .inr ⟨⟨1, .entry, by decide⟩, by decide⟩⟩
  rintro (h | ⟨k, h, -⟩)
  · exact absurd h (by decide)
  · exact absurd h (by simp [withGroup, capture])

theorem test_axle_ends :
    after (exec (.deckSample 0 17000 false)
      (axleNow { capture (.visit 1 .entry) .axleSum [⟨5000, true⟩] with burst := .fixed 2 }
        (some ⟨8000, 1000, 3, false⟩) 17000)) (fun t =>
      decide ((t.visit 0).map (fun v => v.weighings.map (·.weight)) = some [13000] ∧ (t.lane 0).state = .passing)) =
      true := by decide +kernel

theorem witness_DeckTimersAct :
    let s := withDeck ready .motion
    let x := s.setDeck 0 { s.deck 0 with noData := 4, tracking := some 0 }
    let c := withRun (withDeck (atLane .entry .maintenance false booked) .motion) (capture .test .whole [])
    let g := withRun (withDeck (atLane .entry .maintenance false booked) .motion) (capture .test .axleSum [⟨5000, true⟩])
    x.rstLow = false ∧ (x.deck 0).tracking = some 0 ∧ (x.deck 0).params.isSome ∧ (x.deck 0).state ≠ .noData ∧
    4 ≤ (x.deck 0).noData ∧ (x.engine 0).run = none ∧ (c.engine 0).run = some (capture .test .whole []) ∧
    (capture .test .whole []).timer = some 0 ∧ (c.deck 0).noData < 4 ∧ (c.unit (digitizer 0)).badRun < 8 ∧
    (withRun x (capture .test .whole [])).engine 0 = c.engine 0 ∧
    (g.engine 0).run = some (capture .test .axleSum [⟨5000, true⟩]) := by
  and_intros <;> decide

/-- A deck without data and the capture limit under VISIT captures: at the third failure, and with settled groups. -/
theorem witness_DeckTimersAct_visit :
    let w := capture (.visit 1 .entry) .whole []
    let g := capture (.visit 1 .entry) .axleSum [⟨5000, true⟩]
    let s := third (withDeck (atEntry .bound) .motion) w
    let gone := s.setDeck 0 { s.deck 0 with noData := 4 }
    let sums := withRun (withDeck (atEntry .bound) .motion) g
    AtThirdFailure s 0 w 1 0 (record .admitting (some 0)) ∧ AtThirdFailure gone 0 w 1 0 (record .admitting (some 0)) ∧
    (gone.engine 0).run = some w ∧ (gone.deck 0).params.isSome ∧ (gone.deck 0).state ≠ .noData ∧ 4 ≤ (gone.deck 0).noData ∧
    (s.engine 0).run = some w ∧ w.timer = some 0 ∧ (s.deck 0).noData < 4 ∧ (s.unit (digitizer 0)).badRun < 8 ∧
    (sums.engine 0).run = some g ∧ g.groups ≠ [] ∧ sums.byTicket 1 = some (0, record .admitting (some 0)) ∧
    (record .admitting (some 0)).weighings.length < 6 ∧ RoleOf (record .admitting (some 0)) .entry := by
  refine ⟨atThirdFailure_of rfl (by decide +kernel), atThirdFailure_of rfl (by decide +kernel), ?_⟩
  simp only [RoleOf]
  and_intros <;> decide

theorem test_capture_limit :
    after (exec (.captureTimerExpiry 0) (withRun (withDeck (atLane .entry .maintenance false booked) .motion)
      (capture .test .whole []))) (fun t => decide ((t.lane 0).testResult =
        some ⟨.failed .noStable, .whole, none, none, none, ⟨10, 60⟩⟩)) = true := by decide +kernel

/-! ### The loop -/

/-- The part with a frame of three slots: U0 OUT, U0 IN, U4 IN. -/
def looped (st : LoopState) : State :=
  { ready with loop := { Loop.reset with
      state := st, frameLength := 3, period := 4, position := some 0
      slots := [⟨some 0, .out⟩, ⟨some 0, .inward⟩, ⟨some 4, .inward⟩] ++ List.replicate 19 SlotEntry.unused } }

theorem witness_LoopRequestsFollowTheTable :
    let changed := { looped .paused with loop := { (looped .paused).loop with tableChanged := true } }
    let ended := { looped .pausing with loop := { (looped .pausing).loop with slotDone := true, position := some 3 } }
    let used := { looped .running with lanes := (atEntry .releasing).lanes }
    (∀ st ∈ [LoopState.stopped, .running, .pausing, .paused], (looped st).loop.state = st) ∧
    Accepts (looped .stopped) .loopStart ∧ Accepts (looped .running) .loopStart ∧
    Accepts (looped .running) .loopPause ∧ Accepts (looped .paused) .loopResume ∧
    (looped .paused).loop.tableChanged = false ∧ Accepts (looped .pausing) .loopResume ∧
    (looped .pausing).loop.slotDone = false ∧ Accepts ended .loopResume ∧ ended.loop.state = .pausing ∧
    ended.loop.slotDone = true ∧
    Accepts (looped .stopped) .loopResume ∧ Accepts changed .loopResume ∧ changed.loop.tableChanged = true ∧
    Accepts (looped .paused) .loopStop ∧ Accepts (looped .stopped) .loopStop ∧
    (∀ n : Fin 4, ((looped .running).lane n).state = .closed) ∧
    Accepts used .loopPause ∧ Accepts used .loopStop ∧ (used.lane 0).state = .releasing := by
  simp only [accepts_iff]
  and_intros <;> decide

theorem test_loopStart :
    after (exec .loopStart (looped .stopped)) (fun t =>
      decide (t.loop.frameNo = 1 ∧ t.loop.markerOpen = true ∧ (t.barrier 3).travel = some 1500)) = true := by
  decide +kernel

/-- R99, R132, R147: a DECK_SAMPLE that waits at LOOP STOP is not taken in STOPPED, and is no sample of the first frame
after LOOP START, which adds 1 to the no-data count. -/
theorem test_sample_at_stop :
    let s := delivering { withDeck (looped .running) .empty with loop := (looped .running).loop }
      (.deckSample 0 17000 false)
    let run (s : State) (c : Instr) : State := match exec c s with
      | .next t => { t with port := Port.reset }
      | .fault _ | .refused _ => s
    let stopped := run s .loopStop
    let started := run (run stopped (.deckSample 0 17000 false)) .loopStart
    stopped.loop.state = .stopped ∧ stopped.loop.delivery = none ∧ (started.deck 0).last = (s.deck 0).last ∧
    (started.deck 0).sampled = false ∧ ((started.publish).deck 0).noData = (s.deck 0).noData + 1 := by decide +kernel

/-- R147, R166: LOOP STOP discards the partial frame with the marks of the frame in progress. -/
theorem test_loopStop :
    let s := looped .running
    after (exec .loopStop (s.setUnit 0 { s.unit 0 with alarmSeen := true })) (fun t =>
      decide (t.loop.state = .stopped ∧ t.loop.position = none ∧ (t.unit 0).alarmSeen = false)) = true := by decide +kernel

theorem witness_LoopTablesBySlotSetAndAddress :
    let none22 : List Byte := List.replicate 22 15
    let unused := List.replicate 22 SlotEntry.unused
    Accepts (looped .stopped) (.slotSet 22 none22) ∧ SpellsSlots none22 unused ∧ SlotsSuitUnits 22 unused ∧
    ¬ SlotsSuitUnits 23 unused ∧ ¬ SlotsSuitUnits 1 (⟨some 4, .out⟩ :: List.replicate 21 SlotEntry.unused) ∧
    (∃ b ∈ (14 : Byte) :: List.replicate 21 15, 8 ≤ b.toNat % 16 ∧ b.toNat % 16 ≤ 14) ∧
    Accepts (looped .running) (.slotSet 0 none22) ∧ Accepts (looped .stopped) (.unitAddress 7 30) ∧
    Accepts (looped .stopped) (.unitAddress 7 1) ∧ (looped .stopped).loop.addresses.get 0 = 1 ∧
    (∀ v : Fin 8, v ≠ 7 → (looped .stopped).loop.addresses.get v ≠ 30) ∧
    Accepts (looped .pausing) (.unitAddress 0 30) ∧ Accepts (looped .stopped) (.unitAddress 0 31) ∧
    Accepts (looped .stopped) (.inject 7) ∧ Accepts (looped .stopped) (.inject 8) ∧
    Accepts (looped .running) (.unitAddress 8 0) := by
  simp only [accepts_iff, SlotsSuitUnits]
  refine ⟨by decide, ⟨by decide, ?_⟩, ?_⟩
  · intro k b e hb he
    simp only [List.getElem?_replicate] at hb he
    split at hb
    · cases hb
      split at he <;> cases he <;> exact ⟨.inl (by decide), by decide⟩
    · cases hb
  · and_intros <;> decide +kernel

/-- Each signal and each drive command, and the code of each. -/
theorem witness_OutboundMessagesSayTheLane :
    let green := withBarrier (atEntry .passing) .up .raise
    (green.signal 0 = .green ∧ ready.signal 0 = .dark ∧ (atEntry .bound).signal 0 = .red) ∧
    ((withBarrier ready .down .lower).drive 0 = .lower ∧ (withBarrier ready .raising .lower).drive 0 = .raise ∧
      green.drive 0 = .raise ∧ (withBarrier ready .up .lower).drive 0 = .stay ∧
      (withBarrier ready .lowering .lower).drive 0 = .lower ∧
      (withBarrier (atLane .entry .maintenance false booked) .fault .raise).drive 0 = .stay ∧
      (withBarrier (atLane .entry .fault false booked) .fault .lower).drive 0 = .lower) ∧
    [Drive.stay, .raise, .lower][1]? = some (green.drive 0) ∧
    [Signal.red, .green, .dark][1]? = some (green.signal 0) ∧
    [DisplayCode.welcome, .weighing, .proceed, .seeOffice, .closed, .ticket][4]? =
      some (green.lane 0).display.code := by decide

/-- R136, R140: the LANE_COMMAND of address 1 with drive RAISE, signal GREEN and display PROCEED 1, byte by byte, and
with the inject mark set; R136: the POLL of address 5. -/
theorem test_outbound :
    let s := withBarrier (atEntry .passing) .up .raise
    let s := s.setLane 0 { s.lane 0 with display := ⟨.proceed, 1⟩ }
    s.outbound 0 = [0xC6, 0x09, 0x25, 0x01, 0x00, 0x00, 0x00, 0xD1] ∧
    { s with loop := { s.loop with inject := s.loop.inject.set 0 true } }.outbound 0 =
      [0xC6, 0x09, 0x25, 0x01, 0x00, 0x00, 0x00, 0x2E] ∧
    s.outbound 4 = [0xC6, 0x2A, 0xD6] := by decide +kernel

/-- The loop at a position, with the poll of that slot sent where `polled` says. -/
def atSlot (st : LoopState) (position : Nat) (polled : Option Bool) : State :=
  { looped st with loop := { (looped st).loop with position := some position, polled := polled } }

theorem witness_SlotsAreDrivenAndJudged :
    let opened := { looped .running with loop := { (looped .running).loop with markerOpen := true } }
    let done := { atSlot .pausing 2 none with loop := { (atSlot .pausing 2 none).loop with slotDone := true } }
    let begun := { looped .pausing with loop := { (looped .pausing).loop with begun := some 1 } }
    (opened.rstLow = false ∧ opened.loopClear = true ∧ opened.loop.markerOpen = true) ∧
    ((looped .running).loopClear = true ∧ (looped .running).loop.nextOwned 0 = some 1 ∧
      (looped .running).loop.owner 1 = some (laneUnit 0, .out)) ∧
    (begun.loopClear = true ∧ begun.loop.state = .pausing ∧ begun.loop.begun = some 1 ∧
      begun.loop.nextOwned 0 = some 1) ∧
    ((atSlot .running 2 none).loopClear = true ∧ (atSlot .running 2 none).loop.nextOwned 2 = some 3 ∧
      (atSlot .running 2 none).loop.owner 3 = some (digitizer 0, .inward)) ∧
    (done.loopClear = true ∧ done.loop.state = .pausing ∧ done.loop.slotDone = true ∧ done.loop.position = some 2) ∧
    ((atSlot .running 3 (some false)).loopClear = true ∧ (atSlot .running 3 (some false)).loop.polled = some false ∧
      (atSlot .running 3 (some true)).loop.polled = some true ∧
      (atSlot .running 3 (some true)).loop.addresses.get (digitizer 0) ≤ 30) := by decide +kernel

/-- A pause that may fall in its slot, one that would fall before a slot shown or begun, one in the slot shown and in
another, and one under a marker slot begun. -/
theorem witness_SlotsAreDrivenAndJudged_paused :
    let s (begun : Option Nat) (shown : Nat) (kept : Bool) : State :=
      { looped .pausing with loop := { (looped .pausing).loop with
        frameLength := 5, position := some 3, begun := begun, shown := shown, pauseShown := kept } }
    let paused (s : State) := after (exec (.loopPaused 4) s) (fun t => decide (t.loop.state = .paused))
    ((s none 0 false).loopClear = true ∧ (s none 0 false).loop.nextOwned 3 = none ∧
      paused (s none 0 false) = true) ∧
    (paused (s none 5 false) = false ∧ paused (s none 4 true) = true ∧ paused (s none 3 true) = false) ∧
    (paused (s (some 4) 0 false) = true ∧ paused (s (some 5) 0 false) = false ∧
      paused (s (some 0) 0 false) = false) ∧
    (s none 5 true).loopClear = true := by decide +kernel

/-- R147: after a RESUME from PAUSED at slot `q` and a PAUSE, the slot after `q` runs to its end: LOOP_PAUSED `q` does
not take place, and the LANE_COMMAND, the POLL and the MARKER that begin the slot do. -/
theorem test_resume_begins_the_next_slot :
    let again (q : Nat) : State :=
      { atSlot .pausing q none with loop := { (atSlot .running q none).resumeAfter.loop with state := .pausing } }
    let kept (c : Instr) (s : State) := after (exec c s) (fun t => decide (t = s))
    ([0, 1, 2, 3].all (fun q => kept (.loopPaused q) (again q))) = true ∧
    after (exec (.laneCommand 1 []) (again 0)) (fun t => decide (t.loop.position = some 1 ∧ t.loop.slotDone = true ∧
      t.loop.begun = none)) = true ∧
    after (exec (.poll 3 []) (again 2)) (fun t => decide (t.loop.polled = some false)) = true ∧
    after (exec (.marker []) (again 3)) (fun t => decide (t.loop.published.map (·.frame) = some 0 ∧
      t.loop.slotDone = true)) = true := by decide +kernel

/-- R147, R152: after that RESUME the slot in progress is the one after `q`; after the frame's last, the marker slot. -/
theorem test_resume_shows_the_next_slot :
    (∀ q ∈ [0, 1, 2], (atSlot .running q none).resumeAfter.positionDrawn = q + 1) ∧
    after (exec .loopStatus (atSlot .running 3 none).resumeAfter) (fun t => match t.port.buffer with
      | .answer _ _ (.loop l _) => decide (l.position = some 0)
      | _ => false) = true := by
  refine ⟨fun q h => ?_, by decide +kernel⟩
  have bounds : ∀ q ∈ [0, 1, 2], let s := (atSlot .running q none).resumeAfter
      s.firstInProgress = q + 1 ∧ s.loop.lastInProgress s.slotNow ≤ q + 1 := by decide +kernel
  have low := (atSlot .running q none).resumeAfter.positionDrawn_ge
  have high := (atSlot .running q none).resumeAfter.positionDrawn_le
  have := bounds q h
  omega

/-- The slot of a lane unit and of a digitizer, in a RUNNING and in a PAUSING loop; the unit's address is not the one of
another unit. -/
theorem witness_Listens :
    Listens (atSlot .running 1 none) 2 0 ∧ Listens (atSlot .pausing 1 none) 2 0 ∧
    Listens (atSlot .running 3 (some true)) 3 4 ∧ Listens (atSlot .pausing 3 (some true)) 3 4 ∧
    (atSlot .running 1 none).loop.addresses.get 0 = 1 ∧ 1 ≤ 31 :=
  ⟨⟨by decide, by decide +kernel, by decide, .inl (by decide), .inl (by decide +kernel)⟩,
    ⟨by decide, by decide +kernel, by decide, .inr (by decide), .inl (by decide +kernel)⟩,
    ⟨by decide, by decide +kernel, by decide, .inl (by decide), .inr (by decide +kernel)⟩,
    ⟨by decide, by decide +kernel, by decide, .inr (by decide), .inr (by decide +kernel)⟩, by decide, by decide⟩

/-- R136: the DECK_SAMPLE of unit address 5, raw count 17,000, written out byte by byte. -/
theorem test_inSlotEnd :
    after (exec (.inSlotEnd 3 (.bytes [0xC6, 0x2E, 0x68, 0x42, 0x00, 0x00, 0x28] true)) (atSlot .running 3 (some true)))
      (fun t => decide (t.loop.delivery = some ⟨.deckSample 0 17000 false, 0⟩ ∧ t.loop.working = [(3, .ok)])) =
      true := by decide +kernel

/-- R142: of address 1: a LANE_STATUS, and after its check byte noise framed badly, is OK; with the inverted check byte
CHECK; of address 2 ADDRESS; with maintenance code 3 KIND. -/
theorem test_inSlotEnd_statuses :
    ([([0xC6, 0x0B, 0x02, 0x00, 0xF3, 0x55], SlotStatus.ok), ([0xC6, 0x0B, 0x02, 0x00, 0x0C], .check),
      ([0xC6, 0x13, 0x02, 0x00, 0xEB], .address), ([0xC6, 0x0B, 0x02, 0x03, 0xF0], .kind)] :
      List (List Byte × SlotStatus)).all (fun x =>
        after (exec (.inSlotEnd 2 (.bytes x.1 false)) (atSlot .running 1 none))
          (fun t => decide (t.loop.working = [(2, x.2)]))) = true := by decide +kernel

theorem witness_MarkerPublishesTheFrame :
    let s := atSlot .running 3 none
    let begun := { atSlot .pausing 3 none with loop := { (atSlot .pausing 3 none).loop with begun := some 0 } }
    (s.rstLow = false ∧ s.loopClear = true ∧ s.loop.markerOpen = false ∧ s.loop.state = .running ∧
      s.loop.polled = none ∧ s.loop.nextOwned 3 = none) ∧
    (begun.loopClear = true ∧ begun.loop.state = .pausing ∧ begun.loop.begun = some 0) := by decide +kernel

theorem test_marker_publishes :
    after (exec (.marker []) (atSlot .running 3 none)) (fun t =>
      decide (t.loop.published.map (·.frame) = some 0 ∧ t.loop.frameNo = 1 ∧ t.loop.working = [(0, .txVerify)]) &&
        t.notices.isLatched .frameEnd 0) = true := by decide +kernel

/-! ### Units and detectors -/

theorem witness_UnitCountersAndSwitches :
    let timed := ready.setUnit 7 { ready.unit 7 with report := .interval, counter := 65535 }
    Accepts ready (.counterMode 7 2 1) ∧ [CountSelection.rx, .tx, .both][2]? = some .both ∧
    [ReportMode.manual, .interval][1]? = some .interval ∧ Accepts ready (.counterReport 7) ∧
    Accepts ready (.autoSwitch 3 1) ∧ Accepts ready (.autoSwitch 4 0) ∧ Accepts ready (.autoSwitch 0 2) ∧
    (ready.unit 0).report = .manual ∧ ready.rstLow = false ∧ (timed.unit 7).report = .interval ∧
    timed.rstLow = false := by
  simp only [accepts_iff]
  and_intros <;> decide

theorem test_reportInterval :
    after (exec .reportIntervalTick (ready.setUnit 7 { ready.unit 7 with report := .interval, counter := 65535 })) (fun t =>
      decide ((t.unit 7).snapshot = some ⟨65535, false⟩ ∧ (t.unit 7).counter = 0) &&
        t.notices.isLatched .counterReport 7) = true := by decide +kernel

/-- A unit's record replaced, its levels followed. -/
def withUnit (s : State) (u : Fin 8) (r : UnitRec) : State := (s.setUnit u r).followLevels

theorem follow_withUnit (s : State) (u : Fin 8) (r : UnitRec) : LevelsFollow (withUnit s u r) := LevelsFollow.follow _

theorem witness_UnitsAndDetectorsMove :
    let up := withUnit ready 0 { UnitRec.reset with state := .searching, goodRun := 4 }
    let down := withUnit ready 4 { UnitRec.reset with state := .good, badRun := 8 }
    let lane := withUnit (atEntry .bound) 0 { UnitRec.reset with state := .good, badRun := 8 }
    let alarm := withUnit ready 7 { UnitRec.reset with state := .alarm, alarmFree := 4, goodRun := 4 }
    let rise := withUnit (atLane .entry .idle false booked) 0 { UnitRec.reset with
      autoSwitch := true, activate := { Detector.cleared with run := 200, reached := true } }
    let fall := withUnit ready 0 { UnitRec.reset with
      deactivate := { Detector.cleared with asserted := true, absence := 16 } }
    LevelsFollow up ∧ up.goodDue 0 = true ∧ LevelsFollow down ∧ down.lostDue (digitizer 0) = true ∧
    (down.engine 0).run = none ∧ LevelsFollow lane ∧ TablesCanonical lane ∧ lane.lostDue (laneUnit 0) = true ∧
    (lane.lane 0).bound = some 1 ∧ lane.byTicket 1 = some (0, record .admitting (some 0)) ∧
    LevelsFollow alarm ∧ alarm.alarmClearDue 7 = true ∧ LevelsFollow rise ∧ rise.assertDue 0 .activate = true ∧
    (rise.unit (laneUnit 0)).autoSwitch = true ∧ (rise.lane 0).state = .idle ∧ LevelsFollow fall ∧
    fall.deassertDue 0 .deactivate = true :=
  ⟨follow_withUnit _ _ _, by decide, follow_withUnit _ _ _, by decide, by decide, follow_withUnit _ _ _,
    canonical_of (by decide), by decide, by decide, by decide, follow_withUnit _ _ _, by decide,
    follow_withUnit _ _ _, by decide, by decide, by decide, follow_withUnit _ _ _, by decide⟩

/-- An alarm that clears to LOST at a lane in FAULT and at a deck without data, the rise of a detector with automatic
switching off, the rise of DEACTIVATE in MAINTENANCE, and the fall of ACTIVATE. -/
theorem witness_UnitsAndDetectorsMove_more :
    let a := { UnitRec.reset with state := .alarm, alarmFree := 4, goodRun := 3 }
    let lane := withUnit (atLane .entry .fault false booked) 0 a
    let deck := withUnit ready 4 a
    let risen : Detector := { Detector.cleared with run := 200, reached := true }
    let manual := withUnit ready 0 { UnitRec.reset with activate := risen }
    let leave := withUnit (withBarrier (atLane .entry .maintenance false booked) .up .lower) 0
      { UnitRec.reset with autoSwitch := true, deactivate := risen }
    let fall := withUnit ready 3 { UnitRec.reset with
      activate := { Detector.cleared with asserted := true, absence := 16 } }
    (LevelsFollow lane ∧ LevelsFollow deck ∧ LevelsFollow manual ∧ LevelsFollow leave ∧ LevelsFollow fall) ∧
    lane.alarmClearDue 0 = true ∧ (lane.unit 0).goodRun < 4 ∧ (lane.lane 0).state = .fault ∧
    deck.alarmClearDue 4 = true ∧ (deck.deck 0).state = .noData ∧ digitizer 0 = 4 ∧
    manual.assertDue 0 .activate = true ∧ (manual.unit (laneUnit 0)).autoSwitch = false ∧
    leave.assertDue 0 .deactivate = true ∧ (leave.unit (laneUnit 0)).autoSwitch = true ∧
    (leave.lane 0).state = .maintenance ∧ (leave.engine 0).run = none ∧ (leave.barrier 0).state ≠ .fault ∧
    0 < leave.frames .recovery ∧ fall.deassertDue 3 .activate = true := by
  refine ⟨⟨follow_withUnit _ _ _, follow_withUnit _ _ _, follow_withUnit _ _ _, follow_withUnit _ _ _,
    follow_withUnit _ _ _⟩, ?_⟩
  and_intros <;> decide +kernel

theorem test_unit_lost :
    after (exec (.unitLostEntry 0) (withUnit (atEntry .bound) 0 { UnitRec.reset with state := .good, badRun := 8 }))
      (fun t => decide ((t.lane 0).state = .fault ∧ (t.visit 0).map (·.reason) = some (some .unitLost)) &&
        t.notices.isLatched .unitLost 0) = true := by decide +kernel

theorem test_alarm_clears_to_lost :
    after (exec (.alarmClear 4) (withUnit ready 4 { UnitRec.reset with state := .alarm, alarmFree := 4, goodRun := 3 }))
      (fun t => decide ((t.unit 4).state = .lost) && t.notices.isLatched .unitLost 4) = true := by decide +kernel

/-! ### Messages and timers -/

/-- A report with no loop occupied. -/
def report (down up : Bool) : LaneReport := ⟨down, up, false, false, false, false, .none, false⟩

/-- A lane in PASSING with its barrier UP and BEYOND seen. -/
def passing (mode : LaneMode) (st : VisitState) : State :=
  let s := withBarrier (atLane mode .passing true { record st (some 0) with inYard := decide (mode ≠ .entry) }) .up .raise
  delivering (s.setBarrier 0 { s.barrier 0 with tracking := .boundVisit, beyondSeen := true })
    (.laneStatusMessage 0 (report false true))

/-- A lane in RELEASING that watches for its held visit, with its barrier UP and BEYOND seen. -/
def watchingLane (mode : LaneMode) (prior : VisitState) : State :=
  let s := atLane mode .releasing false { heldFrom prior .released with inYard := decide (mode ≠ .entry) }
  let s := withBarrier (s.setLane 0 { s.lane 0 with heldVisit := some 1 }) .up .lower
  delivering (s.setBarrier 0 { s.barrier 0 with tracking := .heldVisit, beyondSeen := true })
    (.laneStatusMessage 0 (report false true))

theorem witness_LaneStatusCompletesThePassage :
    let s := passing .exit .cleared
    s.rstLow = false ∧ s.loop.delivery = some ⟨.laneStatusMessage 0 (report false true), 9⟩ ∧ TablesCanonical s ∧
    (s.lane 0).state = .passing ∧ (s.lane 0).bound = some 1 ∧ (s.byTicket 1).isSome ∧
    (s.barrier 0).state = .up ∧ (s.barrier 0).order = .raise ∧ (s.barrier 0).tracking = .boundVisit ∧
    (s.barrier 0).beyondSeen = true ∧ (s.engine 0).run = none ∧ (report false true).upClosed = true ∧
    0 ∉ s.vt.completion ∧ ((passing .entry .admitting).lane 0).mode = .entry ∧
    ((passing .internal .reweighing).lane 0).mode = .internal :=
  ⟨by decide, by decide, canonical_of (by decide), by decide, by decide, by decide, by decide, by decide, by decide,
    by decide, by decide, by decide, by decide, by decide, by decide⟩

theorem witness_LaneStatusCompletesThePassage_unattended :
    (∀ x ∈ [(LaneMode.entry, VisitState.admitting), (.internal, .reweighing), (.exit, .cleared), (.exit, .exiting)],
      ((watchingLane x.1 x.2).lane 0).mode = x.1 ∧ (watchingLane x.1 x.2).rstLow = false ∧
      (watchingLane x.1 x.2).loop.delivery = some ⟨.laneStatusMessage 0 (report false true), 9⟩ ∧
      ((watchingLane x.1 x.2).lane 0).state = .releasing ∧ ((watchingLane x.1 x.2).lane 0).heldVisit = some 1 ∧
      ((watchingLane x.1 x.2).byTicket 1).map (fun e => e.2.prior) = some (some x.2) ∧
      ((watchingLane x.1 x.2).barrier 0).tracking = .heldVisit ∧ ((watchingLane x.1 x.2).barrier 0).state = .up ∧
      ((watchingLane x.1 x.2).barrier 0).beyondSeen = true ∧ ((watchingLane x.1 x.2).engine 0).run = none) ∧
    TablesCanonical (watchingLane .entry .admitting) := ⟨by decide, canonical_of (by decide)⟩

theorem test_passage :
    after (exec (.laneStatusMessage 0 (report false true)) (passing .entry .admitting)) (fun t =>
      decide (t.vt.occupancy = 1 ∧ (t.visit 0).map (·.state) = some .inYard ∧ (t.lane 0).state = .releasing ∧
        (t.barrier 0).gateClear = some 1000) && t.notices.isLatched .passed 0) = true := by decide +kernel

theorem test_unattended_passage :
    after (exec (.laneStatusMessage 0 (report false true)) (watchingLane .entry .admitting)) (fun t =>
      decide (t.vt.occupancy = 1 ∧ (t.visit 0).map (·.prior) = some (some .inYard) ∧
        (t.visit 0).map (·.later) = some [.unattendedPassage] ∧ (t.lane 0).heldVisit = none ∧
        (t.lane 0).state = .releasing) && t.notices.isLatched .passed 0) = true := by decide +kernel

theorem witness_BarrierJudgesEachImage :
    let s := delivering (withBarrier (atLane .entry .maintenance false booked) .raising .raise)
      (.laneStatusMessage 0 { report false false with refused := true })
    s.rstLow = false ∧
    s.loop.delivery = some ⟨.laneStatusMessage 0 { report false false with refused := true }, 9⟩ ∧
    (s.lane 0).state = .maintenance ∧ (s.engine 0).run = none ∧ (s.barrier 0).tracking = .inactive ∧
    (report false true).code = .none ∧ (s.barrier 0).refusals = 0 ∧
    after (exec (.laneStatusMessage 0 { report false false with refused := true }) s)
      (fun t => decide ((t.barrier 0).refusals = 1 ∧ (t.barrier 0).state = .raising)) = true ∧
    (∀ st ∈ [BarrierState.down, .up, .lowering, .fault],
      ((withBarrier (atLane .entry .maintenance false booked) st .lower).barrier 0).state = st) := by decide +kernel

/-- R84: an UP barrier with order LOWER at an image with GATE clear, and with GATE occupied; and one that an image
brings to UP. -/
theorem test_gate_clear_by_image :
    let judged (st : BarrierState) (timer : Option Nat) (gate : Bool) :=
      let r := { report false true with gate := gate }
      let s := withBarrier (atLane .entry .maintenance false booked) st .lower
      after (exec (.laneStatusMessage 0 r)
        (delivering (s.setBarrier 0 { s.barrier 0 with gateClear := timer }) (.laneStatusMessage 0 r)))
    (judged .up (some 7) false fun t => decide ((t.barrier 0).gateClear = some 7)) = true ∧
    (judged .up none false fun t => decide ((t.barrier 0).gateClear = some 1000)) = true ∧
    (judged .up (some 7) true fun t => decide ((t.barrier 0).gateClear = none)) = true ∧
    (judged .raising none false fun t =>
      decide ((t.barrier 0).state = .up ∧ (t.barrier 0).gateClear = some 1000)) = true ∧
    (judged .raising none true fun t =>
      decide ((t.barrier 0).state = .up ∧ (t.barrier 0).gateClear = none)) = true := by
  decide +kernel

theorem test_reversal :
    after (exec (.laneStatusMessage 0 { report false false with gate := true })
      (delivering (withBarrier (atLane .entry .maintenance false booked) .lowering .lower)
        (.laneStatusMessage 0 { report false false with gate := true }))) (fun t =>
      decide ((t.barrier 0).state = .raising ∧ (t.barrier 0).order = .lower ∧
        (t.barrier 0).travel = some 6000)) = true := by decide +kernel

/-- Log 19: one image that closes the down switch and has GATE occupied brings a LOWERING barrier to DOWN. -/
theorem test_end_of_travel_first :
    after (exec (.laneStatusMessage 0 { report true false with gate := true })
      (delivering (withBarrier (atLane .entry .maintenance false booked) .lowering .lower)
        (.laneStatusMessage 0 { report true false with gate := true }))) (fun t =>
      decide ((t.barrier 0).state = .down)) = true := by decide +kernel

/-- L0 with automatic taking on and a tag buffer, a TAG_READ of tag 5 waiting. -/
def tagged (mode : LaneMode) (st : LaneState) (buffer : List TagEntry) : State :=
  let s := atLane mode st false booked
  delivering (s.setLane 0 { s.lane 0 with autoTake := true, buffer := buffer }) (.tagRead 0 6)

theorem witness_TagReadIsBufferedOrTried :
    (tagged .entry .closed []).loop.delivery = some ⟨.tagRead 0 6, 9⟩ ∧ ((tagged .entry .closed []).lane 0).state = .closed ∧
    ((tagged .entry .bound [⟨6, 0, 0⟩]).lane 0).buffer = [] ++ [⟨6, 0, 0⟩] ∧
    0 < (tagged .entry .bound [⟨6, 0, 0⟩]).tagWindow ∧ ((tagged .entry .bound []).lane 0).boundTag ≠ some 6 ∧
    ((tagged .entry .bound [⟨6, 0, 0⟩, ⟨5, 0, 0⟩]).lane 0).buffer.length = 2 ∧
    (∀ e, ((tagged .entry .bound [⟨6, 0, 0⟩, ⟨5, 0, 0⟩]).lane 0).buffer.getLast? = some e → e.tag ≠ 6) ∧
    ((tagged .entry .idle []).lane 0).cycle = none ∧ (tagged .entry .idle []).clock.isSet = true ∧
    (tagged .entry .idle []).vehicleByTag 6 = none := by
  refine ⟨by decide, by decide, by decide, by decide, by decide, by decide, ?_, by decide, by decide, by decide⟩
  rintro e ⟨⟩
  decide

theorem test_tagRead_refused :
    after (exec (.tagRead 0 6) (tagged .entry .idle [])) (fun t =>
      decide ((t.lane 0).lastRefusal = some (.notFound, 6) ∧ (t.lane 0).buffer = []) &&
        t.notices.isLatched .admitRefused 0) = true := by decide +kernel

/-- A buffer tried as the cycle timer expires: stale entries alone, an entry refused and one granted after a stale one;
and as a lane enters IDLE with its cycle timer running. -/
theorem witness_BuffersAreTried :
    let old : List TagEntry := [⟨9, 0, 2000⟩]
    let idle (v : Visit) (tag : Tag) := (atLane .internal .idle false v).setLane 0
      { (atLane .internal .idle false v).lane 0 with autoTake := true, cycle := some 0, buffer := old ++ [⟨tag, 7, 1999⟩] }
    let r := withBarrier (atLane .internal .releasing false (weighed 1)) .down .lower
    let early := r.setLane 0 { r.lane 0 with
      autoTake := true, recovery := some 0, cycle := some 3, buffer := old ++ [⟨5, 7, 0⟩] }
    ((idle (weighed 1) 5).rstLow = false ∧ ((idle (weighed 1) 5).lane 0).state = .idle ∧
      ((idle (weighed 1) 5).lane 0).cycle = some 0 ∧ Stale (idle (weighed 1) 5) old ∧
      1999 < (idle (weighed 1) 5).tagWindow ∧ (idle (weighed 1) 5).byTagInProgress 5 = some (0, weighed 1) ∧
      (weighed 1).state = .inYard ∧ (weighed 1).ticket = some 1) ∧
    RefusesTag (idle (weighed 1) 6) 0 6 .notFound ∧
    RefusesTag (idle (record .exiting (some 1)) 5) 0 5 .wrongState ∧
    RefusesTag (atLane .entry .idle false booked) 0 6 .notFound ∧
    (early.rstLow = false ∧ (early.lane 0).state = .releasing ∧ (early.lane 0).recovery = some 0 ∧
      (early.barrier 0).state = .down ∧ (early.lane 0).mode ≠ .closed ∧ Stale early old ∧ 0 < early.tagWindow ∧
      early.port.handed = none ∧ ∃ k, (early.lane 0).cycle = some (k + 1)) := by
  refine ⟨⟨by decide, by decide, by decide, ?_, by decide +kernel, by decide, by decide, by decide⟩,
    .unknown (.inr (by decide)) (by decide),
    .elsewhere 0 (record .exiting (some 1)) (.inr (by decide)) (by decide) (by decide) (by decide),
    .check _ (by decide) (.unknown (by decide) (by decide)),
    by decide, by decide, by decide, by decide, by decide, ?_, by decide +kernel, by decide, 2, by decide⟩ <;>
  · intro e he
    rw [List.mem_singleton] at he
    subst he
    decide +kernel

/-- R57: a lane about to enter IDLE with tag 5 in its buffer, as a CALL of the visit of tag 8 waits in the port. -/
def meeting : State :=
  let other := { weighed 1 with tag := 8, ticket := some 2 }
  let r := withBarrier (atLane .internal .releasing false (weighed 1)) .down .lower
  let r := r.setLane 0 { r.lane 0 with autoTake := true, recovery := some 0, buffer := [⟨5, 7, 0⟩] }
  { r with
    vt := { r.vt with records := [(0, weighed 1), (1, other)] }
    port := { Port.reset with buffer := .pending 21, handed := some (.call 0 2) } }

theorem witness_BuffersAreTried_met :
    let other := { weighed 1 with tag := 8, ticket := some 2 }
    meeting.rstLow = false ∧ TablesCanonical meeting ∧ meeting.loader.status ≠ .loading ∧ meeting.restarting = false ∧
    (meeting.lane 0).state = .releasing ∧ (meeting.lane 0).recovery = some 0 ∧ (meeting.lane 0).cycle = none ∧
    (meeting.barrier 0).state = .down ∧ (meeting.lane 0).mode = .internal ∧ (meeting.lane 0).autoTake = true ∧
    (meeting.lane 0).buffer = [⟨5, 7, 0⟩] ∧ 0 < meeting.tagWindow ∧ meeting.port.buffer = .pending 21 ∧
    meeting.port.handed = some (.call 0 2) ∧ meeting.byTicket 2 = some (1, other) ∧ other.state = .inYard ∧
    meeting.byTagInProgress 5 = some (0, weighed 1) ∧ (weighed 1).state = .inYard ∧ (weighed 1).ticket = some 1 := by
  simp only [canonical_iff]
  and_intros <;> decide +kernel

/-- R57 (log 31): a CALL that comes first is answered, the buffered entry stays, and the CALL's own step then finds it
taken. -/
theorem test_claim_first :
    let idle := meeting.setLane 0 (idleAgain (meeting.lane 0))
    (match idle.takeHandedClaim 0 with
      | none => false
      | some t =>
        let u := t.makeTry 0
        decide (u.port.buffer = .answer 21 .ok .empty ∧ (u.lane 0).bound = some 2 ∧ (u.lane 0).buffer = [⟨5, 7, 0⟩]) &&
          after (exec (.call 0 2) u) (fun x => decide (x = { u with port := { u.port with handed := none } }))) =
      true := by decide +kernel

theorem witness_UnitAlarmFaultsTheField :
    let g := { UnitRec.reset with state := .good }
    let d := withUnit (delivering (withDeck ready .motion) (.unitAlarm 4 .digitizer)) 4 g
    let l := withUnit (delivering (atEntry .passing) (.unitAlarm 0 .supply)) 0 g
    let b := withUnit (delivering (atLane .entry .idle false booked) (.unitAlarm 0 .armOff)) 0 g
    let a := withUnit (delivering ready (.unitAlarm 7 .supply)) 7 UnitRec.reset
    (LevelsFollow d ∧ TablesCanonical d ∧ d.loop.delivery.map (·.step) = some (.unitAlarm (digitizer 0) .digitizer) ∧
      (d.engine 0).run = none ∧ (d.unit (digitizer 0)).state = .good) ∧
    (LevelsFollow l ∧ TablesCanonical l ∧ l.loop.delivery.map (·.step) = some (.unitAlarm (laneUnit 0) .supply) ∧
      (l.lane 0).state = .passing ∧ (l.lane 0).bound = some 1 ∧
      l.byTicket 1 = some (0, record .admitting (some 0))) ∧
    (LevelsFollow b ∧ TablesCanonical b ∧ b.loop.delivery.map (·.step) = some (.unitAlarm (laneUnit 0) .armOff) ∧
      (b.lane 0).state = .idle ∧ (b.barrier 0).state ≠ .fault) ∧
    (LevelsFollow a ∧ TablesCanonical a ∧ a.loop.delivery.map (·.step) = some (.unitAlarm 7 .supply) ∧ (a.unit 7).state = .absent) :=
  ⟨⟨follow_withUnit _ _ _, canonical_of (by decide), by decide, by decide, by decide⟩,
    ⟨follow_withUnit _ _ _, canonical_of (by decide), by decide, by decide, by decide, by decide⟩,
    ⟨follow_withUnit _ _ _, canonical_of (by decide), by decide, by decide, by decide⟩,
    ⟨follow_withUnit _ _ _, canonical_of (by decide), by decide, by decide⟩⟩

theorem witness_LaneAndBarrierTimersAct :
    let s := atEntry .settling
    let settled := s.setLane 0 { s.lane 0 with settle := some 0 }
    let eligible := s.setLane 0 { s.lane 0 with settle := some 0, eligible := true }
    let r := atLane .entry .releasing false booked
    let released := withBarrier (r.setLane 0 { r.lane 0 with recovery := some 0, cycle := some 0 }) .down .lower
    let t := withBarrier (atLane .entry .idle false booked) .raising .raise
    let travelled := t.setBarrier 0 { t.barrier 0 with travel := some 0, gateClear := some 0 }
    (settled.rstLow = false ∧ (settled.lane 0).state = .settling ∧ (settled.lane 0).settle = some 0 ∧
      (settled.lane 0).eligible = false ∧ (settled.lane 0).pendingCapture = none) ∧
    ((eligible.lane 0).eligible = true ∧ (eligible.lane 0).bound = some 1) ∧
    ((released.lane 0).recovery = some 0 ∧ (released.lane 0).cycle = some 0 ∧ (released.lane 0).state = .releasing ∧
      (released.barrier 0).state = .down ∧ (released.lane 0).buffer = []) ∧
    ((travelled.barrier 0).travel = some 0 ∧ (travelled.barrier 0).gateClear = some 0 ∧
      (travelled.barrier 0).state = .raising ∧ (travelled.lane 0).state = .idle ∧
      (travelled.engine 0).run = none) := by decide

/-- A settle timer that expires with a pending CAPTURE, with automatic capture, with neither a deck, and with a full
list. -/
theorem witness_SettlingEndsInACapture :
    let s := withDeck (atEntry .settling) .empty
    let due (s : State) := s.setLane 0 { s.lane 0 with settle := some 0, autoCapture := true }
    let pending := (due s).setLane 0 { (due s).lane 0 with pendingCapture := some ⟨some .open⟩ }
    let full := { record .admitting (some 0) with weighings := List.replicate 6 (weighing .entry) }
    let last := due (atLane .entry .settling true full)
    (pending.rstLow = false ∧ (pending.lane 0).state = .settling ∧ (pending.lane 0).settle = some 0 ∧
      (pending.lane 0).eligible = false ∧ (pending.lane 0).bound = some 1 ∧
      pending.byTicket 1 = some (0, record .admitting (some 0)) ∧ (pending.lane 0).pendingCapture = some ⟨some .open⟩) ∧
    ((due s).lane 0).pendingCapture = none ∧ ((due s).lane 0).autoCapture = true ∧ ((due s).deck 0).params.isSome ∧
    (record .admitting (some 0)).weighings.length < 6 ∧ RoleOf (record .admitting (some 0)) .entry ∧
    (pending.deck 0).state ≠ .overload ∧ (pending.deck 0).state ≠ .noData ∧
    ((withDeck (due s) .noData).deck 0).state = .noData ∧ ((withDeck (due s) .noData).engine 0).failures < 2 ∧
    ((due (atEntry .settling)).deck 0).params = none ∧
    last.byTicket 1 = some (0, full) ∧ 6 ≤ full.weighings.length ∧ TablesCanonical last ∧ full.lane = some 0 ∧
    full.state ≠ .held ∧ 0 < last.frames .recovery := by
  simp only [canonical_iff, RoleOf]
  and_intros <;> decide +kernel

theorem test_recovery :
    let r := atLane .entry .releasing false booked
    after (exec (.recoveryTimerExpiry 0) (withBarrier (r.setLane 0 { r.lane 0 with recovery := some 0 }) .down .lower))
      (fun t => decide ((t.lane 0).state = .idle ∧ (t.lane 0).display = ⟨.welcome, 0⟩)) = true := by decide +kernel

theorem witness_PassingEndsWithTheVisitHeld :
    let s := atEntry .passing
    let late := s.setLane 0 { s.lane 0 with passage := some 0 }
    let left := s.setBarrier 0 { s.barrier 0 with abandon := some 0 }
    late.rstLow = false ∧ TablesCanonical late ∧ (late.lane 0).state = .passing ∧ (late.lane 0).bound = some 1 ∧
    late.byTicket 1 = some (0, record .admitting (some 0)) ∧ 0 < late.frames .recovery ∧
    (late.lane 0).passage = some 0 ∧ TablesCanonical left ∧ (left.barrier 0).abandon = some 0 :=
  ⟨by decide, canonical_of (by decide), by decide, by decide, by decide, by decide +kernel, by decide,
    canonical_of (by decide), by decide⟩

/-- Images of a lane in PASSING that start the abandon timer, that stop it, that set BEYOND seen and that take the
barrier UP; and one of a lane in RELEASING that watches. -/
theorem witness_PassingEndsWithTheVisitHeld_images :
    let beyond := { report false true with beyond := true }
    let s (st : BarrierState) (r : LaneReport) : State :=
      let s := withBarrier (atEntry .passing) st .raise
      delivering (s.setBarrier 0 { s.barrier 0 with tracking := .boundVisit, travel := some 4 }) (.laneStatusMessage 0 r)
    let w := atLane .entry .releasing false (heldFrom .admitting .released)
    let w := withBarrier (w.setLane 0 { w.lane 0 with heldVisit := some 1 }) .up .lower
    let w := delivering (w.setBarrier 0 { w.barrier 0 with tracking := .heldVisit }) (.laneStatusMessage 0 beyond)
    (∀ st ∈ [BarrierState.up, .raising], ∀ r ∈ [report false true, beyond],
      (s st r).rstLow = false ∧ (s st r).loop.delivery = some ⟨.laneStatusMessage 0 r, 9⟩ ∧
      ((s st r).engine 0).run = none ∧ ((s st r).lane 0).state = .passing ∧
      ((s st r).barrier 0).tracking = .boundVisit ∧ ((s st r).barrier 0).order = .raise ∧
      ((s st r).barrier 0).state = st) ∧
    after (exec (.laneStatusMessage 0 (report false true)) (s .raising (report false true))) (fun t =>
      decide ((t.barrier 0).state = .up ∧ (t.barrier 0).abandon = some 5000)) = true ∧
    w.loop.delivery = some ⟨.laneStatusMessage 0 beyond, 9⟩ ∧ (w.engine 0).run = none ∧
    (w.lane 0).state = .releasing ∧ (w.barrier 0).tracking = .heldVisit ∧ (w.barrier 0).state = .up := by decide +kernel

end Sys2Proof.Tests
end

section
/-! What a step that is taken comes to: the shapes of a meaning, read backwards. -/

namespace Sys2Proof.Machine

variable {s t : State} {c : Instr}

theorem whileUp_next {f : State → State} (h : whileUp s f = .next t) : t = s ∨ (s.rstLow = false ∧ t = f s) := by
  unfold whileUp at h
  cases hr : s.rstLow <;> simp only [hr] at h <;> cases h
  · exact .inr ⟨rfl, rfl⟩
  · exact .inl rfl

/-- A step under a condition: it does not take place, or its condition holds and it does. -/
theorem when_next {b : Bool} {f : State → State} (h : when b s f = .next t) :
    t = s ∨ (s.rstLow = false ∧ b = true ∧ t = f s) := by
  rcases whileUp_next h with rfl | ⟨hr, rfl⟩
  · exact .inl rfl
  · cases b
    · exact .inl rfl
    · exact .inr ⟨hr, rfl, rfl⟩

theorem onPort_next {f : State → State} (h : onPort c s f = .next t) :
    t = s ∨ t = s.turnAway c (codeByte c) ∨ (s.rstLow = false ∧ s.portTakes c = true ∧ t = f s) := by
  rcases whileUp_next h with rfl | ⟨hr, rfl⟩
  · exact .inl rfl
  · cases ht : s.portTakes c
    · exact .inr (.inl rfl)
    · exact .inr (.inr ⟨hr, rfl, rfl⟩)

/-- R192, R193: a request is not taken, is turned away, is answered NOT_READY, or is answered by its block. -/
theorem request_next {body : State → Reply} (h : request c s body = .next t) :
    t = s ∨ t = s.turnAway c (codeByte c) ∨ t = s.answer (codeByte c) .notReady .empty ∨
      (Accepts s c ∧ t = (body s).1.answer (codeByte c) (body s).2.1 (body s).2.2) := by
  rcases onPort_next h with rfl | rfl | ⟨hr, hp, rfl⟩
  · exact .inl rfl
  · exact .inr (.inl rfl)
  · cases hn : s.notReady
    · have ready : s.loader.status ≠ .loading ∧ s.restarting = false := by simpa [State.notReady] using hn
      exact .inr (.inr (.inr ⟨⟨hr, hp, ready.1, ready.2⟩, rfl⟩))
    · exact .inr (.inr (.inl rfl))

/-- R143: a delivered message is not the one that waits, or its blocks take it. -/
theorem deliver_next {take : Nat → State → State} (h : deliver c s take = .next t) :
    t = s ∨ ∃ d, s.rstLow = false ∧ s.loop.delivery = some d ∧ d.step = c ∧
      t = take d.frame { s with loop := { s.loop with delivery := none } } := by
  rcases whileUp_next h with rfl | ⟨hr, rfl⟩
  · exact .inl rfl
  · cases hd : s.loop.delivery with
    | none => exact .inl rfl
    | some d =>
      by_cases hc : d.step = c
      · exact .inr ⟨d, hr, rfl, hc, by simp [hc]⟩
      · exact .inl (by simp [hc])

/-- R1: a request whose numbers are out of range changes nothing. -/
theorem inRange_fst (P : State → Prop) {ok : Bool} {body : State → Reply} (hs : P s)
    (h : ok = true → P (body s).1) : P (inRange ok s body).1 := by
  cases ok
  · exact hs
  · exact h rfl

theorem onLane_fst (P : State → Prop) {k : Nat} {body : Fin 4 → State → Reply} (hs : P s)
    (h : ∀ n : Fin 4, k = n.val → P (body n s).1) : P (onLane k s body).1 := by
  unfold onLane lane?
  split
  · exact hs
  · rename_i n hn
    split at hn
    · cases hn
      exact h _ rfl
    · cases hn

theorem onUnit_fst (P : State → Prop) {k : Nat} {body : Fin 8 → State → Reply} (hs : P s)
    (h : ∀ u, P (body u s).1) : P (onUnit k s body).1 := by
  unfold onUnit
  split
  · exact hs
  · exact h _

theorem onRecord_fst (P : State → Prop) {found : Option (Nat × Visit)} {body : Nat → Visit → State → Reply}
    (hs : P s) (h : ∀ slot v, found = some (slot, v) → P (body slot v s).1) : P (onRecord found s body).1 := by
  cases found with
  | none => exact hs
  | some r => exact h _ _ rfl

end Sys2Proof.Machine
end

section
/-! The effect of each command, apart from the port: what its block does where its condition holds. -/

namespace Sys2Proof.Machine

/-- R143: the frame number that the waiting message came with. -/
def State.waitingFrame (s : State) : Nat :=
  match s.loop.delivery with
  | none => 0
  | some d => d.frame

/-- What a command does to the blocks where it takes place: the step under its own condition, or the state of the
reply of the request's block (`exec_effect` ties it to `exec`). -/
def effect (c : Instr) (s : State) : State :=
  match c with
  | .hardReset => s.hardReset
  | .rstNLow => s.holdReset
  | .loadEnd read => if s.loader.status = .loading then s.endLoad read else s
  | .transactionStart => s.beginTransaction
  | .transactionEnd sent calEn => match s.port.sending with
    | none => s
    | some x => s.endTransaction x sent calEn
  | .noticeReport => s.noticeReport.1
  | .noticeMask words => s.setMask words
  | .noticeEdge words => s.setEdges words
  | .admitVisit lane name => (s.admitReply lane name).1
  | .book tag kind permit useTare day => (match VisitKind.ofCode? kind, flag? useTare with
    | some k, some u => match State.bookingPermit? k permit with
      | none => s.refuse .badParameter
      | some p => inRange (dayOk day) s (fun s => s.bookVisit tag k p u day)
    | _, _ => s.refuse .badParameter).1
  | .amend name useTare day => (inRange (RecordName.inRange name && dayOk day) s (fun s =>
      match flag? useTare with
      | none => s.refuse .badParameter
      | some u => onRecord (s.byName name) s (fun slot v s => s.amendVisit slot v u day))).1
  | .hold name =>
    (inRange (RecordName.inRange name) s (fun s => onRecord (s.byName name) s (fun slot v s => s.holdVisit slot v))).1
  | .releaseHold name lane => (s.releaseReply name lane).1
  | .voidVisit name =>
    (inRange (RecordName.inRange name) s (fun s => onRecord (s.byName name) s (fun slot v s => s.voidRecord slot v))).1
  | .retire ticket =>
    (inRange (ticketOk ticket) s (fun s => onRecord (s.byTicket ticket) s (fun slot v s => s.retireVisit slot v))).1
  | .takeChanges => s.takeChanges.1
  | .tipDeclare ticket category => (inRange (ticketOk ticket && decide (category ≤ 31)) s (fun s =>
      onRecord (s.byTicket ticket) s (fun slot v s => s.declareTip slot v category))).1
  | .call lane ticket => (s.callReply lane ticket).1
  | .vehiclePut tag permit payload groups refresh banned tare => (match flag? refresh, flag? banned with
    | some r, some b => inRange (vehicleRanges permit payload groups tare) s (fun s =>
        s.putVehicle
          { tag := tag, defaultPermit := if permit = 0 then none else some permit, payload := payload
            axleGroups := groups, tare := none, refresh := r, banned := b, live := 0 } tare)
    | _, _ => s.refuse .badParameter).1
  | .vehicleDrop tag => (s.dropVehicle tag).1
  | .tareStore ticket index validity =>
    (inRange (ticketOk ticket && decide (1 ≤ index) && decide (index ≤ 6) && decide (validity ≤ 3650)) s (fun s =>
      onRecord (s.byTicket ticket) s (fun _ v s => s.tareStore v index validity))).1
  | .permitPut number allowed primary expiry =>
    (inRange (permitRanges number allowed primary expiry) s (fun s => s.putPermit number allowed primary expiry)).1
  | .permitAdjust number amount =>
    (inRange (permitOk number && decide (amount.natAbs ≤ 2000000000)) s (fun s => s.adjustPermit number amount)).1
  | .permitSuspend number => (inRange (permitOk number) s (fun s => s.markPermit number .suspended)).1
  | .permitResume number => (inRange (permitOk number) s (fun s => s.markPermit number .active)).1
  | .permitDrop number => (inRange (permitOk number) s (fun s => s.dropPermit number)).1
  | .laneMode lane mode autoTake walkIn walkTare autoCapture => (onLane lane s (fun n s =>
      match LaneMode.ofCode? mode, flag? autoTake, flag? walkIn, flag? walkTare, flag? autoCapture with
      | some m, some a, some w, some t, some c => s.setMode n m a w t c
      | _, _, _, _, _ => s.refuse .badParameter)).1
  | .laneRelease lane => (onLane lane s (fun n s =>
      if (s.lane n).state = .settling ∨ (s.lane n).state = .bound then s.releaseLane n else s.refuse .wrongState)).1
  | .laneReset lane => (onLane lane s (fun n s =>
      if (s.lane n).state = .closed then s.refuse .wrongState
      else (s.resetLane n, .ok, .laneState ((s.resetLane n).lane n).state))).1
  | .maintainOn lane => (onLane lane s (fun n s => s.maintainOn n)).1
  | .maintainOff lane => (onLane lane s (fun n s => s.maintainOff n)).1
  | .barrierRaise lane => (onLane lane s (fun n s => s.workBarrier n .raise)).1
  | .barrierLower lane => (onLane lane s (fun n s => s.workBarrier n .lower)).1
  | .capture lane burst => (onLane lane s (fun n s =>
      match burstParam? burst with
      | none => s.refuse .badParameter
      | some b => s.captureAt n b)).1
  | .terminate lane => (onLane lane s (fun n s => s.terminateAt n)).1
  | .zero deck => (onLane deck s (fun n s => s.zeroAt n)).1
  | .loopStart => s.loopStart.1
  | .loopPause => s.loopPause.1
  | .loopResume => s.loopResume.1
  | .loopStop => s.loopStop.1
  | .slotSet frameLength entries => (s.slotSet frameLength entries).1
  | .unitAddress unit address => (onUnit unit s (fun u s => s.unitAddress u address)).1
  | .inject unit => (onUnit unit s (fun u s => (s.injectUnit u).done)).1
  | .loopStatus => s.loopStatus.1
  | .counterMode unit selection report => (onUnit unit s (fun u s =>
      match CountSelection.ofCode? selection, ReportMode.ofCode? report with
      | some sel, some rep => (s.setUnit u ((s.unit u).setCounter sel rep)).done
      | _, _ => s.refuse .badParameter)).1
  | .counterReport unit => (onUnit unit s (fun u s => s.counterReport u)).1
  | .autoSwitch unit on => (onUnit unit s (fun u s => s.autoSwitch u on)).1
  | .settingRead word source => s.readSetting (codeByte (.settingRead word source)) word source
  | .settingWrite word value calEn => ({ s with calEn := calEn }.writeSetting word value).1
  | .reload => s.reload.1
  | .restart => s.restart
  | .clockSet day minute => (inRange (dayOk day && decide (minute ≤ 1439)) s (fun s => (s.setClock day minute).done)).1
  | .storeReadEnd answer => s.finishStoreRead answer
  | .writeCycleEnd readBack => match s.loader.writing with
    | none => s
    | some x => s.finishWrite x readBack
  | .restartEnd => s.endRestart
  | .yardClockSecond => s.clockSecond
  | .dayChange => s.changeDay
  | .reportIntervalTick => forUnits State.tickUnit s
  | .marker readBack => s.markerSlot readBack
  | .laneCommand slot readBack => s.sendCommand slot readBack
  | .poll slot readBack => s.sendPoll slot readBack
  | .inSlotEnd slot heard => s.endInSlot slot heard
  | .loopPaused slot => s.enterPaused slot
  | .laneStatusMessage n r => { s with loop := { s.loop with delivery := none } }.takeImage n r
      s.waitingFrame
  | .tagRead n tag => { s with loop := { s.loop with delivery := none } }.readTag n tag
      s.waitingFrame
  | .unitAlarm u code => { s with loop := { s.loop with delivery := none } }.takeAlarm u code
  | .deckSample n raw overRange => { s with loop := { s.loop with delivery := none } }.takeDeckSample n raw.toNat
      overRange s.waitingFrame
  | .settleTimerExpiry n => if s.settleDue n then s.endSettling n else s
  | .cycleTimerExpiry n => s.endCycle n
  | .recoveryTimerExpiry n => s.endRecovery n
  | .passageTimeout n => s.endPassing n .passageTimeout
  | .travelTimerExpiry n => s.endTravel n
  | .gateClearTimerExpiry n => s.endGateClear n
  | .abandonTimerExpiry n => s.endPassing n .abandoned
  | .captureTimerExpiry n => s.endCapture n
  | .trackingTimerExpiry n => s.trackingExpired n
  | .noDataEntry n => s.missData n
  | .unitLostEntry u => s.enterLost u
  | .unitGoodEntry u => s.enterUnitState u .good
  | .alarmClear u => s.clearAlarm u
  | .detectorAssert n k =>
    if (s.unit (laneUnit n)).autoSwitch then (s.assertDetector n k).detectorMoves n k else s.assertDetector n k
  | .detectorDeassert n k => s.deassertDetector n k
  | .identify | .lookup _ | .nextDone | .vehicleGet _ | .permitGet _ | .laneStatus _ | .deckStatus _ | .unitStatus _
  | .clockRead => s

/-! ### exec and effect -/

variable {c : Instr} {s t u : State}

/-- The same state but for the port. -/
def ButForPort (t s : State) : Prop := ∃ p, t = { s with port := p }

namespace ButForPort

@[refl] theorem refl (s : State) : ButForPort s s := ⟨s.port, rfl⟩

theorem answer (s : State) (c : Byte) (st : Status) (a : Answer) : ButForPort (s.answer c st a) s := ⟨_, rfl⟩

theorem turnAway (s : State) (c : Instr) (code : Byte) : ButForPort (s.turnAway c code) s :=
  ⟨_, s.turnAway_eq c code⟩

end ButForPort

/-- The two reset commands take place whatever the level of RST_N. -/
def isReset : Instr → Bool
  | .hardReset | .rstNLow => true
  | _ => false

/-- What a command comes to: nothing but for the port, or its effect, where RST_N is high (the resets aside) and, if it
is a request, no load is under way. -/
def Comes (c : Instr) (s t : State) : Prop :=
  ButForPort t s ∨
    ((isReset c = false → s.rstLow = false) ∧ (requestCode c ≠ 0 → s.loader.status ≠ .loading) ∧
        ButForPort t (effect c s))

theorem Comes.of_request {body : State → Reply} (h : request c s body = .next t) (he : (body s).1 = effect c s) :
    Comes c s t := by
  rcases request_next h with rfl | rfl | rfl | ⟨ha, rfl⟩
  · exact .inl (.refl _)
  · exact .inl (.turnAway _ _ _)
  · exact .inl (.answer _ _ _ _)
  · exact .inr ⟨fun _ => ha.up, fun _ => ha.loaded, he ▸ .answer _ _ _ _⟩

theorem Comes.of_when {b : Bool} {f : State → State} (h : when b s f = .next t) (hr : requestCode c = 0)
    (he : b = true → f s = effect c s) : Comes c s t := by
  rcases when_next h with rfl | ⟨hl, hb, rfl⟩
  · exact .inl (.refl _)
  · exact .inr ⟨fun _ => hl, fun hc => absurd hr hc, he hb ▸ .refl _⟩

theorem Comes.of_whileUp {f : State → State} (h : whileUp s f = .next t) (hr : requestCode c = 0)
    (he : f s = effect c s) : Comes c s t := by
  rcases whileUp_next h with rfl | ⟨hl, rfl⟩
  · exact .inl (.refl _)
  · exact .inr ⟨fun _ => hl, fun hc => absurd hr hc, he ▸ .refl _⟩

theorem Comes.of_deliver {take : Nat → State → State} (h : deliver c s take = .next t) (hr : requestCode c = 0)
    (he : take s.waitingFrame { s with loop := { s.loop with delivery := none } } = effect c s) : Comes c s t := by
  rcases deliver_next h with rfl | ⟨d, hl, hd, -, rfl⟩
  · exact .inl (.refl _)
  · have frame : s.waitingFrame = d.frame := by simp [State.waitingFrame, hd]
    exact .inr ⟨fun _ => hl, fun hc => absurd hr hc, he ▸ frame ▸ .refl _⟩

/-! ### Requests that read (R16, R25, R32, R41) -/

theorem onRecord_reads (found : Option (Nat × Visit)) (s : State) (st : Status) (a : Nat → Visit → Answer) :
    (onRecord found s (fun slot v s => (s, st, a slot v))).1 = s := by
  rcases found with _ | ⟨slot, v⟩ <;> rfl

theorem inRange_reads {ok : Bool} {body : State → Reply} (h : (body s).1 = s) : (inRange ok s body).1 = s := by
  cases ok
  · rfl
  · exact h

theorem State.nextDone_fst (s : State) : s.nextDone.1 = s := by
  unfold nextDone
  split
  · rfl
  · split <;> rfl

theorem State.getVehicle_fst (s : State) (name : VehicleName) : (s.getVehicle name).1 = s := by
  unfold getVehicle
  split <;> rfl

theorem State.getPermit_fst (s : State) (name : PermitName) : (s.getPermit name).1 = s := by
  unfold getPermit
  split <;> rfl

theorem onLane_reads {k : Nat} {body : Fin 4 → State → Reply} (h : ∀ n, (body n s).1 = s) : (onLane k s body).1 = s :=
  onLane_fst (fun t => t = s) rfl fun n _ => h n

theorem onUnit_reads {k : Nat} {body : Fin 8 → State → Reply} (h : ∀ n, (body n s).1 = s) : (onUnit k s body).1 = s :=
  onUnit_fst (fun t => t = s) rfl h

/-- R184: a SETTING READ that is not answered NOT_READY. -/
theorem execSettingRead_comes {word source : Nat} (h : execSettingRead word source s = .next t) :
    Comes (.settingRead word source) s t := by
  rcases onPort_next h with rfl | rfl | ⟨hl, -, rfl⟩
  · exact .inl (.refl _)
  · exact .inl (.turnAway _ _ _)
  · cases hn : s.notReady
    · have ready : s.loader.status ≠ .loading ∧ s.restarting = false := by simpa [State.notReady] using hn
      exact .inr ⟨fun _ => hl, fun _ => ready.1, .refl _⟩
    · exact .inl (.answer _ _ _ _)

theorem execIdentify_comes (h : execIdentify s = .next t) : Comes .identify s t := by
  rcases onPort_next h with rfl | rfl | ⟨-, -, rfl⟩
  · exact .inl (.refl _)
  · exact .inl (.turnAway _ _ _)
  · exact .inl (.answer _ _ _ _)

/-- What every command comes to. -/
theorem exec_comes (h : exec c s = .next t) : Comes c s t := by
  cases c with
  | hardReset =>
    cases h
    exact .inr ⟨nofun, fun hc => absurd rfl hc, .refl _⟩
  | loadEnd read => exact .of_when (show execLoadEnd read s = _ from h) rfl fun hb =>
      (if_pos (of_decide_eq_true hb)).symm
  | transactionStart => exact .of_when (show execTransactionStart s = _ from h) rfl fun _ => rfl
  | transactionEnd sent calEn => exact .of_whileUp (show execTransactionEnd sent calEn s = _ from h) rfl rfl
  | identify => exact execIdentify_comes h
  | noticeReport => exact .of_request (show execNoticeReport s = _ from h) rfl
  | noticeMask words => exact .of_request (show execNoticeMask words s = _ from h) rfl
  | noticeEdge words => exact .of_request (show execNoticeEdge words s = _ from h) rfl
  | admitVisit lane name => exact .of_request (show execAdmit lane name s = _ from h) rfl
  | book tag kind permit useTare day => exact .of_request (show execBook tag kind permit useTare day s = _ from h) rfl
  | lookup name => exact .of_request (show execLookup name s = _ from h) (inRange_reads (onRecord_reads _ _ _ _))
  | amend name useTare day => exact .of_request (show execAmend name useTare day s = _ from h) rfl
  | hold name => exact .of_request (show execHold name s = _ from h) rfl
  | releaseHold name lane => exact .of_request (show execReleaseHold name lane s = _ from h) rfl
  | voidVisit name => exact .of_request (show execVoid name s = _ from h) rfl
  | retire ticket => exact .of_request (show execRetire ticket s = _ from h) rfl
  | nextDone => exact .of_request (show execNextDone s = _ from h) (s.nextDone_fst)
  | takeChanges => exact .of_request (show execTakeChanges s = _ from h) rfl
  | tipDeclare ticket category => exact .of_request (show execTipDeclare ticket category s = _ from h) rfl
  | call lane ticket => exact .of_request (show execCall lane ticket s = _ from h) rfl
  | vehiclePut tag permit payload groups refresh banned tare =>
      exact .of_request (show execVehiclePut tag permit payload groups refresh banned tare s = _ from h) rfl
  | vehicleGet name => exact .of_request (show execVehicleGet name s = _ from h) (inRange_reads (s.getVehicle_fst _))
  | vehicleDrop tag => exact .of_request (show execVehicleDrop tag s = _ from h) rfl
  | tareStore ticket index validity => exact .of_request (show execTareStore ticket index validity s = _ from h) rfl
  | permitPut number allowed primary expiry => exact .of_request (show execPermitPut number allowed primary expiry s = _ from h) rfl
  | permitGet name => exact .of_request (show execPermitGet name s = _ from h) (inRange_reads (s.getPermit_fst _))
  | permitAdjust number amount => exact .of_request (show execPermitAdjust number amount s = _ from h) rfl
  | permitSuspend number => exact .of_request (show execPermitSuspend number s = _ from h) rfl
  | permitResume number => exact .of_request (show execPermitResume number s = _ from h) rfl
  | permitDrop number => exact .of_request (show execPermitDrop number s = _ from h) rfl
  | laneMode lane mode autoTake walkIn walkTare autoCapture =>
      exact .of_request (show execLaneMode lane mode autoTake walkIn walkTare autoCapture s = _ from h) rfl
  | laneRelease lane => exact .of_request (show execLaneRelease lane s = _ from h) rfl
  | laneReset lane => exact .of_request (show execLaneReset lane s = _ from h) rfl
  | maintainOn lane => exact .of_request (show execMaintainOn lane s = _ from h) rfl
  | maintainOff lane => exact .of_request (show execMaintainOff lane s = _ from h) rfl
  | barrierRaise lane => exact .of_request (show execBarrierRaise lane s = _ from h) rfl
  | barrierLower lane => exact .of_request (show execBarrierLower lane s = _ from h) rfl
  | laneStatus lane => exact .of_request (show execLaneStatus lane s = _ from h) (onLane_reads fun _ => rfl)
  | capture lane burst => exact .of_request (show execCapture lane burst s = _ from h) rfl
  | terminate lane => exact .of_request (show execTerminate lane s = _ from h) rfl
  | zero deck => exact .of_request (show execZero deck s = _ from h) rfl
  | deckStatus deck => exact .of_request (show execDeckStatus deck s = _ from h) (onLane_reads fun _ => rfl)
  | loopStart => exact .of_request (show execLoopStart s = _ from h) rfl
  | loopPause => exact .of_request (show execLoopPause s = _ from h) rfl
  | loopResume => exact .of_request (show execLoopResume s = _ from h) rfl
  | loopStop => exact .of_request (show execLoopStop s = _ from h) rfl
  | slotSet frameLength entries => exact .of_request (show execSlotSet frameLength entries s = _ from h) rfl
  | unitAddress unit address => exact .of_request (show execUnitAddress unit address s = _ from h) rfl
  | inject unit => exact .of_request (show execInject unit s = _ from h) rfl
  | loopStatus => exact .of_request (show execLoopStatus s = _ from h) rfl
  | counterMode unit selection report => exact .of_request (show execCounterMode unit selection report s = _ from h) rfl
  | counterReport unit => exact .of_request (show execCounterReport unit s = _ from h) rfl
  | autoSwitch unit on => exact .of_request (show execAutoSwitch unit on s = _ from h) rfl
  | unitStatus unit => exact .of_request (show execUnitStatus unit s = _ from h) (onUnit_reads fun _ => rfl)
  | settingRead word source => exact execSettingRead_comes h
  | settingWrite word value calEn => exact .of_request (show execSettingWrite word value calEn s = _ from h) rfl
  | reload => exact .of_request (show execReload s = _ from h) rfl
  | restart => exact .of_request (show execRestart s = _ from h) rfl
  | clockSet day minute => exact .of_request (show execClockSet day minute s = _ from h) rfl
  | clockRead => exact .of_request (show execClockRead s = _ from h) (rfl)
  | storeReadEnd answer => exact .of_when (show execStoreReadEnd answer s = _ from h) rfl fun _ => rfl
  | writeCycleEnd readBack => exact .of_whileUp (show execWriteCycleEnd readBack s = _ from h) rfl rfl
  | restartEnd => exact .of_when (show execRestartEnd s = _ from h) rfl fun _ => rfl
  | yardClockSecond => exact .of_whileUp (show execYardClockSecond s = _ from h) rfl rfl
  | dayChange => exact .of_when (show execDayChange s = _ from h) rfl fun _ => rfl
  | reportIntervalTick => exact .of_whileUp (show execReportIntervalTick s = _ from h) rfl rfl
  | marker readBack => exact .of_when (show execMarker readBack s = _ from h) rfl fun _ => rfl
  | laneCommand slot readBack => exact .of_when (show execLaneCommand slot readBack s = _ from h) rfl fun _ => rfl
  | poll slot readBack => exact .of_when (show execPoll slot readBack s = _ from h) rfl fun _ => rfl
  | inSlotEnd slot heard => exact .of_when (show execInSlotEnd slot heard s = _ from h) rfl fun _ => rfl
  | laneStatusMessage unit report => exact .of_deliver (show execLaneStatusMessage unit report s = _ from h) rfl rfl
  | tagRead unit tag => exact .of_deliver (show execTagRead unit tag s = _ from h) rfl rfl
  | unitAlarm unit code => exact .of_deliver (show execUnitAlarm unit code s = _ from h) rfl rfl
  | deckSample deck raw overRange => exact .of_deliver (show execDeckSample deck raw overRange s = _ from h) rfl rfl
  | loopPaused slot => exact .of_when (show execLoopPaused slot s = _ from h) rfl fun _ => rfl
  | settleTimerExpiry lane => exact .of_when (show execSettleTimerExpiry lane s = _ from h) rfl fun hb =>
      (if_pos hb).symm
  | cycleTimerExpiry lane => exact .of_when (show execCycleTimerExpiry lane s = _ from h) rfl fun _ => rfl
  | recoveryTimerExpiry lane => exact .of_when (show execRecoveryTimerExpiry lane s = _ from h) rfl fun _ => rfl
  | passageTimeout lane => exact .of_when (show execPassageTimeout lane s = _ from h) rfl fun _ => rfl
  | travelTimerExpiry lane => exact .of_when (show execTravelTimerExpiry lane s = _ from h) rfl fun _ => rfl
  | gateClearTimerExpiry lane => exact .of_when (show execGateClearTimerExpiry lane s = _ from h) rfl fun _ => rfl
  | abandonTimerExpiry lane => exact .of_when (show execAbandonTimerExpiry lane s = _ from h) rfl fun _ => rfl
  | captureTimerExpiry deck => exact .of_when (show execCaptureTimerExpiry deck s = _ from h) rfl fun _ => rfl
  | trackingTimerExpiry deck => exact .of_when (show execTrackingTimerExpiry deck s = _ from h) rfl fun _ => rfl
  | noDataEntry deck => exact .of_when (show execNoDataEntry deck s = _ from h) rfl fun _ => rfl
  | unitLostEntry unit => exact .of_when (show execUnitLostEntry unit s = _ from h) rfl fun _ => rfl
  | unitGoodEntry unit => exact .of_when (show execUnitGoodEntry unit s = _ from h) rfl fun _ => rfl
  | alarmClear unit => exact .of_when (show execAlarmClear unit s = _ from h) rfl fun _ => rfl
  | detectorAssert unit kind => exact .of_when (show execDetectorAssert unit kind s = _ from h) rfl fun _ => rfl
  | detectorDeassert unit kind => exact .of_when (show execDetectorDeassert unit kind s = _ from h) rfl fun _ => rfl
  | rstNLow =>
    cases h
    exact .inr ⟨nofun, fun hc => absurd rfl hc, .refl _⟩

/-- What a step comes to: an empty queue idles, and else the front command is taken. -/
theorem step_comes (h : step s = .next t) : (s.pending = [] ∧ t = s) ∨
    ∃ c rest, s.pending = c :: rest ∧ Comes c { s with pending := rest } t := by
  unfold step at h
  split at h
  · rename_i hq
    cases h
    exact .inl ⟨hq, rfl⟩
  · rename_i c rest hq
    exact .inr ⟨c, rest, hq, exec_comes h⟩

end Sys2Proof.Machine
end

section
/-! The frame of the tables: which operations leave the Visit Table, the Vehicle Register and the Permit Table alone. -/

namespace Sys2Proof.Machine

/-- R1, R28, R38: the three tables with the lists and counters they own: all that the laws of the books speak of. -/
def State.books (s : State) : VisitTable × Table Vehicle × Table Permit := (s.vt, s.vehicles, s.permits)

/-- A change made once for each of a list of blocks keeps what each single change keeps. -/
theorem foldl_keeps {α : Type} {f : α → State → State} (P : State → Prop) (h : ∀ a s, P s → P (f a s)) (l : List α)
    (s : State) (hs : P s) : P (l.foldl (fun s a => f a s) s) := by
  induction l generalizing s with
  | nil => exact hs
  | cons a l ih => exact ih _ (h a s hs)

theorem forLanes_keeps {f : Fin 4 → State → State} {s : State} (P : State → Prop) (h : ∀ n s, P s → P (f n s))
    (hs : P s) : P (forLanes f s) := foldl_keeps P h allLanes s hs

theorem forUnits_keeps {f : Fin 8 → State → State} {s : State} (P : State → Prop) (h : ∀ u s, P s → P (f u s))
    (hs : P s) : P (forUnits f s) := foldl_keeps P h allUnits s hs

namespace State

variable (s : State) (n : Fin 4)

theorem books_eq {s t : State} (h : s.books = t.books) :
    s.vt = t.vt ∧ s.vehicles = t.vehicles ∧ s.permits = t.permits := by
  simpa [books] using h

@[simp] theorem books_setLane (l : Lane) : (s.setLane n l).books = s.books := rfl
@[simp] theorem books_setBarrier (b : Barrier) : (s.setBarrier n b).books = s.books := rfl
@[simp] theorem books_setDeck (d : Deck) : (s.setDeck n d).books = s.books := rfl
@[simp] theorem books_setEngine (e : Engine) : (s.setEngine n e).books = s.books := rfl
@[simp] theorem books_setUnit (u : Fin 8) (r : UnitRec) : (s.setUnit u r).books = s.books := rfl
@[simp] theorem books_latch (src : Source) (bit : Nat) : (s.latch src bit).books = s.books := rfl
@[simp] theorem books_followLevels : s.followLevels.books = s.books := by simp [books]
@[simp] theorem books_orderBarrier (o : BarrierOrder) : (s.orderBarrier n o).books = s.books := rfl
@[simp] theorem books_setTracking (t : Tracking) (b : Bool) : (s.setTracking n t b).books = s.books := rfl
@[simp] theorem books_setDetector (k : DetectorKind) (d : Detector) : (s.setDetector n k d).books = s.books := by
  cases k <;> rfl
@[simp] theorem books_answer (c : Byte) (st : Status) (a : Answer) : (s.answer c st a).books = s.books := rfl
@[simp] theorem books_turnAway (c : Instr) (code : Byte) : (s.turnAway c code).books = s.books := by
  rw [turnAway_eq]
  rfl

/-- R176: a lane that stops watching touches no table. -/
@[simp] theorem books_endTracking (t : Option Nat) : (s.endTracking t).books = s.books := by
  cases t with
  | none => rfl
  | some t =>
    unfold endTracking
    refine forLanes_keeps (fun u => u.books = s.books) (fun n u hu => ?_) rfl
    dsimp only
    split <;> exact hu

/-! ### Lanes -/

@[simp] theorem books_leaveReleasing : (s.leaveReleasing n).books = s.books := rfl
@[simp] theorem books_endReleasing : (s.endReleasing n).books = s.books := by
  unfold endReleasing
  split <;> rfl
@[simp] theorem books_enterReleasing (held : Option Nat) : (s.enterReleasing n held).books = s.books := by
  simp [enterReleasing]
@[simp] theorem books_enterFault : (s.enterFault n).books = s.books := by simp [enterFault]
@[simp] theorem books_enterMaintenance : (s.enterMaintenance n).books = s.books := by simp [enterMaintenance]
@[simp] theorem books_enterPassing : (s.enterPassing n).books = s.books := rfl
@[simp] theorem books_reportEligible : (s.reportEligible n).books = s.books := by
  unfold reportEligible
  split <;> rfl
@[simp] theorem books_bindGrant (t : Nat) (tag : Tag) (e : Bool) : (s.bindGrant n t tag e).books = s.books := rfl
@[simp] theorem books_refuseAtLane (st : Status) (tag : Tag) : (s.refuseAtLane n st tag).books = s.books := rfl
@[simp] theorem books_dropFront : (s.dropFront n).books = s.books := rfl

/-! ### Engines and decks -/

@[simp] theorem books_recordOutcome (o : LastOutcome) : (s.recordOutcome n o).books = s.books := rfl
@[simp] theorem books_endUnreported : (s.endUnreported n).books = s.books := rfl
@[simp] theorem books_goOn (c : Capture) : (s.goOn n c).books = s.books := rfl
@[simp] theorem books_captureImage (r : LaneReport) : (s.captureImage n r).books = s.books := by
  unfold captureImage
  split <;> rfl
@[simp] theorem books_trackZero (p : DeckParams) (raw : Nat) : (s.trackZero n p raw).books = s.books := by
  unfold trackZero
  dsimp only
  split <;> rfl
@[simp] theorem books_trackIfDue (p : DeckParams) (raw : Nat) (kg : Int) :
    (s.trackIfDue n p raw kg).books = s.books := by
  unfold trackIfDue
  split <;> simp

/-! ### The loop -/

@[simp] theorem books_startLoop : s.startLoop.books = s.books := rfl
@[simp] theorem books_autoStartLoop : s.autoStartLoop.books = s.books := by
  unfold autoStartLoop
  split <;> rfl
@[simp] theorem books_openFrame : s.openFrame.books = s.books := rfl
@[simp] theorem books_sendMarker (bs : List BitSamples) : (s.sendMarker bs).books = s.books := rfl
@[simp] theorem books_blocksFrameEnd : s.blocksFrameEnd.books = s.books := rfl

/-- A change made once for each unit keeps the tables where each single change does. -/
theorem books_forUnits {f : Fin 8 → State → State} (h : ∀ u s, (f u s).books = s.books) (s : State) :
    (forUnits f s).books = s.books :=
  forUnits_keeps (fun t => t.books = s.books) (fun u t ht => (h u t).trans ht) rfl

@[simp] theorem books_publish : s.publish.books = s.books := by
  unfold publish
  rw [books_latch, books_blocksFrameEnd, books_forUnits]
  · rfl
  · intro u s
    unfold unitFrameEnd
    dsimp only
    split
    · rfl
    · split <;> rfl

@[simp] theorem books_judgeOwnership : s.judgeOwnership.books = s.books := by
  unfold judgeOwnership
  rw [books_followLevels, books_forUnits]
  intro u s
  rfl

@[simp] theorem books_endInSlot (k : Nat) (heard : Heard) : (s.endInSlot k heard).books = s.books := by
  rw [endInSlot_eq]
  rfl

@[simp] theorem books_markerSlot (bs : List BitSamples) : (s.markerSlot bs).books = s.books := by
  unfold markerSlot
  split <;> simp

theorem books_loopStart : s.loopStart.1.books = s.books := by
  unfold loopStart
  split <;> rfl

theorem books_loopPause : s.loopPause.1.books = s.books := by
  unfold loopPause
  split
  · rfl
  · split <;> rfl

theorem books_resumeAfter : s.resumeAfter.books = s.books := rfl

theorem books_loopResume : s.loopResume.1.books = s.books := by
  unfold loopResume
  split
  · show s.callOffPause.books = s.books
    unfold callOffPause
    split <;> rfl
  · split <;> rfl
  · rfl
  · rfl

theorem books_loopStop : s.loopStop.1.books = s.books := by
  unfold loopStop
  split
  · rfl
  · split <;> rfl

theorem books_slotSet (k : Nat) (es : List Byte) : (s.slotSet k es).1.books = s.books := by
  unfold slotSet
  split
  · rfl
  · split
    · rfl
    · split
      · rfl
      · exact books_judgeOwnership _

theorem books_unitAddress (u : Fin 8) (a : Nat) : (s.unitAddress u a).1.books = s.books := by
  unfold unitAddress
  split
  · rfl
  · split
    · rfl
    · split <;> rfl

theorem books_loopStatus : s.loopStatus.1.books = s.books := by
  unfold loopStatus
  split
  · rfl
  · split
    · rfl
    · split <;> rfl

theorem books_autoSwitch (u : Fin 8) (on : Nat) : (s.autoSwitch u on).1.books = s.books := by
  unfold autoSwitch
  split
  · rfl
  · split <;> rfl

theorem books_tickUnits : (forUnits tickUnit s).books = s.books := by
  refine books_forUnits (fun u s => ?_) s
  unfold tickUnit
  split <;> rfl

/-! ### The port, the notices and the loader -/

theorem books_noticeReport : s.noticeReport.1.books = s.books := by simp only [noticeReport, books]
theorem books_setMask (words : List Word) : (s.setMask words).books = s.books := by simp only [setMask, books]
theorem books_setEdges (words : List Word) : (s.setEdges words).books = s.books := by simp only [setEdges, books]
theorem books_holdReset : s.holdReset.books = s.books := by simp only [holdReset, books]
theorem books_beginTransaction : s.beginTransaction.books = s.books := by simp only [beginTransaction, books]
theorem books_finishStoreRead (w : Option Word) : (s.finishStoreRead w).books = s.books := by
  simp only [finishStoreRead, answer, books]
theorem books_finishWrite (x : StoreWrite) (w : Option Word) : (s.finishWrite x w).books = s.books := by
  simp only [finishWrite, latch, books]
theorem books_sendCommand (k : Nat) (bs : List BitSamples) : (s.sendCommand k bs).books = s.books := by
  simp only [sendCommand, transmit, clearInject, setWorking, books]
theorem books_sendPoll (k : Nat) (bs : List BitSamples) : (s.sendPoll k bs).books = s.books := by
  simp only [sendPoll, transmit, clearInject, books]
theorem books_enterPaused (k : Nat) : (s.enterPaused k).books = s.books := by simp only [enterPaused, books]

theorem books_judgeSent (k : Byte) (rest : List Byte) (calEn : Bool) : (s.judgeSent k rest calEn).books = s.books := by
  have spent : (s.spendFrameCode rest).books = s.books := by
    unfold spendFrameCode
    split <;> rfl
  unfold judgeSent
  dsimp only
  split
  · exact spent
  · exact spent
  · split <;> exact spent

theorem books_endTransaction (x : Sending) (sent : List Byte) (calEn : Bool) :
    (s.endTransaction x sent calEn).books = s.books := by
  have read : ({ s with calEn := calEn }.judgeRead x sent).books = s.books := by
    unfold judgeRead
    split <;> rfl
  unfold endTransaction judgeBytes
  split
  · exact read
  · split
    · exact read
    · exact (books_judgeSent _ _ _ _).trans read

theorem books_readSetting (code : Byte) (word source : Nat) : (s.readSetting code word source).books = s.books := by
  unfold readSetting
  split
  · unfold readActive
    split <;> rfl
  · unfold readStore
    split
    · rfl
    · split <;> rfl
  · rfl

theorem books_writeSetting (word value : Nat) : (s.writeSetting word value).1.books = s.books := by
  unfold writeSetting
  split
  · rfl
  · split
    · rfl
    · split <;> rfl

/-! ### Start-up -/

theorem books_endRestart : s.endRestart.books = s.books := by
  unfold endRestart
  rw [books_autoStartLoop]
  rfl


@[simp] theorem books_judgeLoad (read : Option (List Word)) : (s.judgeLoad read).books = s.books := rfl
@[simp] theorem books_loadBlocks : s.loadBlocks.books = s.books := rfl
@[simp] theorem books_recallLevels : s.recallLevels.books = s.books := rfl
@[simp] theorem books_restartLoop : s.restartLoop.books = s.books := rfl
@[simp] theorem books_restartEngines : s.restartEngines.books = s.books := rfl
@[simp] theorem books_restartLanes : s.restartLanes.books = s.books := rfl
@[simp] theorem books_restartOthers : s.restartOthers.books = s.books := rfl

end State

end Sys2Proof.Machine
end

section
/-! The canonical form of the tables and the law of the Change List (R1, R26, R28, R38): every operation keeps both. -/

namespace Sys2Proof.Machine

/-- R1, R26, R28, R38: what leads from `s` to `t` keeps the canonical form of the tables and the law of the Change
List. -/
structure Tidy (s t : State) : Prop where
  tables  : TablesCanonical s → TablesCanonical t
  changes : ChangesLawful s → ChangesLawful t

namespace Tidy

variable {s u v : State} {n : Fin 4}

@[refl, simp] theorem refl (s : State) : Tidy s s := ⟨id, id⟩

theorem trans (h : Tidy s u) (h' : Tidy u v) : Tidy s v := ⟨h'.tables ∘ h.tables, h'.changes ∘ h.changes⟩

/-- Where the tables stand both laws stand. -/
theorem of_books (h : v.books = u.books) : Tidy u v := by
  obtain ⟨hv, hw, hp⟩ := State.books_eq h
  constructor
  · intro c
    exact ⟨hv ▸ c.records, hw ▸ c.vehicles, hp ▸ c.permits⟩
  · intro c
    refine ⟨hv ▸ c.once, fun slot hs => ?_⟩
    simp only [State.visit, hv] at hs ⊢
    exact c.live slot hs

theorem frame (h : Tidy s u) (hv : v.books = u.books) : Tidy s v := h.trans (of_books hv)

/-! ### The writes -/

/-- The records and the Change List stand, and the two registers stay canonical. -/
theorem registers (hr : v.vt.records = u.vt.records) (hc : v.vt.changes = u.vt.changes)
    (hw : u.vehicles.wf → v.vehicles.wf) (hp : u.permits.wf → v.permits.wf) : Tidy u v := by
  constructor
  · intro c
    exact ⟨hr ▸ c.records, hw c.vehicles, hp c.permits⟩
  · intro c
    refine ⟨hc ▸ c.once, fun slot hs => ?_⟩
    simp only [State.visit, hr, hc] at hs ⊢
    exact c.live slot hs

theorem setVisit_self (u : State) (k : Nat) (x : Visit) : Tidy u (u.setVisit k x) := by
  constructor
  · intro c
    exact ⟨Table.put_wf _ _ c.records, c.vehicles, c.permits⟩
  · intro c
    refine ⟨c.once, fun slot hs => ?_⟩
    rw [State.visit_setVisit]
    split
    · rfl
    · exact c.live slot hs

theorem touch_self {k : Nat} (hk : (u.visit k).isSome = true) : Tidy u (u.touch k) := by
  constructor
  · intro c
    rw [State.touch_eq]
    exact ⟨c.records, c.vehicles, c.permits⟩
  · intro c
    refine ⟨State.touch_nodup _ _ c.once, fun slot hs => ?_⟩
    rw [State.touch_changes, withChange] at hs
    rw [State.visit_touch]
    split at hs
    · exact c.live slot hs
    · rcases List.mem_append.mp hs with hs | hs
      · exact c.live slot hs
      · rw [List.mem_singleton.mp hs]
        exact hk

theorem complete_self (u : State) (k : Nat) : Tidy u (u.complete k) := by
  apply registers <;> simp

theorem addVehicleLive_self (u : State) (k : Nat) (d : Int) : Tidy u (u.addVehicleLive k d) := by
  unfold State.addVehicleLive
  split
  · rfl
  · exact registers rfl rfl (Table.put_wf _ _) id

theorem addPermitLive_self (u : State) (k : Nat) (d : Int) : Tidy u (u.addPermitLive k d) := by
  unfold State.addPermitLive
  split
  · rfl
  · exact registers rfl rfl id (Table.put_wf _ _)

theorem addLive_self (u : State) (x : Visit) (d : Int) : Tidy u (u.addLive x d) := by
  unfold State.addLive
  split
  · exact addVehicleLive_self _ _ _
  · exact (addVehicleLive_self _ _ _).trans (addPermitLive_self _ _ _)

theorem addReserved_self (u : State) (k : Nat) (kg : Int) : Tidy u (u.addReserved k kg) := by
  unfold State.addReserved
  split
  · rfl
  · exact registers rfl rfl id (Table.put_wf _ _)

theorem debitPermit_self (u : State) (k : Nat) (net r : Int) : Tidy u (u.debitPermit k net r) := by
  unfold State.debitPermit
  split
  · rfl
  · exact registers rfl rfl id (Table.put_wf _ _)

theorem refreshTare_self (u : State) (x : Visit) : Tidy u (u.refreshTare x) := by
  unfold State.refreshTare
  split
  · split
    · exact registers rfl rfl (Table.put_wf _ _) id
    · rfl
  · rfl

/-- R17, R24, R25: a record leaves its slot and both lists at once. -/
theorem removeVisit_self (u : State) (k : Nat) (x : Visit) : Tidy u (u.removeVisit k x) := by
  have gone : Tidy u { u with vt := { u.vt with
      records := u.vt.records.drop k
      changes := u.vt.changes.filter (· ≠ k)
      completion := u.vt.completion.filter (· ≠ k) } } := by
    refine ⟨fun c => ⟨Table.drop_wf _ c.records, c.vehicles, c.permits⟩, fun c => ⟨c.once.filter _, ?_⟩⟩
    intro slot hs
    obtain ⟨hm, hk⟩ := List.mem_filter.mp hs
    have hne : k ≠ slot := fun e => by simp [e] at hk
    simpa [State.visit, Table.get_drop, hne] using c.live slot hm
  exact gone.trans (addLive_self _ _ _)

theorem setVisit (h : Tidy s u) {k : Nat} {x : Visit} : Tidy s (u.setVisit k x) := h.trans (setVisit_self _ _ _)
theorem touch (h : Tidy s u) {k : Nat} (hk : (u.visit k).isSome = true) : Tidy s (u.touch k) := h.trans (touch_self hk)
theorem complete (h : Tidy s u) {k : Nat} : Tidy s (u.complete k) := h.trans (complete_self _ _)
theorem addLive (h : Tidy s u) {x : Visit} {d : Int} : Tidy s (u.addLive x d) := h.trans (addLive_self _ _ _)
theorem addReserved (h : Tidy s u) {k : Nat} {kg : Int} : Tidy s (u.addReserved k kg) := h.trans (addReserved_self _ _ _)
theorem debitPermit (h : Tidy s u) {k : Nat} {a b : Int} : Tidy s (u.debitPermit k a b) :=
  h.trans (debitPermit_self _ _ _ _)
theorem refreshTare (h : Tidy s u) {x : Visit} : Tidy s (u.refreshTare x) := h.trans (refreshTare_self _ _)
theorem removeVisit (h : Tidy s u) {k : Nat} {x : Visit} : Tidy s (u.removeVisit k x) := h.trans (removeVisit_self _ _ _)
theorem addOccupancy (h : Tidy s u) {d : Int} : Tidy s (u.addOccupancy d) := h.trans (registers rfl rfl id id)

/-! ### The frames -/

theorem setLane (h : Tidy s u) {l : Lane} : Tidy s (u.setLane n l) := h.frame rfl
theorem setBarrier (h : Tidy s u) {b : Barrier} : Tidy s (u.setBarrier n b) := h.frame rfl
theorem setDeck (h : Tidy s u) {d : Deck} : Tidy s (u.setDeck n d) := h.frame rfl
theorem setEngine (h : Tidy s u) {e : Engine} : Tidy s (u.setEngine n e) := h.frame rfl
theorem setUnit (h : Tidy s u) {k : Fin 8} {r : UnitRec} : Tidy s (u.setUnit k r) := h.frame rfl
theorem setDetector (h : Tidy s u) {k : DetectorKind} {d : Detector} : Tidy s (u.setDetector n k d) := h.frame (by simp)
theorem setLoop (h : Tidy s u) {l : Loop} : Tidy s { u with loop := l } := h.frame rfl
theorem setClock (h : Tidy s u) {c : Clock} : Tidy s { u with clock := c } := h.frame rfl
theorem latch (h : Tidy s u) {src : Source} {bit : Nat} : Tidy s (u.latch src bit) := h.frame rfl
theorem spend (h : Tidy s u) {k : Nat} : Tidy s { u with free := k } := h.frame rfl
theorem followLevels (h : Tidy s u) : Tidy s u.followLevels := h.frame (by simp)
theorem endTracking (h : Tidy s u) {t : Option Nat} : Tidy s (u.endTracking t) := h.frame (by simp)
theorem endReleasing (h : Tidy s u) : Tidy s (u.endReleasing n) := h.frame (by simp)
theorem enterReleasing (h : Tidy s u) {o : Option Nat} : Tidy s (u.enterReleasing n o) := h.frame (by simp)
theorem enterFault (h : Tidy s u) : Tidy s (u.enterFault n) := h.frame (by simp)
theorem enterMaintenance (h : Tidy s u) : Tidy s (u.enterMaintenance n) := h.frame (by simp)
theorem reportEligible (h : Tidy s u) : Tidy s (u.reportEligible n) := h.frame (by simp)
theorem bindGrant (h : Tidy s u) {t : Nat} {tag : Tag} {e : Bool} : Tidy s (u.bindGrant n t tag e) := h.frame rfl
theorem recordOutcome (h : Tidy s u) {o : LastOutcome} : Tidy s (u.recordOutcome n o) := h.frame rfl
theorem goOn (h : Tidy s u) {c : Capture} : Tidy s (u.goOn n c) := h.frame rfl
theorem captureImage (h : Tidy s u) {r : LaneReport} : Tidy s (u.captureImage n r) := h.frame (by simp)

/-! ### Holds and passages -/

theorem addLater (h : Tidy s u) {k : Nat} {x : Visit} {r : HoldReason} : Tidy s (u.addLater k x r) := by
  unfold State.addLater
  split
  · exact h
  · exact h.setVisit.touch (by simp)

theorem holdClaim (h : Tidy s u) {k : Nat} {r : HoldReason} : Tidy s (u.holdClaim k r) := by
  unfold State.holdClaim
  split
  · exact h
  · split
    · exact h.addLater
    · exact (h.setVisit.touch (by simp)).latch.followLevels

theorem passage (h : Tidy s u) {k : Nat} {x : Visit} : Tidy s (u.passage n k x) := by
  unfold State.passage
  split
  · exact h
  · rename_i v d _
    have passed : Tidy s ((((u.setVisit k v).addOccupancy d).touch k).latch .passed n.val) :=
      (h.setVisit.addOccupancy.touch (by simp)).latch
    dsimp only
    split
    · exact passed.complete.followLevels
    · exact passed.followLevels

/-- R173: the record stands in its slot when its credited passage is noted. -/
theorem visit_addLater_isSome (u : State) {k : Nat} {x : Visit} {r : HoldReason} (hk : (u.visit k).isSome = true) :
    ((u.addLater k x r).visit k).isSome = true := by
  unfold State.addLater
  split
  · exact hk
  · simp

theorem creditPassage (h : Tidy s u) {t : Nat} : Tidy s (u.creditPassage n t) := by
  unfold State.creditPassage
  split
  · exact h
  · split
    · exact (h.setVisit.addOccupancy.addLater.touch (visit_addLater_isSome _ (by simp))).latch.followLevels
    · exact h

theorem holdBound (h : Tidy s u) {r : HoldReason} : Tidy s (u.holdBound n r) := by
  unfold State.holdBound
  split
  · exact h
  · exact h.holdClaim

theorem holdToReleasing (h : Tidy s u) {r : HoldReason} : Tidy s (u.holdToReleasing n r) := by
  unfold State.holdToReleasing
  split
  · exact h
  · exact h.holdBound.enterReleasing

/-! ### Captures and clearance -/

theorem clearance (h : Tidy s u) {k : Nat} : Tidy s (u.clearance n k) := by
  unfold State.clearance
  split
  · exact h
  · dsimp only
    split
    · exact h.spend.setVisit.holdToReleasing
    · split
      · exact (h.spend.debitPermit.refreshTare.setVisit.touch (by simp)).latch.reportEligible
      · exact (h.spend.refreshTare.setVisit.touch (by simp)).latch.reportEligible

theorem entryEffect (h : Tidy s u) {k : Nat} {role : Role} : Tidy s (u.entryEffect n k role) := by
  cases role with
  | entry => exact h.reportEligible
  | reweigh => exact h.reportEligible
  | exit => exact h.clearance
  | storedTare => exact h

theorem weighingArrives (h : Tidy s u) {t : Nat} {w : Weighing} : Tidy s (u.weighingArrives n t w) := by
  unfold State.weighingArrives
  split
  · exact h
  · split
    · exact h
    · split
      · split
        · exact (h.setVisit.touch (by simp)).entryEffect
        · exact h.setVisit.touch (by simp)
      · exact h.setVisit.touch (by simp)

theorem countFailure (h : Tidy s u) : Tidy s (u.countFailure n) := by
  unfold State.countFailure
  dsimp only
  split
  · exact h.setEngine.holdToReleasing
  · exact h.setEngine

theorem settleGathered (h : Tidy s u) {c : Capture} {p : Bool} {g : Gathered} : Tidy s (u.settleGathered n c p g) := by
  unfold State.settleGathered
  dsimp only
  split
  · exact h.setEngine.weighingArrives.recordOutcome
  · exact h.setEngine.setLane.recordOutcome

theorem settleFailed (h : Tidy s u) {c : Capture} {r : FailReason} : Tidy s (u.settleFailed n c r) := by
  unfold State.settleFailed
  dsimp only
  split
  · exact h.setEngine.countFailure.recordOutcome
  · exact h.setEngine.setLane.recordOutcome

theorem abortCapture (h : Tidy s u) : Tidy s (u.abortCapture n) := by
  unfold State.abortCapture
  split
  · exact h
  · split
    · exact h.settleGathered
    · split
      · exact h.setEngine
      · exact h.settleFailed

theorem truncateCapture (h : Tidy s u) : Tidy s (u.truncateCapture n) := by
  unfold State.truncateCapture
  split
  · exact h
  · split
    · exact h.settleGathered
    · exact h.setEngine

theorem holdAndAbort (h : Tidy s u) {r : HoldReason} : Tidy s (u.holdAndAbort n r) := h.holdBound.abortCapture

theorem endBurst (h : Tidy s u) {c : Capture} : Tidy s (u.endBurst n c) := by
  unfold State.endBurst
  split
  · exact h.settleFailed
  · exact h.settleGathered

theorem judgeBurst (h : Tidy s u) {c : Capture} : Tidy s (u.judgeBurst n c) := by
  unfold State.judgeBurst
  split
  · exact h.goOn.endBurst
  · exact h.goOn

theorem axleReading (h : Tidy s u) {c : Capture} {st : DeckState} {kg : Int} {b : Bool} :
    Tidy s (u.axleReading n c st kg b) := by
  unfold State.axleReading
  split
  · split
    · exact h.endBurst
    · exact h
  · exact h.goOn
  · exact h.judgeBurst
  · exact h.judgeBurst
  · exact h.judgeBurst
  · exact h.goOn
  · exact h

theorem captureReading (h : Tidy s u) {st : DeckState} {kg : Int} {b : Bool} :
    Tidy s (u.captureReading n st kg b) := by
  unfold State.captureReading
  split
  · exact h
  · split
    · exact h.settleFailed
    · exact h.settleFailed
    all_goals
      split
      · exact h.axleReading
      · split
        · exact h.settleGathered
        · exact h

theorem startCapture (h : Tidy s u) {p : Purpose} {b : Option Burst} : Tidy s (u.startCapture n p b) := by
  unfold State.startCapture
  dsimp only
  split
  · exact h.goOn.settleFailed
  · exact h.goOn.settleFailed
  all_goals exact h.goOn.captureImage

theorem startVisitCapture (h : Tidy s u) {b : Option Burst} : Tidy s (u.startVisitCapture n b) := by
  unfold State.startVisitCapture
  split
  · exact h
  · split
    · exact h.startCapture
    · exact h

theorem takeSample (h : Tidy s u) {p : DeckParams} {raw : Nat} {o : Bool} {f : Nat} :
    Tidy s (u.takeSample n p raw o f) := by
  unfold State.takeSample
  dsimp only
  split
  · exact h.setDeck.followLevels.captureReading
  · exact (h.frame (by simp)).captureReading

theorem enterNoData (h : Tidy s u) : Tidy s (u.enterNoData n) := by
  unfold State.enterNoData
  dsimp only
  split
  · exact h.setDeck
  · exact h.setDeck.followLevels.captureReading

/-! ### Binds and the tag buffer -/

theorem admissionClaims (h : Tidy s u) {c : Candidate} : Tidy s (u.admissionClaims c) := by
  have created : Tidy s (if c.isNew then u.addLive c.record 1 else u) := by
    split
    · exact h.addLive
    · exact h
  unfold State.admissionClaims
  dsimp only
  split
  · exact created.addReserved
  · exact created

theorem grantAdmission (h : Tidy s u) {c : Candidate} : Tidy s (u.grantAdmission n c) := by
  have issued (k : Nat) : Tidy s { u.admissionClaims c with vt := { (u.admissionClaims c).vt with nextTicket := k } } :=
    h.admissionClaims.trans (registers rfl rfl id id)
  exact ((issued _).setVisit.touch (by simp)).latch.bindGrant.followLevels

theorem bindRecord (h : Tidy s u) {k : Nat} {x : Visit} {st : VisitState} {e : Bool} :
    Tidy s (u.bindRecord n k x st e) := (h.setVisit.touch (by simp)).bindGrant.followLevels

theorem bindExit (h : Tidy s u) {k : Nat} {x : Visit} : Tidy s (u.bindExit n k x) := by
  unfold State.bindExit
  split
  · exact h.bindRecord
  · dsimp only
    split
    · exact h.bindRecord.holdToReleasing
    · split
      · exact h.bindRecord
      · exact h.bindRecord.setVisit.clearance

theorem bindClaim (h : Tidy s u) {found : Option (Nat × Visit)} {t : State} (ht : u.bindClaim n found = .ok t) :
    Tidy s t := by
  unfold State.bindClaim at ht
  split at ht
  · cases ht
  · cases ht
  · split at ht
    · cases ht
      exact h.bindRecord
    · cases ht
      exact h.bindExit
    · split at ht
      · cases ht
        exact h.bindRecord
      · cases ht
    · cases ht

theorem tagClaim (h : Tidy s u) {tag : Tag} {t : State} (ht : u.tagClaim n tag = .ok t) : Tidy s t := by
  unfold State.tagClaim at ht
  split at ht
  · split at ht
    · cases ht
    · cases ht
      exact h.grantAdmission
  all_goals exact h.bindClaim ht

theorem tryRounds (h : Tidy s u) (k : Nat) : Tidy s (State.tryRounds k n u) := by
  induction k generalizing u with
  | zero => exact h
  | succ k ih =>
    have dropped : Tidy s (u.dropFront n) := h.setLane
    unfold State.tryRounds
    split
    · exact h
    · split
      · exact ih dropped
      · split
        · rename_i t ht
          split
          · exact ih (dropped.tagClaim ht)
          · exact dropped.tagClaim ht
        · split
          · exact h
          · exact ih (dropped.setLane.latch)

theorem makeTry (h : Tidy s u) : Tidy s (u.makeTry n) := by
  unfold State.makeTry
  split
  · exact h.tryRounds _
  · exact h

theorem tryBuffer (h : Tidy s u) : Tidy s (u.tryBuffer n) := by
  unfold State.tryBuffer
  split
  · exact h.makeTry
  · exact h

end Tidy

end Sys2Proof.Machine
end

section
/-! Every command keeps the tables canonical and the Change List lawful. -/

namespace Sys2Proof.Machine

namespace Tidy

variable {s u : State} {n : Fin 4}

/-! ### Lanes, barriers and units -/

theorem takeHandedClaim
    (reply : ∀ {c : Instr} {r : Reply}, u.claimReply n c = some r → Tidy s r.1) {t : State}
    (ht : u.takeHandedClaim n = some t) : Tidy s t := by
  unfold State.takeHandedClaim at ht
  split at ht
  · split at ht
    · cases ht
    · obtain ⟨r, hr, rfl⟩ := Option.map_eq_some_iff.mp ht
      exact (reply hr).frame rfl
  · cases ht

theorem refuseAdmit (h : Tidy s u) {st : Status} {tag : Option Tag} : Tidy s (u.refuseAdmit n st tag).1 := by
  unfold State.refuseAdmit
  split
  · exact h
  · split
    · exact h.setLane.latch
    · exact h.setLane.latch.spend

theorem admitReply (h : Tidy s u) {lane : Nat} {name : AdmitName} : Tidy s (u.admitReply lane name).1 := by
  refine inRange_fst (Tidy s) h fun _ => onLane_fst (Tidy s) h fun n _ => ?_
  unfold State.admitAt
  split
  · exact h
  · split
    · exact h.refuseAdmit
    · exact h.grantAdmission

theorem callReply (h : Tidy s u) {lane ticket : Nat} : Tidy s (u.callReply lane ticket).1 := by
  refine inRange_fst (Tidy s) h fun _ => onLane_fst (Tidy s) h fun n _ => ?_
  unfold State.callAt
  split
  · exact h
  · split
    · exact h
    · rename_i ht
      exact (h.bindClaim ht).tryBuffer

theorem restoreTo (h : Tidy s u) {k : Nat} {x : Visit} {st : VisitState} : Tidy s (u.restoreTo k x st) := by
  have restored : Tidy s (((u.endTracking x.ticket).setVisit k (State.unheld x st)).touch k) :=
    h.endTracking.setVisit.touch (by simp)
  unfold State.restoreTo
  dsimp only
  split
  · exact restored.complete
  · exact restored

@[simp] theorem done_fst (s : State) : s.done.1 = s := rfl

theorem rebind (h : Tidy s u) {k : Nat} {x : Visit} {st : VisitState} {lane : Option (Fin 4)} :
    Tidy s (u.rebind k x st lane).1 := by
  unfold State.rebind
  split
  · exact h
  · split
    · exact h
    · split
      · exact h
      · split
        · exact h
        · exact h.endTracking.bindRecord

theorem releaseVisit (h : Tidy s u) {k : Nat} {x : Visit} {lane : Option (Fin 4)} :
    Tidy s (u.releaseVisit k x lane).1 := by
  have restored {st : VisitState} : Tidy s (u.restoreTo k x st).done.1 := h.restoreTo
  unfold State.releaseVisit
  split
  · split
    · exact h
    · exact restored
  · exact restored
  · split
    · exact h.rebind
    · exact restored
  · exact h.rebind
  · exact h.rebind
  · exact h.rebind
  · exact h

theorem releaseReply (h : Tidy s u) {name : RecordName} {lane : Option Nat} : Tidy s (u.releaseReply name lane).1 :=
  inRange_fst (Tidy s) h fun _ => onRecord_fst (Tidy s) h fun _ _ _ => h.releaseVisit

theorem claimReply (h : Tidy s u) {c : Instr} {r : Reply} (hr : u.claimReply n c = some r) : Tidy s r.1 := by
  unfold State.claimReply at hr
  split at hr
  · split at hr <;> cases hr
    exact h.admitReply
  · split at hr <;> cases hr
    exact h.callReply
  · split at hr <;> cases hr
    exact h.releaseReply
  · cases hr

theorem meetClaim (h : Tidy s u) : Tidy s (u.meetClaim n) := by
  rcases u.meetClaim_cases n with e | e | ⟨t, ht, e⟩ <;> rw [e]
  · exact h
  · exact h.spend
  · exact (takeHandedClaim h.claimReply ht).spend

theorem tryOnIdle (h : Tidy s u) {before : State} : Tidy s (u.tryOnIdle n before) := by
  unfold State.tryOnIdle
  split
  · exact h.meetClaim.makeTry
  · exact h

theorem faultLane (h : Tidy s u) {r : HoldReason} : Tidy s (u.faultLane n r) := by
  unfold State.faultLane
  split
  · exact h
  · exact h
  all_goals exact h.holdAndAbort.enterFault

theorem barrierFaultAtLane (h : Tidy s u) : Tidy s (u.barrierFaultAtLane n) := by
  unfold State.barrierFaultAtLane
  split
  · exact h
  · exact h.faultLane

theorem failBarrier (h : Tidy s u) : Tidy s (u.failBarrier n) := by
  unfold State.failBarrier
  split
  · exact h
  · exact h.setBarrier.barrierFaultAtLane

theorem startMaintenance (h : Tidy s u) : Tidy s (u.startMaintenance n) := h.holdAndAbort.enterMaintenance

theorem endMaintenance (h : Tidy s u) : Tidy s (u.endMaintenance n) := by
  unfold State.endMaintenance
  dsimp only
  split
  · exact h.abortCapture.enterFault
  · exact h.abortCapture.enterReleasing.tryOnIdle

theorem reportDown (h : Tidy s u) {k : Fin 8} {r : HoldReason} : Tidy s (u.reportDown k r) := by
  unfold State.reportDown
  split
  · exact h.faultLane
  · exact h.enterNoData

theorem tryServed (h : Tidy s u) {k : Fin 8} {before : State} : Tidy s (u.tryServed k before) := by
  unfold State.tryServed
  split <;> exact h.tryOnIdle

theorem takeWaitingSample (h : Tidy s u) {t : State} (ht : u.takeWaitingSample n = some t) : Tidy s t := by
  unfold State.takeWaitingSample at ht
  split at ht
  · split at ht
    · cases ht
      exact h.setLoop.takeSample
    · cases ht
  · cases ht

theorem meetReading (h : Tidy s u) : Tidy s (u.meetReading n) := by
  unfold State.meetReading
  split
  · exact h
  · rename_i t ht
    split
    · split
      · exact (h.takeWaitingSample ht).spend.setLane.setBarrier
      · exact h.spend
    · exact h

/-! ### Requests at a lane -/

theorem setMode (h : Tidy s u) {m : LaneMode} {a w t c : Bool} : Tidy s (u.setMode n m a w t c).1 := by
  unfold State.setMode
  split
  · refine h.frame ?_
    show ((u.writeMode n m a w t c).moveByMode n).books = u.books
    have opened (x : State) : (x.openLane n).books = x.books := by
      unfold State.openLane
      split
      · simp
      · rfl
    unfold State.moveByMode
    split
    · rfl
    · exact opened _
    · exact opened _
    · exact opened _
    · rfl
  · exact h

theorem releaseLane (h : Tidy s u) : Tidy s (u.releaseLane n).1 := by
  have held (x before : State) (hx : Tidy s x) : Tidy s ((x.releaseHeld n).tryOnIdle n before) :=
    hx.holdAndAbort.enterReleasing.tryOnIdle
  have met : Tidy s (u.meetReading n) := h.meetReading
  unfold State.releaseLane State.releaseClaim
  split
  · exact held _ _ met
  · exact held _ _ met
  · exact held _ _ met
  · split
    · exact (met.setVisit.touch (by simp)).abortCapture.enterReleasing.tryOnIdle
    · split
      · exact met
      · exact held _ _ met

theorem resetLane (h : Tidy s u) : Tidy s (u.resetLane n) := by
  have move {x : State} (hx : Tidy s x) (before : Lane) : Tidy s (x.resetMove n before) := by
    unfold State.resetMove
    split
    · split
      · exact hx
      · exact hx.enterFault
    · exact hx.enterReleasing
  have met : Tidy s (u.meetReading n) := h.meetReading
  have cleared : Tidy s (((u.meetReading n).holdAndAbort n .laneReset).resetBarrier n) :=
    met.holdAndAbort.setBarrier.setBarrier
  exact (move cleared _).setLane

theorem maintainOn (h : Tidy s u) : Tidy s (u.maintainOn n).1 := by
  unfold State.maintainOn
  split
  · exact h
  · exact h
  · exact h
  all_goals exact h.meetReading.startMaintenance

theorem maintainOff (h : Tidy s u) : Tidy s (u.maintainOff n).1 := by
  unfold State.maintainOff
  split
  · exact h.endMaintenance
  · exact h

theorem workBarrier (h : Tidy s u) {o : BarrierOrder} : Tidy s (u.workBarrier n o).1 := by
  unfold State.workBarrier
  split <;> exact h.frame rfl

theorem captureAt (h : Tidy s u) {b : Option Burst} : Tidy s (u.captureAt n b).1 := by
  unfold State.captureAt
  split
  · exact h
  · split
    · split
      · exact h
      · exact h.setLane
    · split
      · exact h
      · exact h.truncateCapture.startVisitCapture.tryOnIdle
    · exact h.truncateCapture.startCapture
    all_goals exact h

theorem terminateAt (h : Tidy s u) : Tidy s (u.terminateAt n).1 := by
  unfold State.terminateAt
  split
  · rename_i c _
    have ended : Tidy s (u.endByRequest n c) := by
      unfold State.endByRequest
      split
      · exact h.settleFailed
      · exact h.settleGathered
    exact ended.tryOnIdle
  · split
    · exact h.setLane
    · exact h

theorem zeroAt (h : Tidy s u) : Tidy s (u.zeroAt n).1 := by
  unfold State.zeroAt
  split
  · exact h
  · exact h
  · split
    · exact h
    · split
      · exact h
      · exact h.setDeck

/-! ### Messages and expiries -/

theorem judgeBarrier (h : Tidy s u) : Tidy s (u.judgeBarrier n) := by
  unfold State.judgeBarrier
  dsimp only
  split
  · exact h.setBarrier
  · split
    · exact h.setBarrier.barrierFaultAtLane
    · exact h.setBarrier.endReleasing
    all_goals exact h.setBarrier

theorem completePassage (h : Tidy s u) : Tidy s (u.completePassage n) := by
  unfold State.completePassage
  split
  · exact h.enterReleasing
  · exact h.passage.enterReleasing

theorem completeUnattended (h : Tidy s u) : Tidy s (u.completeUnattended n) := by
  unfold State.completeUnattended
  split
  · exact h.setBarrier.setLane
  · exact h.creditPassage.setBarrier.setLane

theorem trackPassage (h : Tidy s u) : Tidy s (u.trackPassage n) := by
  unfold State.trackPassage
  dsimp only
  split
  · exact h.setBarrier
  · split
    · exact h.setBarrier.completePassage
    · exact h.setBarrier
  · split
    · exact h.setBarrier.completeUnattended
    · exact h.setBarrier

theorem takeImage (h : Tidy s u) {r : LaneReport} {f : Nat} : Tidy s (u.takeImage n r f) := by
  have seen : Tidy s (u.seeCode n r.code) := by
    unfold State.seeCode
    split
    · exact h
    all_goals exact h.frame (by simp)
  exact seen.setBarrier.captureImage.judgeBarrier.trackPassage.setBarrier.tryOnIdle

theorem readTag (h : Tidy s u) {tag : Tag} {f : Nat} : Tidy s (u.readTag n tag f) := by
  unfold State.readTag
  split
  · exact h
  · split
    · exact h.setLane
    · split
      · exact h.setLane.tryBuffer
      · exact h.latch

theorem alarmClaim (h : Tidy s u) {k : Fin 8} {e : Bool} : Tidy s (u.alarmClaim k e) := by
  unfold State.alarmClaim
  split
  · exact h.reportDown
  · exact h

theorem takeAlarm (h : Tidy s u) {k : Fin 8} {code : AlarmCode} : Tidy s (u.takeAlarm k code) := by
  have alarmed : Tidy s (u.setUnit k (State.alarmed (u.unit k) code)).followLevels :=
    h.setUnit.followLevels
  unfold State.takeAlarm
  dsimp only
  split
  · split
    · unfold State.armClaims
      dsimp only
      split
      · exact alarmed.spend.failBarrier.alarmClaim
      · exact alarmed.spend.alarmClaim.failBarrier
    · exact alarmed.alarmClaim
  · exact alarmed.alarmClaim.tryOnIdle

theorem takeDeckSample (h : Tidy s u) {raw : Nat} {o : Bool} {f : Nat} : Tidy s (u.takeDeckSample n raw o f) := by
  unfold State.takeDeckSample
  split
  · exact h
  · split
    · exact h
    · exact h.takeSample.tryOnIdle

theorem endSettling (h : Tidy s u) : Tidy s (u.endSettling n) := by
  have bound : Tidy s (u.enterBound n) := h.setLane
  have settled : Tidy s ((u.enterBound n).afterSettling n) := by
    unfold State.afterSettling
    split
    · exact bound.frame rfl
    · split
      · exact bound.setLane.startVisitCapture
      · split
        · unfold State.autoCaptureAt
          split
          · exact bound
          · split
            · exact bound.holdToReleasing
            · split
              · exact bound.startVisitCapture
              · exact bound
        · exact bound
  exact settled.tryOnIdle

theorem endTravel (h : Tidy s u) : Tidy s (u.endTravel n) := by
  unfold State.endTravel
  dsimp only
  split
  · exact h.setBarrier.failBarrier
  · exact h.setBarrier.failBarrier
  all_goals exact h.setBarrier

theorem endCapture (h : Tidy s u) : Tidy s (u.endCapture n) := by
  unfold State.endCapture
  split
  · exact h
  · split
    · exact h.settleGathered.tryOnIdle
    · exact h.settleFailed.tryOnIdle

theorem enterLost (h : Tidy s u) {k : Fin 8} : Tidy s (u.enterLost k) :=
  h.setUnit.followLevels.reportDown.tryServed

theorem clearAlarm (h : Tidy s u) {k : Fin 8} : Tidy s (u.clearAlarm k) := by
  have entered (st : UnitState) : Tidy s (u.enterUnitState k st) := h.setUnit.followLevels
  unfold State.clearAlarm
  dsimp only
  split
  · exact (entered _).reportDown.tryServed
  · exact entered _

theorem assertDetector (h : Tidy s u) {k : DetectorKind} : Tidy s (u.assertDetector n k) :=
  (h.frame (by simp)).followLevels

theorem detectorMoves (h : Tidy s u) {k : DetectorKind} : Tidy s (u.detectorMoves n k) := by
  unfold State.detectorMoves
  split
  · exact h.startMaintenance
  · exact h.startMaintenance
  · exact h.startMaintenance
  · exact h.startMaintenance
  · exact h.startMaintenance
  · exact h.endMaintenance
  · exact h

/-! ### The Visit Table's requests -/

theorem bookVisit (h : Tidy s u) {tag : Tag} {k : VisitKind} {p : Option Nat} {t : Bool} {d : Nat} :
    Tidy s (u.bookVisit tag k p t d).1 := by
  unfold State.bookVisit
  split
  · exact h
  · split
    · exact h
    · split
      · exact h
      · split
        · exact h
        · exact h.addLive.setVisit.touch (by simp)

theorem amendVisit (h : Tidy s u) {k : Nat} {x : Visit} {t : Bool} {d : Nat} : Tidy s (u.amendVisit k x t d).1 := by
  unfold State.amendVisit
  split
  · exact h.setVisit.touch (by simp)
  · exact h.setVisit.touch (by simp)
  all_goals exact h

theorem holdVisit (h : Tidy s u) {k : Nat} {x : Visit} : Tidy s (u.holdVisit k x).1 := by
  unfold State.holdVisit
  split
  · split
    · exact h
    · exact h.holdClaim
  · exact h.holdClaim
  · exact h.holdClaim
  all_goals exact h

theorem voidRecord (h : Tidy s u) {k : Nat} {x : Visit} : Tidy s (u.voidRecord k x).1 := by
  unfold State.voidRecord
  split
  · exact h.removeVisit
  · split
    · have voided {y : State} (hy : Tidy s y) : Tidy s ((y.setVisit k (State.voidedVisit x)).touch k) :=
        hy.setVisit.touch (by simp)
      unfold State.voidLive
      dsimp only [State.done]
      split
      · split
        · exact voided h.endTracking
        · exact voided h.endTracking.addReserved
      · split
        · exact (voided h.endTracking).complete
        · exact (voided h.endTracking.addReserved).complete
    · exact h

theorem retireVisit (h : Tidy s u) {k : Nat} {x : Visit} : Tidy s (u.retireVisit k x).1 := by
  unfold State.retireVisit
  split
  · exact h.removeVisit
  · exact h

theorem nextDone (h : Tidy s u) : Tidy s u.nextDone.1 := by
  unfold State.nextDone
  split
  · exact h
  · split <;> exact h

theorem takeChanges (h : Tidy s u) : Tidy s u.takeChanges.1 := by
  refine h.trans ⟨fun c => ⟨c.records, c.vehicles, c.permits⟩, fun c => ⟨?_, fun slot hs => ?_⟩⟩
  · exact c.once.sublist (List.drop_sublist _ _)
  · exact c.live slot (List.mem_of_mem_drop hs)

theorem declareTip (h : Tidy s u) {k : Nat} {x : Visit} {c : Nat} : Tidy s (u.declareTip k x c).1 := by
  unfold State.declareTip
  dsimp only
  split
  · exact h
  · split
    · exact h
    · split
      · exact h
      · split
        · exact h
        · split
          · exact h
          · exact h.setVisit.touch (by simp)

/-! ### The registers and the clock -/

theorem putPermit (h : Tidy s u) {k : Nat} {a : BitVec 32} {p e : Nat} : Tidy s (u.putPermit k a p e).1 := by
  unfold State.putPermit
  split
  · exact h.trans (registers rfl rfl id (Table.put_wf _ _))
  · split
    · exact h
    · exact h.trans (registers rfl rfl id (Table.put_wf _ _))

theorem adjustPermit (h : Tidy s u) {k : Nat} {kg : Int} : Tidy s (u.adjustPermit k kg).1 := by
  unfold State.adjustPermit
  split
  · exact h
  · split
    · exact h.trans (registers rfl rfl id (Table.put_wf _ _))
    · exact h

theorem markPermit (h : Tidy s u) {k : Nat} {st : PermitState} : Tidy s (u.markPermit k st).1 := by
  unfold State.markPermit
  split
  · exact h
  · split
    · exact h
    · exact h.trans (registers rfl rfl id (Table.put_wf _ _))

theorem dropPermit (h : Tidy s u) {k : Nat} : Tidy s (u.dropPermit k).1 := by
  unfold State.dropPermit
  split
  · exact h
  · split
    · exact h
    · exact h.trans (registers rfl rfl id (Table.drop_wf _))

theorem putVehicle (h : Tidy s u) {v : Vehicle} {t : TareParam} : Tidy s (u.putVehicle v t).1 := by
  unfold State.putVehicle
  split
  · dsimp only
    split
    · exact h
    · exact h.trans (registers rfl rfl (Table.put_wf _ _) id)
  · dsimp only
    split
    · exact h
    · split
      · exact h
      · exact h.trans (registers rfl rfl (Table.put_wf _ _) id)

theorem dropVehicle (h : Tidy s u) {tag : Tag} : Tidy s (u.dropVehicle tag).1 := by
  unfold State.dropVehicle
  split
  · exact h
  · split
    · exact h
    · exact h.trans (registers rfl rfl (Table.drop_wf _) id)

theorem tareStore (h : Tidy s u) {x : Visit} {k d : Nat} : Tidy s (u.tareStore x k d).1 := by
  have stored (t : Tare) : Tidy s (u.storeTare x t) := by
    unfold State.storeTare
    split
    · exact h
    · exact h.trans (registers rfl rfl (Table.put_wf _ _) id)
  unfold State.tareStore
  split
  · exact h
  · split
    · exact stored _
    · exact h

theorem judgeExpiry (h : Tidy s u) : Tidy s u.judgeExpiry :=
  h.trans (registers rfl rfl id (Table.map_wf _))

theorem changeDay (h : Tidy s u) : Tidy s u.changeDay := by
  unfold State.changeDay
  split
  · have lapsed {y : State} (hy : Tidy s y) : Tidy s y.lapseBookings := by
      have gone : Tidy s (y.lapsing.foldl (fun x e => x.removeVisit e.1 e.2) y) :=
        foldl_keeps (Tidy s) (fun e x hx => hx.removeVisit) _ _ hy
      unfold State.lapseBookings
      dsimp only
      split
      · exact gone
      · exact gone.latch
    exact (lapsed h.setClock).judgeExpiry
  · exact h.frame rfl

theorem clockSecond (h : Tidy s u) : Tidy s u.clockSecond := by
  unfold State.clockSecond
  split
  · exact h.changeDay
  · split
    · refine h.frame ?_
      unfold State.nextSecond
      split <;> rfl
    · exact h

/-! ### Start-up -/

/-- R186: the tables of a hard reset are empty. -/
theorem hardReset (s : State) : Tidy s s.hardReset :=
  ⟨fun _ => ⟨Table.nil_wf, Table.nil_wf, Table.nil_wf⟩, fun _ => ⟨List.nodup_nil, fun _ hs => by cases hs⟩⟩

theorem endLoad (h : Tidy s u) {read : Option (List Word)} : Tidy s (u.endLoad read) := by
  have ticket : Tidy s (u.judgeLoad read).loadTicket := by
    unfold State.loadTicket
    split
    · exact h.trans (registers rfl rfl id id)
    · exact h.frame (by simp)
  exact ticket.frame (by simp [State.endLoad])

theorem reload (h : Tidy s u) : Tidy s u.reload.1 := by
  unfold State.reload
  split
  · exact h
  · split
    · exact h
    · exact h.frame rfl

theorem restart (h : Tidy s u) : Tidy s u.restart := by
  have held : Tidy s u.restartLoop.restartEngines.restartHolds :=
    forLanes_keeps (Tidy s) (fun n x hx => hx.holdBound) (h.frame (by simp))
  refine held.frame (Eq.trans (b := u.restartLoop.restartEngines.restartHolds.restartLanes.restartOthers.followLevels.books)
    rfl (by simp))

end Tidy

/-! ### Every command -/

section Exec

variable {c : Instr} {s t : State}

/-- R1, R26, R28, R38: the effect of a command keeps the tables canonical and the Change List lawful. -/
theorem effect_tidy (c : Instr) (s : State) : Tidy s (effect c s) := by
  have here : Tidy s s := Tidy.refl s
  cases c with
  -- start-up, port and notices
  | hardReset => exact Tidy.hardReset s
  | rstNLow => exact here.frame (State.books_holdReset s)
  | loadEnd read =>
    dsimp only [effect]
    split
    · exact here.endLoad
    · exact here
  | transactionStart => exact here.frame (State.books_beginTransaction s)
  | transactionEnd sent calEn =>
    dsimp only [effect]
    split
    · exact here
    · exact here.frame (State.books_endTransaction _ _ _ _)
  | noticeReport => exact here.frame (State.books_noticeReport s)
  | noticeMask words => exact here.frame (State.books_setMask s _)
  | noticeEdge words => exact here.frame (State.books_setEdges s _)
  -- Visit Table
  | admitVisit lane name => exact here.admitReply
  | book tag kind permit useTare day =>
    dsimp only [effect]
    split
    · split
      · exact here
      · exact inRange_fst (Tidy s) here fun _ => here.bookVisit
    · exact here
  | amend name useTare day =>
    refine inRange_fst (Tidy s) here fun _ => ?_
    split
    · exact here
    · exact onRecord_fst (Tidy s) here fun _ _ _ => here.amendVisit
  | hold name => exact inRange_fst (Tidy s) here fun _ => onRecord_fst (Tidy s) here fun _ _ _ => here.holdVisit
  | releaseHold name lane => exact here.releaseReply
  | voidVisit name => exact inRange_fst (Tidy s) here fun _ => onRecord_fst (Tidy s) here fun _ _ _ => here.voidRecord
  | retire ticket => exact inRange_fst (Tidy s) here fun _ => onRecord_fst (Tidy s) here fun _ _ _ => here.retireVisit
  | takeChanges => exact here.takeChanges
  | tipDeclare ticket category =>
    exact inRange_fst (Tidy s) here fun _ => onRecord_fst (Tidy s) here fun _ _ _ => here.declareTip
  | call lane ticket => exact here.callReply
  -- the registers
  | vehiclePut tag permit payload groups refresh banned tare =>
    dsimp only [effect]
    split
    · exact inRange_fst (Tidy s) here fun _ => here.putVehicle
    · exact here
  | vehicleDrop tag => exact here.dropVehicle
  | tareStore ticket index validity =>
    exact inRange_fst (Tidy s) here fun _ => onRecord_fst (Tidy s) here fun _ _ _ => here.tareStore
  | permitPut number allowed primary expiry => exact inRange_fst (Tidy s) here fun _ => here.putPermit
  | permitAdjust number amount => exact inRange_fst (Tidy s) here fun _ => here.adjustPermit
  | permitSuspend number => exact inRange_fst (Tidy s) here fun _ => here.markPermit
  | permitResume number => exact inRange_fst (Tidy s) here fun _ => here.markPermit
  | permitDrop number => exact inRange_fst (Tidy s) here fun _ => here.dropPermit
  -- Lane Controllers
  | laneMode lane mode autoTake walkIn walkTare autoCapture =>
    refine onLane_fst (Tidy s) here fun n _ => ?_
    split
    · exact here.setMode
    · exact here
  | laneRelease lane =>
    refine onLane_fst (Tidy s) here fun n _ => ?_
    split
    · exact here.releaseLane
    · exact here
  | laneReset lane =>
    refine onLane_fst (Tidy s) here fun n _ => ?_
    split
    · exact here
    · exact here.resetLane
  | maintainOn lane => exact onLane_fst (Tidy s) here fun n _ => here.maintainOn
  | maintainOff lane => exact onLane_fst (Tidy s) here fun n _ => here.maintainOff
  | barrierRaise lane => exact onLane_fst (Tidy s) here fun n _ => here.workBarrier
  | barrierLower lane => exact onLane_fst (Tidy s) here fun n _ => here.workBarrier
  -- Deck Processors
  | capture lane burst =>
    refine onLane_fst (Tidy s) here fun n _ => ?_
    split
    · exact here
    · exact here.captureAt
  | terminate lane => exact onLane_fst (Tidy s) here fun n _ => here.terminateAt
  | zero deck => exact onLane_fst (Tidy s) here fun n _ => here.zeroAt
  -- Yard Loop and units
  | loopStart => exact here.frame (State.books_loopStart s)
  | loopPause => exact here.frame (State.books_loopPause s)
  | loopResume => exact here.frame (State.books_loopResume s)
  | loopStop => exact here.frame (State.books_loopStop s)
  | slotSet frameLength entries => exact here.frame (State.books_slotSet s _ _)
  | unitAddress unit address => exact onUnit_fst (Tidy s) here fun u => here.frame (State.books_unitAddress s _ _)
  | inject unit => exact onUnit_fst (Tidy s) here fun u => here.frame rfl
  | loopStatus => exact here.frame (State.books_loopStatus s)
  | counterMode unit selection report =>
    refine onUnit_fst (Tidy s) here fun u => ?_
    split
    · exact here.frame rfl
    · exact here
  | counterReport unit => exact onUnit_fst (Tidy s) here fun u => here.frame rfl
  | autoSwitch unit on => exact onUnit_fst (Tidy s) here fun u => here.frame (State.books_autoSwitch s _ _)
  -- Settings Loader and Yard Clock
  | settingRead word source => exact here.frame (State.books_readSetting s _ _ _)
  | settingWrite word value calEn => exact here.frame (State.books_writeSetting _ _ _)
  | reload => exact here.reload
  | restart => exact here.restart
  | clockSet day minute => exact inRange_fst (Tidy s) here fun _ => here.setClock.judgeExpiry
  | storeReadEnd answer => exact here.frame (State.books_finishStoreRead s _)
  | writeCycleEnd readBack =>
    dsimp only [effect]
    split
    · exact here
    · exact here.frame (State.books_finishWrite s _ _)
  | restartEnd => exact here.frame (State.books_endRestart s)
  | yardClockSecond => exact here.clockSecond
  | dayChange => exact here.changeDay
  | reportIntervalTick => exact here.frame (State.books_tickUnits s)
  -- slots
  | marker readBack => exact here.frame (State.books_markerSlot s _)
  | laneCommand slot readBack => exact here.frame (State.books_sendCommand s _ _)
  | poll slot readBack => exact here.frame (State.books_sendPoll s _ _)
  | inSlotEnd slot heard => exact here.frame (State.books_endInSlot s _ _)
  | loopPaused slot => exact here.frame (State.books_enterPaused s _)
  -- messages delivered
  | laneStatusMessage n report => exact here.setLoop.takeImage
  | tagRead n tag => exact here.setLoop.readTag
  | unitAlarm u code => exact here.setLoop.takeAlarm
  | deckSample n raw overRange => exact here.setLoop.takeDeckSample
  -- expiries and entries
  | settleTimerExpiry n =>
    dsimp only [effect]
    split
    · exact here.endSettling
    · exact here
  | cycleTimerExpiry n => exact here.setLane.tryBuffer
  | recoveryTimerExpiry n => exact here.setLane.endReleasing.tryOnIdle
  | passageTimeout n => exact here.holdToReleasing.tryOnIdle
  | travelTimerExpiry n => exact here.endTravel
  | gateClearTimerExpiry n => exact here.setBarrier
  | abandonTimerExpiry n => exact here.holdToReleasing.tryOnIdle
  | captureTimerExpiry n => exact here.endCapture
  | trackingTimerExpiry n => exact here.setDeck
  | noDataEntry n => exact here.enterNoData.tryOnIdle
  | unitLostEntry u => exact here.enterLost
  | unitGoodEntry u => exact here.setUnit.followLevels
  | alarmClear u => exact here.clearAlarm
  | detectorAssert n kind =>
    dsimp only [effect]
    split
    · exact here.assertDetector.detectorMoves
    · exact here.assertDetector
  | detectorDeassert n kind => exact here.setDetector.followLevels
  | identify | lookup _ | nextDone | vehicleGet _ | permitGet _ | laneStatus _ | deckStatus _ | unitStatus _
  | clockRead => exact here

theorem ButForPort.books (h : ButForPort t s) : t.books = s.books := by
  obtain ⟨p, rfl⟩ := h
  rfl

/-- R1, R26, R28, R38: a step keeps the tables canonical and the Change List lawful. -/
theorem step_tidy (h : step s = .next t) : Tidy s t := by
  rcases step_comes h with ⟨-, rfl⟩ | ⟨c, rest, -, comes⟩
  · rfl
  · have queue : Tidy s { s with pending := rest } := Tidy.of_books rfl
    rcases comes with kept | ⟨-, -, taken⟩
    · exact queue.frame kept.books
    · exact (queue.trans (effect_tidy c _)).frame taken.books

end Exec

/-- Settles O22: what each table write keeps (`Tidy`), carried through every command. -/
theorem tablesStayCanonical : Obligations.TablesStayCanonical :=
  fun _ _ canonical taken => (step_tidy taken).tables canonical

/-- Settles O24: a touched record stands in its slot, and a removed one leaves the Change List with its slot. -/
theorem changeListNamesLiveRecords : Obligations.ChangeListNamesLiveRecords :=
  fun _ _ _ lawful taken => (step_tidy taken).changes lawful

end Sys2Proof.Machine
end

section
/-! The laws of the books: the Visit Table, the occupancy, the permits and the register (R1, R7, R12, R13, R25, R28,
R34), and how a record that is revised, created or removed moves their counts. -/

namespace Sys2Proof.Machine

/-! ### Sums over a table -/

namespace Table

variable {α : Type} {t : Table α} {k : Nat} {a : α}

theorem lt_of_mem_tail {p q : Nat × α} {rest : Table α} (hw : Table.wf (p :: rest)) (h : q ∈ rest) : p.1 < q.1 :=
  (List.pairwise_cons.mp hw).1 q h

theorem get_eq_none_of_lt {t : Table α} (h : ∀ q ∈ t, k < q.1) : t.get k = none := by
  by_contra hk
  obtain ⟨a, ha⟩ := Option.ne_none_iff_exists'.mp hk
  exact Nat.lt_irrefl _ (h _ (mem_of_get ha))

/-- What a table adds up to after a write: the old entry under the key is replaced by the new one. -/
theorem sum_put (hw : t.wf) (f : Nat × α → ℤ) (k : Nat) (a : α) :
    ((t.put k a).map f).sum = (t.map f).sum - ((t.get k).elim 0 fun b => f (k, b)) + f (k, a) := by
  induction t with
  | nil => simp [put, get]
  | cons p rest ih =>
    obtain ⟨j, b⟩ := p
    have hr : Table.wf rest := (List.pairwise_cons.mp hw).2
    unfold put get
    rcases Nat.lt_trichotomy k j with hlt | heq | hgt
    · have hk : Table.get rest k = none :=
        get_eq_none_of_lt fun q hq => Nat.lt_trans hlt (lt_of_mem_tail hw hq)
      simp only [hlt, if_true, (Nat.ne_of_lt hlt).symm, if_false, hk, List.map_cons, List.sum_cons, Option.elim]
      ring
    · subst heq
      simp only [Nat.lt_irrefl, if_false, if_true, List.map_cons, List.sum_cons, Option.elim]
      ring
    · simp only [Nat.lt_asymm hgt, if_false, (Nat.ne_of_lt hgt).symm, Nat.ne_of_lt hgt, List.map_cons, List.sum_cons,
        ih hr]
      ring

theorem drop_of_get_none {t : Table α} (h : t.get k = none) (hw : t.wf) : t.drop k = t := by
  refine List.filter_eq_self.mpr fun p hp => ?_
  have : p.1 ≠ k := by
    rintro rfl
    rw [get_of_mem hw hp] at h
    cases h
  simpa using this

/-- What a table adds up to after a removal. -/
theorem sum_drop (hw : t.wf) (f : Nat × α → ℤ) (k : Nat) :
    ((t.drop k).map f).sum = (t.map f).sum - ((t.get k).elim 0 fun b => f (k, b)) := by
  induction t with
  | nil => simp [drop, get]
  | cons p rest ih =>
    obtain ⟨j, b⟩ := p
    have hr : Table.wf rest := (List.pairwise_cons.mp hw).2
    by_cases h : j = k
    · subst h
      have hk : Table.get rest j = none := get_eq_none_of_lt fun q hq => lt_of_mem_tail hw hq
      have : Table.drop ((j, b) :: rest) j = rest := by
        simpa [drop] using drop_of_get_none hk hr
      rw [this]
      simp [get]
    · have : Table.drop ((j, b) :: rest) k = (j, b) :: Table.drop rest k := by simp [drop, h]
      rw [this]
      simp only [get, h, if_false, List.map_cons, List.sum_cons, ih hr]
      ring

end Table

/-! ### Tallies of the records -/

/-- What the records add up to, each with its weight. -/
def State.tally (s : State) (f : Visit → ℤ) : ℤ := (s.vt.records.map (fun e => f e.2)).sum

namespace State

variable {s t : State} {slot : Nat} {v w : Visit} (f : Visit → ℤ)

theorem tally_put (hw : s.vt.records.wf) (hr : t.vt.records = s.vt.records.put slot w) :
    t.tally f = s.tally f - ((s.visit slot).elim 0 f) + f w := by
  unfold tally visit
  rw [hr]
  exact Table.sum_put hw (fun e => f e.2) slot w

theorem tally_drop (hw : s.vt.records.wf) (hr : t.vt.records = s.vt.records.drop slot) :
    t.tally f = s.tally f - ((s.visit slot).elim 0 f) := by
  unfold tally visit
  rw [hr]
  exact Table.sum_drop hw (fun e => f e.2) slot

theorem tally_congr (hr : t.vt.records = s.vt.records) : t.tally f = s.tally f := by
  unfold tally
  rw [hr]

/-- A count of records is the tally of their marks. -/
theorem length_filter_eq_tally (s : State) (p : Visit → Bool) :
    ((s.vt.records.filter (fun e => p e.2)).length : ℤ) = s.tally (fun v => if p v then 1 else 0) := by
  unfold tally
  induction s.vt.records with
  | nil => rfl
  | cons e rest ih =>
    by_cases h : p e.2 <;> simp [h, ih, add_comm]

theorem sum_filter_eq_tally (s : State) (p : Visit → Bool) (g : Visit → ℤ) :
    ((s.vt.records.filter (fun e => p e.2)).map (fun e => g e.2)).sum = s.tally (fun v => if p v then g v else 0) := by
  unfold tally
  induction s.vt.records with
  | nil => rfl
  | cons e rest ih =>
    by_cases h : p e.2 <;> simp [h, ih]

/-- A record that is in the table is counted. -/
theorem one_le_tally (hv : s.visit slot = some v) (p : Visit → Bool) (hp : p v = true) :
    1 ≤ s.tally (fun v => if p v then 1 else 0) := by
  rw [← length_filter_eq_tally]
  have : (slot, v) ∈ s.vt.records.filter (fun e => p e.2) := List.mem_filter.mpr ⟨Table.mem_of_get hv, hp⟩
  exact_mod_cast List.length_pos_of_mem this

end State

/-! ### The laws of the books -/

/-- R1, R7, R12, R13, R25, R28, R34: the laws that speak of the tables alone. -/
structure BooksLawful (s : State) : Prop where
  tables       : TablesCanonical s
  visits       : VisitsLawful s
  occupancy    : OccupancyLawful s
  reservations : ReservationsLawful s
  retention    : RetentionLawful s

theorem OccupancyLawful.iff_tally (s : State) :
    OccupancyLawful s ↔ (s.vt.occupancy : ℤ) = s.tally (fun v => if v.inYard then 1 else 0) := by
  unfold OccupancyLawful
  rw [← State.length_filter_eq_tally s (fun v => v.inYard)]
  exact Nat.cast_inj.symm

theorem ReservationsLawful.iff_tally (s : State) : ReservationsLawful s ↔ ∀ number p,
    s.permits.get number = some p →
      p.reserved = s.tally (fun v => if v.permit = some number then v.reservation else 0) := by
  unfold ReservationsLawful
  refine forall_congr' fun number => forall_congr' fun p => ?_
  have := State.sum_filter_eq_tally s (fun v => decide (v.permit = some number)) (·.reservation)
  simp only [decide_eq_true_eq] at this
  rw [this]

/-- R34: how many live records name a vehicle entry, and a permit. -/
def State.vehicleVisits (s : State) (index : Nat) : ℤ := s.tally (fun v => if v.vehicle = index then 1 else 0)
def State.permitVisits (s : State) (number : Nat) : ℤ := s.tally (fun v => if v.permit = some number then 1 else 0)

theorem State.vehicleVisits_eq (s : State) (index : Nat) :
    s.vehicleVisits index = (s.vt.records.filter (fun e => e.2.vehicle = index)).length := by
  simpa [vehicleVisits] using (s.length_filter_eq_tally (fun v => decide (v.vehicle = index))).symm

theorem State.permitVisits_eq (s : State) (number : Nat) :
    s.permitVisits number = (s.vt.records.filter (fun e => e.2.permit = some number)).length := by
  simpa [permitVisits] using (s.length_filter_eq_tally (fun v => decide (v.permit = some number))).symm

theorem RetentionLawful.live {s : State} (h : RetentionLawful s) {index : Nat} {veh : Vehicle}
    (hv : s.vehicles.get index = some veh) : (veh.live : ℤ) = s.vehicleVisits index := by
  rw [State.vehicleVisits_eq, h.vehicles _ _ hv]

theorem RetentionLawful.permitLive {s : State} (h : RetentionLawful s) {number : Nat} {p : Permit}
    (hp : s.permits.get number = some p) : (p.live : ℤ) = s.permitVisits number := by
  rw [State.permitVisits_eq, h.permits _ _ hp]

/-! ### What moves the counts -/

/-- R12, R28, R34: between two states the records' tallies move by `δ`, and the registers with them: the live-visit
counts, and each permit's reserved amount. The entries and their tags stand. -/
structure Moves (s t : State) (δ : (Visit → ℤ) → ℤ) : Prop where
  tally    : ∀ f, t.tally f = s.tally f + δ f
  vehicle  : ∀ i veh, s.vehicles.get i = some veh → ∃ veh', t.vehicles.get i = some veh' ∧ veh'.tag = veh.tag ∧
    (veh'.live : ℤ) = veh.live + δ (fun v => if v.vehicle = i then 1 else 0)
  vehicle' : ∀ i, s.vehicles.get i = none → t.vehicles.get i = none
  permit   : ∀ k p, s.permits.get k = some p → ∃ p', t.permits.get k = some p' ∧
    (p'.live : ℤ) = p.live + δ (fun v => if v.permit = some k then 1 else 0) ∧
    p'.reserved = p.reserved + δ (fun v => if v.permit = some k then v.reservation else 0)
  permit'  : ∀ k, s.permits.get k = none → t.permits.get k = none

namespace Moves

variable {s t : State} {δ : (Visit → ℤ) → ℤ}

/-- An entry that stands now stood before, and as the move says. -/
theorem vehicle_of (h : Moves s t δ) {i : Nat} {veh' : Vehicle} (hv : t.vehicles.get i = some veh') :
    ∃ veh, s.vehicles.get i = some veh ∧ veh'.tag = veh.tag ∧
      (veh'.live : ℤ) = veh.live + δ (fun v => if v.vehicle = i then 1 else 0) := by
  cases hs : s.vehicles.get i with
  | none => rw [h.vehicle' _ hs] at hv; cases hv
  | some veh =>
    obtain ⟨veh'', hv', htag, hlive⟩ := h.vehicle _ _ hs
    rw [hv] at hv'
    cases hv'
    exact ⟨veh, rfl, htag, hlive⟩

theorem permit_of (h : Moves s t δ) {k : Nat} {p' : Permit} (hp : t.permits.get k = some p') :
    ∃ p, s.permits.get k = some p ∧
      (p'.live : ℤ) = p.live + δ (fun v => if v.permit = some k then 1 else 0) ∧
      p'.reserved = p.reserved + δ (fun v => if v.permit = some k then v.reservation else 0) := by
  cases hs : s.permits.get k with
  | none => rw [h.permit' _ hs] at hp; cases hp
  | some p =>
    obtain ⟨p'', hp', hlive, hres⟩ := h.permit _ _ hs
    rw [hp] at hp'
    cases hp'
    exact ⟨p, rfl, hlive, hres⟩

theorem reservations (h : Moves s t δ) (hs : ReservationsLawful s) : ReservationsLawful t := by
  rw [ReservationsLawful.iff_tally] at hs ⊢
  intro number p' hp'
  obtain ⟨p, hp, -, hres⟩ := h.permit_of hp'
  rw [hres, hs _ _ hp, h.tally]

/-- R28, R34: the retention law moves along where each record names what a record of the tables names. -/
theorem retention (h : Moves s t δ) (hs : RetentionLawful s)
    (named : ∀ slot v, t.visit slot = some v → (∃ veh, s.vehicles.get v.vehicle = some veh ∧ veh.tag = v.tag) ∧
      ∀ number, v.permit = some number → (s.permits.get number).isSome = true) : RetentionLawful t where
  vehicle slot v hv := by
    obtain ⟨⟨veh, hveh, htag⟩, -⟩ := named _ _ hv
    obtain ⟨veh', hveh', htag', -⟩ := h.vehicle _ _ hveh
    exact ⟨veh', hveh', htag'.trans htag⟩
  permit slot v number hv hn := by
    obtain ⟨p, hp⟩ := Option.isSome_iff_exists.mp ((named _ _ hv).2 _ hn)
    obtain ⟨p', hp', -⟩ := h.permit _ _ hp
    simp [hp']
  vehicles i veh' hv' := by
    obtain ⟨veh, hveh, -, hlive⟩ := h.vehicle_of hv'
    have : (veh'.live : ℤ) = t.vehicleVisits i := by
      rw [hlive, hs.live hveh, State.vehicleVisits, State.vehicleVisits, h.tally]
    rw [State.vehicleVisits_eq] at this
    exact_mod_cast this
  permits k p' hp' := by
    obtain ⟨p, hp, hlive, -⟩ := h.permit_of hp'
    have : (p'.live : ℤ) = t.permitVisits k := by
      rw [hlive, hs.permitLive hp, State.permitVisits, State.permitVisits, h.tally]
    rw [State.permitVisits_eq] at this
    exact_mod_cast this
  tags a b v w ha hb htag := by
    obtain ⟨v', hv', e, -⟩ := h.vehicle_of ha
    obtain ⟨w', hw', e', -⟩ := h.vehicle_of hb
    exact hs.tags a b v' w' hv' hw' (e.symm.trans (htag.trans e'))

end Moves

/-! ### A record is written -/

/-- R9: a visit in progress: neither BOOKED nor finished. -/
def Visit.InProgress (v : Visit) : Prop := v.state ≠ .booked ∧ v.finished = false

/-- R1, R7, R25: the laws of the Visit Table after a record is written into a slot: the record is lawful by itself and
clashes with no other, and the Completion List names it where it is finished. -/
theorem VisitsLawful.put {s t : State} {slot : Nat} {w : Visit} (h : VisitsLawful s) (hslot : slot < 192)
    (hw : VisitLawful w) (records : t.vt.records = s.vt.records.put slot w)
    (tickets : ∀ k u x, k ≠ slot → s.visit k = some u → u.ticket = some x → w.ticket ≠ some x)
    (booked : ∀ k u, k ≠ slot → s.visit k = some u → u.tag = w.tag → w.state = .booked → u.state ≠ .booked)
    (progress : ∀ k u, k ≠ slot → s.visit k = some u → u.tag = w.tag → w.InProgress → ¬ u.InProgress)
    (next : 1 ≤ t.vt.nextTicket ∧ t.vt.nextTicket ≤ 99999999) (once : t.vt.completion.Nodup)
    (finished : ∀ k, k ∈ t.vt.completion ↔ (k ≠ slot ∧ k ∈ s.vt.completion) ∨ (k = slot ∧ w.finished = true)) :
    VisitsLawful t := by
  have at_slot : t.visit slot = some w := by rw [State.visit, records, Table.get_put_self]
  have elsewhere {k : Nat} (hk : k ≠ slot) : t.visit k = s.visit k := by
    rw [State.visit, records, Table.get_put_of_ne _ _ hk, State.visit]
  constructor
  case each =>
    intro k v hv
    by_cases hk : k = slot
    · subst hk
      rw [at_slot] at hv
      cases hv
      exact ⟨hslot, hw⟩
    · exact h.each k v (elsewhere hk ▸ hv)
  case tickets =>
    intro a b v u x ha hb hx hx'
    by_contra hab
    by_cases hak : a = slot
    · subst hak
      rw [at_slot] at ha
      cases ha
      rw [elsewhere (Ne.symm hab)] at hb
      exact tickets b u x (Ne.symm hab) hb hx' hx
    · rw [elsewhere hak] at ha
      by_cases hbk : b = slot
      · subst hbk
        rw [at_slot] at hb
        cases hb
        exact tickets a v x hak ha hx hx'
      · rw [elsewhere hbk] at hb
        exact hab (h.tickets a b v u x ha hb hx hx')
  case booked =>
    intro a b v u ha hb htag hx hx'
    by_contra hab
    by_cases hak : a = slot
    · subst hak
      rw [at_slot] at ha
      cases ha
      rw [elsewhere (Ne.symm hab)] at hb
      exact booked b u (Ne.symm hab) hb htag.symm hx hx'
    · rw [elsewhere hak] at ha
      by_cases hbk : b = slot
      · subst hbk
        rw [at_slot] at hb
        cases hb
        exact booked a v hak ha htag hx' hx
      · rw [elsewhere hbk] at hb
        exact hab (h.booked a b v u ha hb htag hx hx')
  case inProgress =>
    intro a b v u ha hb htag hx hx' hf hf'
    by_contra hab
    by_cases hak : a = slot
    · subst hak
      rw [at_slot] at ha
      cases ha
      rw [elsewhere (Ne.symm hab)] at hb
      exact progress b u (Ne.symm hab) hb htag.symm ⟨hx, hf⟩ ⟨hx', hf'⟩
    · rw [elsewhere hak] at ha
      by_cases hbk : b = slot
      · subst hbk
        rw [at_slot] at hb
        cases hb
        exact progress a v hak ha htag ⟨hx', hf'⟩ ⟨hx, hf⟩
      · rw [elsewhere hbk] at hb
        exact hab (h.inProgress a b v u ha hb htag hx hx' hf hf')
  case next => exact next
  case once => exact once
  case finished =>
    intro k
    rw [finished, h.finished]
    by_cases hk : k = slot
    · subst hk
      simp [at_slot]
    · simp [hk, elsewhere hk]

end Sys2Proof.Machine
end

section
/-! A record revised, created and removed: the laws of the books after each. -/

namespace Sys2Proof.Machine

/-! ### The Completion List -/

theorem withChange_nodup {l : List Nat} {k : Nat} (h : l.Nodup) : (withChange l k).Nodup := by
  unfold withChange
  split
  · exact h
  · rename_i hk
    exact List.Nodup.append h (List.nodup_singleton k) (by simpa using hk)

theorem mem_withChange {l : List Nat} {j k : Nat} : j ∈ withChange l k ↔ j ∈ l ∨ j = k := by
  unfold withChange
  split
  · rename_i hk
    constructor
    · exact .inl
    · rintro (h | rfl)
      · exact h
      · exact hk
  · simp

theorem State.complete_eq (s : State) (k : Nat) :
    s.complete k = { s with vt := { s.vt with completion := withChange s.vt.completion k } } := by
  unfold complete withChange
  split <;> rfl

@[simp] theorem State.complete_completion (s : State) (k : Nat) :
    (s.complete k).vt.completion = withChange s.vt.completion k := by
  rw [complete_eq]

@[simp] theorem State.complete_nextTicket (s : State) (k : Nat) : (s.complete k).vt.nextTicket = s.vt.nextTicket := by
  rw [complete_eq]

/-- R25: the Completion List once a revised record is on it where it is finished. -/
theorem mem_completion_revised {s : State} {slot : Nat} {v w : Visit} (h : VisitsLawful s)
    (hv : s.visit slot = some v) (hf : v.finished = true → w.finished = true) (k : Nat) :
    (k ∈ if w.finished = true then withChange s.vt.completion slot else s.vt.completion) ↔
      (k ≠ slot ∧ k ∈ s.vt.completion) ∨ (k = slot ∧ w.finished = true) := by
  have here : slot ∈ s.vt.completion ↔ v.finished = true := by simp [h.finished, hv]
  by_cases hw : w.finished = true
  · rw [if_pos hw, mem_withChange]
    by_cases hk : k = slot <;> simp [hk, hw]
  · rw [if_neg hw]
    have : slot ∉ s.vt.completion := fun hm => hw (hf (here.mp hm))
    by_cases hk : k = slot
    · simp [hk, this, hw]
    · simp [hk]

/-! ### A record revised -/

/-- What a revision of the record `v` asks of the record `w` it writes: lawful by itself, the same vehicle and permit,
no ticket that another record holds, no second booking and no second visit in progress for its tag. -/
structure Revises (s : State) (slot : Nat) (v w : Visit) : Prop where
  stands   : s.visit slot = some v
  lawful   : VisitLawful w
  tag      : w.tag = v.tag
  vehicle  : w.vehicle = v.vehicle
  permit   : w.permit = v.permit
  ticket   : w.ticket = v.ticket ∨ ∀ k u x, s.visit k = some u → u.ticket = some x → w.ticket ≠ some x
  booked   : w.state = .booked → v.state = .booked ∨ ∀ k u, s.visit k = some u → u.tag = v.tag → u.state ≠ .booked
  progress : w.InProgress → v.InProgress ∨ ∀ k u, s.visit k = some u → u.tag = v.tag → ¬ u.InProgress
  finished : v.finished = true → w.finished = true

/-- R1, R7, R12, R13, R25, R28, R34: the books after a record is revised, the occupancy, the Completion List and the
registers moved with it. -/
theorem BooksLawful.revise {s t : State} {slot : Nat} {v w : Visit} (h : BooksLawful s) (r : Revises s slot v w)
    (tables : TablesCanonical t) (records : t.vt.records = s.vt.records.put slot w)
    (occupancy : (t.vt.occupancy : ℤ) = s.vt.occupancy - (if v.inYard then 1 else 0) + (if w.inYard then 1 else 0))
    (next : 1 ≤ t.vt.nextTicket ∧ t.vt.nextTicket ≤ 99999999)
    (completion : t.vt.completion = if w.finished = true then withChange s.vt.completion slot else s.vt.completion)
    (moves : Moves s t (fun f => f w - f v)) : BooksLawful t where
  tables := tables
  visits := by
    have single {k : Nat} {u : Visit} (hk : k ≠ slot) (hu : s.visit k = some u) (htag : u.tag = w.tag) :
        (v.state = .booked → u.state ≠ .booked) ∧ (v.InProgress → ¬ u.InProgress) := by
      have htag' : u.tag = v.tag := htag.trans r.tag
      exact ⟨fun hb hb' => hk (h.visits.booked k slot u v hu r.stands htag' hb' hb),
        fun hp hp' => hk (h.visits.inProgress k slot u v hu r.stands htag' hp'.1 hp.1 hp'.2 hp.2)⟩
    refine h.visits.put (h.visits.each _ _ r.stands).1 r.lawful records ?_ ?_ ?_ next ?_ ?_
    · intro k u x hk hu hx hx'
      rcases r.ticket with same | fresh
      · exact hk (h.visits.tickets k slot u v x hu r.stands hx (same ▸ hx'))
      · exact fresh k u x hu hx hx'
    · intro k u hk hu htag hb
      rcases r.booked hb with hv | none
      · exact (single hk hu htag).1 hv
      · exact none k u hu (htag.trans r.tag)
    · intro k u hk hu htag hp
      rcases r.progress hp with hv | none
      · exact (single hk hu htag).2 hv
      · exact none k u hu (htag.trans r.tag)
    · rw [completion]
      split
      · exact withChange_nodup h.visits.once
      · exact h.visits.once
    · intro k
      rw [completion]
      exact mem_completion_revised h.visits r.stands r.finished k
  occupancy := by
    rw [OccupancyLawful.iff_tally, occupancy, (OccupancyLawful.iff_tally s).mp h.occupancy, moves.tally]
    ring
  reservations := moves.reservations h.reservations
  retention := by
    refine moves.retention h.retention fun k u hu => ?_
    by_cases hk : k = slot
    · subst hk
      rw [State.visit, records, Table.get_put_self] at hu
      cases hu
      rw [r.vehicle, r.tag, r.permit]
      exact ⟨h.retention.vehicle _ _ r.stands, fun number hn => h.retention.permit _ _ _ r.stands hn⟩
    · rw [State.visit, records, Table.get_put_of_ne _ _ hk] at hu
      exact ⟨h.retention.vehicle _ _ hu, fun number hn => h.retention.permit _ _ _ hu hn⟩

/-- The registers stand while a record is revised that names the same vehicle, permit and reservation. -/
theorem Moves.of_registers {s t : State} {slot : Nat} {v w : Visit} (hw : s.vt.records.wf)
    (stands : s.visit slot = some v) (records : t.vt.records = s.vt.records.put slot w)
    (vehicles : t.vehicles = s.vehicles) (permits : t.permits = s.permits) (vehicle : w.vehicle = v.vehicle)
    (permit : w.permit = v.permit) (reservation : w.reservation = v.reservation) :
    Moves s t (fun f => f w - f v) where
  tally f := by
    rw [State.tally_put f hw records, stands]
    simp only [Option.elim]
    ring
  vehicle i veh hv := ⟨veh, vehicles ▸ hv, rfl, by simp [vehicle]⟩
  vehicle' i hv := vehicles ▸ hv
  permit k p hp := ⟨p, permits ▸ hp, by simp [permit], by simp [permit, reservation]⟩
  permit' k hp := permits ▸ hp

/-- R23, R24, R25: the books where a record is revised and the registers stand. -/
theorem BooksLawful.revise_record {s t : State} {slot : Nat} {v w : Visit} (h : BooksLawful s)
    (r : Revises s slot v w) (tables : TablesCanonical t) (records : t.vt.records = s.vt.records.put slot w)
    (occupancy : (t.vt.occupancy : ℤ) = s.vt.occupancy - (if v.inYard then 1 else 0) + (if w.inYard then 1 else 0))
    (next : t.vt.nextTicket = s.vt.nextTicket)
    (completion : t.vt.completion = if w.finished = true then withChange s.vt.completion slot else s.vt.completion)
    (vehicles : t.vehicles = s.vehicles) (permits : t.permits = s.permits)
    (reservation : w.reservation = v.reservation) : BooksLawful t :=
  h.revise r tables records occupancy (next ▸ h.visits.next) completion
    (.of_registers h.tables.records r.stands records vehicles permits r.vehicle r.permit reservation)

/-- The two registers and the counters stand: only what the laws do not speak of differs. -/
theorem BooksLawful.of_books {s t : State} (h : BooksLawful s) (e : t.books = s.books) : BooksLawful t := by
  obtain ⟨hv, hw, hp⟩ := State.books_eq e
  have visits (k : Nat) : t.visit k = s.visit k := by rw [State.visit, hv, State.visit]
  constructor
  · exact (Tidy.of_books e).tables h.tables
  · obtain ⟨each, tickets, booked, inProgress, next, once, finished⟩ := h.visits
    constructor <;> simp only [visits, hv] <;> assumption
  · rw [OccupancyLawful, hv]
    exact h.occupancy
  · unfold ReservationsLawful
    rw [hv, hp]
    exact h.reservations
  · obtain ⟨vehicle, permit, vehicles, permits, tags⟩ := h.retention
    constructor <;> simp only [visits, hv, hw, hp] <;> assumption

/-! ### A record created and removed -/

/-- R8, R14: the books after a record is created in a free slot, the counts of what it names raised. -/
theorem BooksLawful.create {s t : State} {slot : Nat} {w : Visit} (h : BooksLawful s) (hslot : slot < 192)
    (free : s.visit slot = none) (lawful : VisitLawful w) (unfinished : w.finished = false) (outside : w.inYard = false)
    (ticket : ∀ k u x, s.visit k = some u → u.ticket = some x → w.ticket ≠ some x)
    (booked : w.state = .booked → ∀ k u, s.visit k = some u → u.tag = w.tag → u.state ≠ .booked)
    (progress : w.InProgress → ∀ k u, s.visit k = some u → u.tag = w.tag → ¬ u.InProgress)
    (vehicle : ∃ veh, s.vehicles.get w.vehicle = some veh ∧ veh.tag = w.tag)
    (permit : ∀ number, w.permit = some number → (s.permits.get number).isSome = true)
    (tables : TablesCanonical t) (records : t.vt.records = s.vt.records.put slot w)
    (occupancy : t.vt.occupancy = s.vt.occupancy) (next : 1 ≤ t.vt.nextTicket ∧ t.vt.nextTicket ≤ 99999999)
    (completion : t.vt.completion = s.vt.completion) (moves : Moves s t (fun f => f w)) : BooksLawful t where
  tables := tables
  visits := by
    refine h.visits.put hslot lawful records (fun k u x _ => ticket k u x)
        (fun k u _ hu htag hb => booked hb k u hu htag)
      (fun k u _ hu htag hp => progress hp k u hu htag) next (completion ▸ h.visits.once) fun k => ?_
    have : slot ∉ s.vt.completion := by simp [h.visits.finished, free]
    rw [completion]
    by_cases hk : k = slot
    · simp [hk, this, unfinished]
    · simp [hk]
  occupancy := by
    rw [OccupancyLawful.iff_tally, occupancy, (OccupancyLawful.iff_tally s).mp h.occupancy, moves.tally]
    simp [outside]
  reservations := moves.reservations h.reservations
  retention := by
    refine moves.retention h.retention fun k u hu => ?_
    by_cases hk : k = slot
    · subst hk
      rw [State.visit, records, Table.get_put_self] at hu
      cases hu
      exact ⟨vehicle, permit⟩
    · rw [State.visit, records, Table.get_put_of_ne _ _ hk] at hu
      exact ⟨h.retention.vehicle _ _ hu, fun number hn => h.retention.permit _ _ _ hu hn⟩

/-- R17, R24, R25: the books after a record that reserves nothing and stands outside the yard has left the table. -/
theorem BooksLawful.remove {s t : State} {slot : Nat} {v : Visit} (h : BooksLawful s)
    (outside : v.inYard = false) (tables : TablesCanonical t)
    (records : t.vt.records = s.vt.records.drop slot) (occupancy : t.vt.occupancy = s.vt.occupancy)
    (next : t.vt.nextTicket = s.vt.nextTicket)
    (completion : t.vt.completion = s.vt.completion.filter (· ≠ slot)) (moves : Moves s t (fun f => -f v)) :
    BooksLawful t := by
  have visits (k : Nat) : t.visit k = if slot = k then none else s.visit k := by
    rw [State.visit, records, Table.get_drop, State.visit]
  have before {k : Nat} {u : Visit} (hu : t.visit k = some u) : slot ≠ k ∧ s.visit k = some u := by
    rw [visits] at hu
    split at hu
    · cases hu
    · rename_i hk
      exact ⟨hk, hu⟩
  constructor
  case tables => exact tables
  case visits =>
    constructor
    case each => exact fun k u hu => h.visits.each k u (before hu).2
    case tickets => exact fun a b u w x ha hb => h.visits.tickets a b u w x (before ha).2 (before hb).2
    case booked => exact fun a b u w ha hb => h.visits.booked a b u w (before ha).2 (before hb).2
    case inProgress => exact fun a b u w ha hb => h.visits.inProgress a b u w (before ha).2 (before hb).2
    case next => exact next ▸ h.visits.next
    case once => exact completion ▸ h.visits.once.filter _
    case finished =>
      intro k
      rw [completion, List.mem_filter, h.visits.finished, visits]
      by_cases hk : slot = k
      · simp [hk]
      · simp [hk, Ne.symm hk]
  case occupancy =>
    rw [OccupancyLawful.iff_tally, occupancy, (OccupancyLawful.iff_tally s).mp h.occupancy, moves.tally]
    simp [outside]
  case reservations => exact moves.reservations h.reservations
  case retention =>
    exact moves.retention h.retention fun k u hu =>
      ⟨h.retention.vehicle _ _ (before hu).2, fun number hn => h.retention.permit _ _ _ (before hu).2 hn⟩

/-! ### How the registers' counts are moved (R34) -/

section Live

variable {s : State} {w : Visit} {d : ℤ}

@[simp] theorem State.addPermitLive_vehicles (s : State) (k : Nat) (d : ℤ) :
    (s.addPermitLive k d).vehicles = s.vehicles := by
  unfold addPermitLive
  split <;> rfl

theorem State.addLive_vehicles (s : State) (w : Visit) (d : ℤ) :
    (s.addLive w d).vehicles = (s.addVehicleLive w.vehicle d).vehicles := by
  unfold addLive
  split <;> simp

theorem State.addPermitLive_permit_get (s : State) (number : Nat) (d : ℤ) (k : Nat) :
    (s.addPermitLive number d).permits.get k =
      if number = k then (s.permits.get k).map (fun p => { p with live := (p.live + d).toNat })
      else s.permits.get k := by
  unfold addPermitLive
  split
  · rename_i h
    split
    · rename_i e
      rw [← e, h]
      rfl
    · rfl
  · rename_i p h
    rw [Table.get_put]
    split
    · rename_i e
      rw [← e, h]
      rfl
    · rfl

theorem State.addVehicleLive_permits (s : State) (k : Nat) (d : ℤ) : (s.addVehicleLive k d).permits = s.permits := by
  unfold addVehicleLive
  split <;> rfl

@[simp] theorem State.addVehicleLive_vt (s : State) (k : Nat) (d : ℤ) : (s.addVehicleLive k d).vt = s.vt := by
  unfold addVehicleLive
  split <;> rfl

@[simp] theorem State.addPermitLive_vt (s : State) (k : Nat) (d : ℤ) : (s.addPermitLive k d).vt = s.vt := by
  unfold addPermitLive
  split <;> rfl

@[simp] theorem State.addLive_vt (s : State) (w : Visit) (d : ℤ) : (s.addLive w d).vt = s.vt := by
  unfold addLive
  split <;> simp

theorem State.addLive_vehicle_get (s : State) (w : Visit) (d : ℤ) (i : Nat) : (s.addLive w d).vehicles.get i =
    if w.vehicle = i then (s.vehicles.get i).map (fun v => { v with live := (v.live + d).toNat })
    else s.vehicles.get i := by
  rw [addLive_vehicles]
  unfold addVehicleLive
  split
  · rename_i h
    split
    · rename_i e
      rw [← e, h]
      rfl
    · rfl
  · rename_i v h
    rw [Table.get_put]
    split
    · rename_i e
      rw [← e, h]
      rfl
    · rfl

theorem State.addLive_permit_get (s : State) (w : Visit) (d : ℤ) (k : Nat) : (s.addLive w d).permits.get k =
    if w.permit = some k then (s.permits.get k).map (fun p => { p with live := (p.live + d).toNat })
    else s.permits.get k := by
  unfold addLive
  split
  · rename_i h
    simp [h, addVehicleLive_permits]
  · rename_i number h
    rw [addPermitLive_permit_get, addVehicleLive_permits, h]
    simp

/-- R34: the registers after a record's live-visit counts have been moved by one, up or down. -/
theorem Moves.of_addLive {s u t : State} {δ : (Visit → ℤ) → ℤ} (tally : ∀ f, t.tally f = s.tally f + δ f)
    (δ_eq : ∀ f, δ f = d * f w) (reserves : w.reservation = 0) (vehicles : u.vehicles = s.vehicles)
    (permits : u.permits = s.permits) (vehicles' : t.vehicles = (u.addLive w d).vehicles)
    (permits' : t.permits = (u.addLive w d).permits)
    (vehicleRoom : ∀ veh, s.vehicles.get w.vehicle = some veh → 0 ≤ veh.live + d)
    (permitRoom : ∀ k p, w.permit = some k → s.permits.get k = some p → 0 ≤ p.live + d) : Moves s t δ where
  tally := tally
  vehicle i veh hv := by
    rw [vehicles', State.addLive_vehicle_get, vehicles, hv]
    by_cases e : w.vehicle = i
    · subst e
      exact ⟨{ veh with live := (veh.live + d).toNat }, by simp, rfl,
        by simpa [δ_eq] using Int.toNat_of_nonneg (vehicleRoom _ hv)⟩
    · exact ⟨veh, by simp [e], rfl, by simp [δ_eq, e]⟩
  vehicle' i hv := by
    rw [vehicles', State.addLive_vehicle_get, vehicles, hv]
    simp
  permit k p hp := by
    rw [permits', State.addLive_permit_get, permits, hp]
    by_cases e : w.permit = some k
    · exact ⟨{ p with live := (p.live + d).toNat }, by simp [e],
        by simpa [δ_eq, e] using Int.toNat_of_nonneg (permitRoom _ _ e hp),
        by simp [δ_eq, e, reserves]⟩
    · exact ⟨p, by simp [e], by simp [δ_eq, e], by simp [δ_eq, e]⟩
  permit' k hp := by
    rw [permits', State.addLive_permit_get, permits, hp]
    simp

end Live

end Sys2Proof.Machine
end

section
/-! What the Visit Table's requests answer: BOOK, AMEND, VOID, RETIRE, TAKE CHANGES and TIP DECLARE, each a case analysis
of its block's reply. -/

namespace Sys2Proof.Machine

/-! ### A request that is taken -/

/-- R193: the step of a request that its block answers with a reply. -/
def replyTo (c : Instr) (r : Reply) : Result := .next (answered r.1 c r.2.1 r.2.2)

@[simp] theorem replyTo_refuse (c : Instr) (s : State) (st : Status) :
    replyTo c (s.refuse st) = .next (answered s c st .empty) := rfl

@[simp] theorem replyTo_done (c : Instr) (s : State) : replyTo c s.done = .next (answered s c .ok .empty) := rfl

theorem request_replies {s : State} {c : Instr} (body : State → Reply) (h : Accepts s c) :
    request c s body = replyTo c (body s) := request_accepted body h

theorem inRange_of {ok : Bool} (h : ok = true) (s : State) (body : State → Reply) : inRange ok s body = body s := by
  rw [h, inRange_true]

theorem inRange_not {ok : Bool} (h : ok = false) (s : State) (body : State → Reply) :
    inRange ok s body = s.refuse .badParameter := by
  rw [h]
  rfl

theorem onRecord_of {found : Option (Nat × Visit)} {slot : Nat} {v : Visit} (h : found = some (slot, v)) (s : State)
    (body : Nat → Visit → State → Reply) : onRecord found s body = body slot v s := by
  rw [h, onRecord_some]

theorem onRecord_not {found : Option (Nat × Visit)} (h : found = none) (s : State)
    (body : Nat → Visit → State → Reply) : onRecord found s body = s.refuse .notFound := by
  rw [h]
  rfl

theorem onLane_not {k : Nat} (h : 4 ≤ k) (s : State) (body : Fin 4 → State → Reply) :
    onLane k s body = s.refuse .badParameter := onLane_of_ge h s body

theorem onUnit_not {k : Nat} (h : 8 ≤ k) (s : State) (body : Fin 8 → State → Reply) :
    onUnit k s body = s.refuse .badParameter := onUnit_of_ge h s body

/-! ### The ranges -/

theorem ticketOk_iff {t : Nat} : ticketOk t = true ↔ 1 ≤ t ∧ t ≤ 99999999 := by
  unfold ticketOk Config.maxTicket
  rw [Bool.and_eq_true, decide_eq_true_eq, decide_eq_true_eq]

theorem ticketOk_eq_false {t : Nat} : ticketOk t = false ↔ t = 0 ∨ 99999999 < t := by
  rw [← Bool.not_eq_true, ticketOk_iff]
  omega

theorem permitOk_iff {k : Nat} : permitOk k = true ↔ 1 ≤ k ∧ k ≤ 65535 := by simp [permitOk]

theorem dayOk_iff {d : Nat} : dayOk d = true ↔ d ≤ 65535 := by simp [dayOk]

theorem flag?_of_gt {u : Nat} (h : 1 < u) : flag? u = none := by
  have h0 : u ≠ 0 := by omega
  have h1 : u ≠ 1 := by omega
  simp [flag?, h0, h1]

theorem VisitKind.ofCode?_eq_none {k : Nat} (h0 : k ≠ 0) (h1 : k ≠ 1) : VisitKind.ofCode? k = none := by
  simp [VisitKind.ofCode?, h0, h1]

/-! ### The operations on the books -/

namespace State

/-- A record written and placed on the Change List. -/
theorem setVisit_touch (s : State) (slot : Nat) (v : Visit) : (s.setVisit slot v).touch slot =
    { s with vt := { s.vt with records := s.vt.records.put slot v, changes := withChange s.vt.changes slot } } := by
  rw [touch_eq]
  rfl

theorem complete_of_absent {s : State} {slot : Nat} (h : slot ∉ s.vt.completion) :
    s.complete slot = { s with vt := { s.vt with completion := s.vt.completion ++ [slot] } } := by
  simp [complete, h]

theorem addVehicleLive_of {s : State} {index : Nat} {veh : Vehicle} (h : s.vehicles.get index = some veh) (d : Int) :
    s.addVehicleLive index d =
      { s with vehicles := s.vehicles.put index { veh with live := (veh.live + d).toNat } } := by
  simp [addVehicleLive, h]

theorem addPermitLive_of {s : State} {number : Nat} {p : Permit} (h : s.permits.get number = some p) (d : Int) :
    s.addPermitLive number d =
      { s with permits := s.permits.put number { p with live := (p.live + d).toNat } } := by
  simp [addPermitLive, h]

/-- R34: the counts of a record that names no permit. -/
theorem addLive_of_none {s : State} {v : Visit} {veh : Vehicle} (hv : s.vehicles.get v.vehicle = some veh)
    (hp : v.permit = none) (d : Int) : s.addLive v d =
      { s with vehicles := s.vehicles.put v.vehicle { veh with live := (veh.live + d).toNat } } := by
  simp [addLive, hp, addVehicleLive_of hv]

/-- R34: the counts of a record that names a permit. -/
theorem addLive_of_some {s : State} {v : Visit} {veh : Vehicle} {number : Nat} {p : Permit}
    (hv : s.vehicles.get v.vehicle = some veh) (hn : v.permit = some number) (hp : s.permits.get number = some p)
    (d : Int) : s.addLive v d = { s with
      vehicles := s.vehicles.put v.vehicle { veh with live := (veh.live + d).toNat }
      permits := s.permits.put number { p with live := (p.live + d).toNat } } := by
  have : (s.addVehicleLive v.vehicle d).permits.get number = some p := by rw [addVehicleLive_permits, hp]
  simp only [addLive, hn, addPermitLive_of this]
  simp [addVehicleLive_of hv]

/-- R24, R25: a record that names no permit leaves the table. -/
theorem removeVisit_of_none {s : State} {slot : Nat} {v : Visit} {veh : Vehicle}
    (hv : s.vehicles.get v.vehicle = some veh) (hp : v.permit = none) : s.removeVisit slot v = { s with
      vt := { s.vt with
        records := s.vt.records.drop slot
        changes := s.vt.changes.filter (· ≠ slot)
        completion := s.vt.completion.filter (· ≠ slot) }
      vehicles := s.vehicles.put v.vehicle { veh with live := veh.live - 1 } } := by
  have : ((veh.live : Int) + -1).toNat = veh.live - 1 := by omega
  simp only [removeVisit]
  rw [addLive_of_none (by exact hv) hp, this]

/-- R24, R25: a record that names a permit leaves the table. -/
theorem removeVisit_of_some {s : State} {slot : Nat} {v : Visit} {veh : Vehicle} {number : Nat} {p : Permit}
    (hv : s.vehicles.get v.vehicle = some veh) (hn : v.permit = some number) (hp : s.permits.get number = some p) :
    s.removeVisit slot v = { s with
      vt := { s.vt with
        records := s.vt.records.drop slot
        changes := s.vt.changes.filter (· ≠ slot)
        completion := s.vt.completion.filter (· ≠ slot) }
      vehicles := s.vehicles.put v.vehicle { veh with live := veh.live - 1 }
      permits := s.permits.put number { p with live := p.live - 1 } } := by
  have : ((veh.live : Int) + -1).toNat = veh.live - 1 := by omega
  have : ((p.live : Int) + -1).toNat = p.live - 1 := by omega
  simp only [removeVisit]
  rw [addLive_of_some (by exact hv) hn (by exact hp)]
  simp [*]

end State

/-! ### BOOK (R14) -/

section Book

variable {s : State} {tag : Tag} {kind permit useTare day : Nat}

theorem exec_book_tip (h : Accepts s (.book tag 0 permit useTare day)) (hp : 1 ≤ permit ∧ permit ≤ 65535)
    (hu : useTare ≤ 1) (hd : day ≤ 65535) : exec (.book tag 0 permit useTare day) s =
      replyTo (.book tag 0 permit useTare day)
        (s.bookVisit tag .tip (some permit) (decide (useTare = 1)) day) := by
  show execBook _ _ _ _ _ s = _
  refine (request_replies _ h).trans ?_
  simp [VisitKind.ofCode?, flag?_of_le hu, State.bookingPermit?, permitOk_iff.mpr hp, dayOk_iff.mpr hd]

theorem exec_book_load (h : Accepts s (.book tag 1 0 useTare day)) (hu : useTare ≤ 1) (hd : day ≤ 65535) :
    exec (.book tag 1 0 useTare day) s =
      replyTo (.book tag 1 0 useTare day) (s.bookVisit tag .load none (decide (useTare = 1)) day) := by
  show execBook _ _ _ _ _ s = _
  refine (request_replies _ h).trans ?_
  simp [VisitKind.ofCode?, flag?_of_le hu, State.bookingPermit?, dayOk_iff.mpr hd]

theorem exec_book_outOfRange (h : Accepts s (.book tag kind permit useTare day))
    (hr : ¬ (useTare ≤ 1 ∧ day ≤ 65535 ∧ ((kind = 0 ∧ 1 ≤ permit ∧ permit ≤ 65535) ∨ (kind = 1 ∧ permit = 0)))) :
    exec (.book tag kind permit useTare day) s =
      .next (answered s (.book tag kind permit useTare day) .badParameter .empty) := by
  show execBook _ _ _ _ _ s = _
  refine (request_replies _ h).trans ?_
  by_cases hu : useTare ≤ 1
  · by_cases hd : day ≤ 65535
    · have hk : ¬ ((kind = 0 ∧ 1 ≤ permit ∧ permit ≤ 65535) ∨ (kind = 1 ∧ permit = 0)) := fun hk => hr ⟨hu, hd, hk⟩
      rcases Nat.eq_zero_or_pos kind with rfl | h0
      · have : permitOk permit = false := by
          rw [← Bool.not_eq_true, permitOk_iff]
          tauto
        simp [VisitKind.ofCode?, flag?_of_le hu, State.bookingPermit?, this]
      · by_cases h1 : kind = 1
        · have : permit ≠ 0 := by tauto
          simp [h1, VisitKind.ofCode?, flag?_of_le hu, State.bookingPermit?, this]
        · simp [VisitKind.ofCode?_eq_none (Nat.ne_of_gt h0) h1]
    · have : dayOk day = false := by simp [dayOk, hd]
      rcases kindCode : VisitKind.ofCode? kind with _ | k
      · simp
      · simp only [flag?_of_le hu]
        cases State.bookingPermit? k permit <;> simp [this, inRange_not]
  · simp only [flag?_of_gt (Nat.not_le.mp hu)]
    cases VisitKind.ofCode? kind <;> simp

/-- R14: the refusals of BOOK with its parameters in range. -/
theorem bookVisit_refuses (s : State) (tag : Tag) (kind : VisitKind) (permit : Option Nat) (useTare : Bool)
    (day : Nat) :
    (s.vehicleByTag tag = none ∨ s.permitMissing permit = true →
      s.bookVisit tag kind permit useTare day = s.refuse .notFound) ∧
    (s.vehicleByTag tag ≠ none → s.permitMissing permit = false → (s.byTagBooked tag).isSome = true →
      s.bookVisit tag kind permit useTare day = s.refuse .exists) ∧
    (s.vehicleByTag tag ≠ none → s.permitMissing permit = false → s.byTagBooked tag = none →
      s.vt.records.lowestFree 192 = none → s.bookVisit tag kind permit useTare day = s.refuse .tableFull) := by
  unfold State.bookVisit
  cases s.vehicleByTag tag with
  | none => simp
  | some e =>
    refine ⟨fun h => ?_, fun _ hp hb => ?_, fun _ hp hb hf => ?_⟩
    · rcases h with h | h
      · cases h
      · simp [h]
    · simp [hp, hb]
    · simp [hp, hb, Config.visitSlots, hf]

/-- R14: BOOK creates the record in the lowest free slot, and counts it at what it names. -/
theorem bookVisit_books {s : State} {tag : Tag} {index slot : Nat} {veh : Vehicle} {permit : Option Nat}
    (kind : VisitKind) (useTare : Bool) (day : Nat) (hv : s.vehicleByTag tag = some (index, veh))
    (hp : s.permitMissing permit = false) (hb : s.byTagBooked tag = none)
    (hf : s.vt.records.lowestFree 192 = some slot) :
    let v := newVisit kind tag index permit useTare (some day)
    s.bookVisit tag kind permit useTare day = (((s.addLive v 1).setVisit slot v).touch slot, .ok, .handle slot) := by
  simp [State.bookVisit, hv, hp, hb, Config.visitSlots, hf]

end Book

/-- Settles O8: BOOK's parameters are judged first, then the refusals of `bookVisit_refuses` in order; a booking that is
taken is written with its counts. -/
theorem bookCreatesBooking : Obligations.BookCreatesBooking := by
  unfold Obligations.BookCreatesBooking
  refine ⟨?_, ?_⟩
  · intro s tag kind permit useTare day index slot veh h tables hu hd hv hb hf
    have hveh := (State.vehicleByTag_get tables.vehicles hv).1
    have up (k : Nat) : ((k : Int) + 1).toNat = k + 1 := by omega
    refine ⟨?_, ?_⟩
    · rintro p rfl h1 h2 hp
      rw [exec_book_tip h ⟨h1, h2⟩ hu hd,
        bookVisit_books .tip _ day hv (by simp [State.permitMissing, hp]) hb hf, State.setVisit_touch,
        State.addLive_of_some (by exact hveh) rfl hp]
      simp only [up]
      rfl
    · rintro rfl rfl
      rw [exec_book_load h hu hd, bookVisit_books .load _ day hv rfl hb hf, State.setVisit_touch,
        State.addLive_of_none (by exact hveh) rfl]
      simp only [up]
      rfl
  · intro s tag kind permit useTare day c inRange missing h
    refine ⟨exec_book_outOfRange h, ?_⟩
    have reply (hr : inRange) : ∃ k p, exec c s = replyTo c (s.bookVisit tag k p (decide (useTare = 1)) day) ∧
        (s.permitMissing p = true ↔ kind = 0 ∧ s.permits.get permit = none) := by
      obtain ⟨hu, hd, ⟨rfl, hp⟩ | ⟨rfl, rfl⟩⟩ := hr
      · exact ⟨_, _, exec_book_tip h hp hu hd, by simp [State.permitMissing]⟩
      · exact ⟨_, _, exec_book_load h hu hd, by simp [State.permitMissing]⟩
    have present {p : Option Nat} (hm : ¬ missing)
        (hp : s.permitMissing p = true ↔ kind = 0 ∧ s.permits.get permit = none) :
        s.vehicleByTag tag ≠ none ∧ s.permitMissing p = false := by
      refine ⟨fun hv => hm (.inl hv), Bool.eq_false_iff.mpr fun hn => hm (.inr (hp.mp hn))⟩
    refine ⟨fun hr hm => ?_, fun hr hm hb => ?_, fun hr hm hb hf => ?_⟩
    · obtain ⟨k, p, e, hp⟩ := reply hr
      rw [e, (bookVisit_refuses s tag k p _ day).1 (hm.imp id hp.mpr), replyTo_refuse]
    · obtain ⟨k, p, e, hp⟩ := reply hr
      obtain ⟨hv, hn⟩ := present hm hp
      rw [e, (bookVisit_refuses s tag k p _ day).2.1 hv hn hb, replyTo_refuse]
    · obtain ⟨k, p, e, hp⟩ := reply hr
      obtain ⟨hv, hn⟩ := present hm hp
      rw [e, (bookVisit_refuses s tag k p _ day).2.2 hv hn hb hf, replyTo_refuse]

/-! ### AMEND (R15) -/

/-- Settles O10: the record's state decides what AMEND writes. -/
theorem amendReplacesTheFieldsOfItsState : Obligations.AmendReplacesTheFieldsOfItsState := by
  unfold Obligations.AmendReplacesTheFieldsOfItsState
  intro s name useTare day slot v h hn hu hd found
  have reply : exec (.amend name useTare day) s =
      replyTo (.amend name useTare day) (s.amendVisit slot v (decide (useTare = 1)) day) := by
    show execAmend _ _ _ s = _
    refine (request_replies _ h).trans ?_
    simp [hn, dayOk_iff.mpr hd, flag?_of_le hu, found]
  rw [reply]
  refine ⟨fun hs => ?_, fun hs => ?_, fun hb hy => ?_⟩
  · simp only [State.amendVisit, hs, State.setVisit_touch, replyTo_done]
  · simp only [State.amendVisit, hs, State.setVisit_touch, replyTo_done]
  · unfold State.amendVisit
    split <;> simp_all

/-! ### RETIRE and TAKE CHANGES (R25, R26) -/

theorem Visit.finished_iff (v : Visit) : v.finished = true ↔ v.state = .done ∨ (v.state = .void ∧
    v.inYard = false) := by
  simp [finished]

/-- Settles O13: RETIRE removes a finished record with its counts; TAKE CHANGES takes what it names off the list. -/
theorem retireFreesTheSlot : Obligations.RetireFreesTheSlot := by
  unfold Obligations.RetireFreesTheSlot
  refine ⟨?_, ?_, fun s h => ?takeChanges⟩
  case takeChanges =>
    show execTakeChanges s = _
    exact request_replies _ h
  · intro s ticket slot v h h1 h2 found
    have reply : exec (.retire ticket) s = replyTo (.retire ticket) (s.retireVisit slot v) := by
      show execRetire _ s = _
      refine (request_replies _ h).trans ?_
      rw [inRange_of (ticketOk_iff.mpr ⟨h1, h2⟩), onRecord_of found]
    rw [reply]
    refine ⟨fun veh number p hf hv hn hp => ?_, fun veh hf hv hn => ?_, fun hd hv => ?_⟩
    · simp only [State.retireVisit, (Visit.finished_iff v).mpr hf, if_true, State.removeVisit_of_some hv hn hp,
        replyTo_done]
    · simp only [State.retireVisit, (Visit.finished_iff v).mpr hf, if_true, State.removeVisit_of_none hv hn,
        replyTo_done]
    · have : v.finished = false := by
        rw [← Bool.not_eq_true, Visit.finished_iff]
        simp only [hd, false_or, not_and, Bool.not_eq_false]
        exact fun hs => hv.resolve_left (fun hne => hne hs)
      simp [State.retireVisit, this]
  · intro s ticket h
    refine ⟨fun hr => ?_, fun h1 h2 found => ?_⟩
    · show execRetire _ s = _
      refine (request_replies _ h).trans ?_
      rw [inRange_not (ticketOk_eq_false.mpr hr), replyTo_refuse]
    · show execRetire _ s = _
      refine (request_replies _ h).trans ?_
      rw [inRange_of (ticketOk_iff.mpr ⟨h1, h2⟩), onRecord_not found, replyTo_refuse]

/-! ### TIP DECLARE (R20) -/

/-- R4: a tip goes between those of the earlier intervals and those of the later ones. -/
theorem placeTip_append (t : Tip) (before after : List Tip) (hb : ∀ u ∈ before, u.interval < t.interval)
    (ha : ∀ u ∈ after, t.interval < u.interval) : State.placeTip t (before ++ after) = before ++ t :: after := by
  induction before with
  | nil =>
    cases after with
    | nil => rfl
    | cons u rest => simp [State.placeTip, ha u (by simp)]
  | cons u rest ih =>
    have hu : ¬ t.interval < u.interval := Nat.not_lt.mpr (Nat.le_of_lt (hb u (by simp)))
    simp only [List.cons_append, State.placeTip, hu, if_false]
    rw [ih fun w hw => hb w (List.mem_cons_of_mem _ hw)]

/-- Settles O14: the refusals of TIP DECLARE in the order of `declareTip`'s branches, and the tip placed. -/
theorem tipDeclarePlacesATip : Obligations.TipDeclarePlacesATip := by
  unfold Obligations.TipDeclarePlacesATip
  intro s ticket category c inRange h
  have range : (ticketOk ticket && decide (category ≤ 31)) = true ↔ inRange := by
    rw [Bool.and_eq_true, ticketOk_iff, decide_eq_true_eq, and_assoc]
  have reply {slot : Nat} {v : Visit} (hr : inRange) (found : s.byTicket ticket = some (slot, v)) :
      exec c s = replyTo c (s.declareTip slot v category) := by
    show execTipDeclare _ _ s = _
    refine (request_replies _ h).trans ?_
    rw [inRange_of (range.mpr hr), onRecord_of found]
  refine ⟨fun hr => ?_, fun hr found => ?_, fun slot v hr found hs => ?_, ?_⟩
  · show execTipDeclare _ _ s = _
    refine (request_replies _ h).trans ?_
    rw [inRange_not (Bool.eq_false_iff.mpr fun hn => hr (range.mp hn)), replyTo_refuse]
  · show execTipDeclare _ _ s = _
    refine (request_replies _ h).trans ?_
    rw [inRange_of (range.mpr hr), onRecord_not found, replyTo_refuse]
  · rw [reply hr found]
    simp [State.declareTip, hs]
  · intro slot v number p hr found kind state hn hp k
    have allowed : s.categoryAllowed v category = p.allowed.getLsbD category := by
      simp [State.categoryAllowed, hn, hp]
    have counted : v.countedWeighings.length = k := rfl
    rw [reply hr found]
    unfold State.declareTip
    simp only [kind, state, allowed, counted, Config.weighingPlaces, reduceCtorEq, false_or, ne_eq,
      not_true_eq_false, if_false]
    refine ⟨fun ha => by simp [ha], fun ha => ⟨fun h0 => by simp [ha, h0], fun h6 => by simp [ha, h6],
      fun h0 h6 ht => ?_, fun before after h0 h6 ht hb hc => ?_⟩⟩
    · have : v.tips.any (fun t => decide (t.interval = k)) = true := by simpa using ht
      simp [ha, h0, h6, this]
    · have : v.tips.any (fun t => decide (t.interval = k)) = false := by
        rw [ht, List.any_eq_false]
        intro t hm
        rcases List.mem_append.mp hm with hm | hm
        · simpa using Nat.ne_of_lt (hb t hm)
        · simpa using (Nat.ne_of_lt (hc t hm)).symm
      simp only [ha, h0, h6, this, if_false, Bool.not_true, Bool.false_eq_true, State.setVisit_touch, replyTo_done]
      rw [ht, placeTip_append _ before after hb hc]

end Sys2Proof.Machine
end

section
/-! A change made once at each lane, the end of a watch (R176), and VOID. -/

namespace Sys2Proof.Machine

/-! ### A change made once at each lane -/

theorem forLanes_eq (f : Fin 4 → State → State) (s : State) : forLanes f s = f 3 (f 2 (f 1 (f 0 s))) := rfl

/-- What stands at lane `n` after a change made at each lane, where a change at a lane moves what stands there alone and
looks at nothing else of what is viewed. -/
theorem forLanes_view {α : Type} {f : Fin 4 → State → State} (view : Fin 4 → State → α)
    (other : ∀ {m n : Fin 4} (s : State), m ≠ n → view m (f n s) = view m s)
    (own : ∀ {n : Fin 4} {s t : State}, view n s = view n t → view n (f n s) = view n (f n t)) (n : Fin 4) (s : State) :
    view n (forLanes f s) = view n (f n s) := by
  rw [forLanes_eq]
  fin_cases n
  · exact (other _ (by decide)).trans ((other _ (by decide)).trans (other _ (by decide)))
  · rw [other _ (by decide), other _ (by decide)]
    exact own (other s (by decide))
  · rw [other _ (by decide)]
    exact own ((other _ (by decide)).trans (other s (by decide)))
  · exact own ((other _ (by decide)).trans ((other _ (by decide)).trans (other s (by decide))))

theorem State.lane_setLane_of_ne (s : State) {n m : Fin 4} (x : Lane) (h : m ≠ n) :
    (s.setLane n x).lane m = s.lane m := by
  rw [lane_setLane, if_neg h.symm]

theorem State.barrier_setBarrier_of_ne (s : State) {n m : Fin 4} (x : Barrier) (h : m ≠ n) :
    (s.setBarrier n x).barrier m = s.barrier m := by
  rw [barrier_setBarrier, if_neg h.symm]

/-! ### The end of a watch (R176) -/

/-- R176: lane `n` stops watching for the visit of a ticket. -/
def State.stopWatch (s : State) (n : Fin 4) (t : Nat) : State :=
  if (s.lane n).state = .releasing ∧ (s.lane n).heldVisit = some t then
    (s.setLane n { s.lane n with heldVisit := none, display := ⟨.welcome, 0⟩ }).setBarrier n
      { s.barrier n with tracking := .inactive }
  else s

theorem State.endTracking_some (s : State) (t : Nat) :
    s.endTracking (some t) = forLanes (fun n s => s.stopWatch n t) s := rfl

/-- A lane and its barrier. -/
def State.gateAt (s : State) (n : Fin 4) : Lane × Barrier := (s.lane n, s.barrier n)

theorem State.stopWatch_gateAt_of_ne (s : State) {m n : Fin 4} (t : Nat) (h : m ≠ n) :
    (s.stopWatch n t).gateAt m = s.gateAt m := by
  unfold stopWatch gateAt
  split
  · simp [lane_setLane_of_ne _ _ h, barrier_setBarrier_of_ne _ _ h]
  · rfl

/-- R176: lane `n` and its barrier after the end of a watch. -/
def stopped (g : Lane × Barrier) (t : Nat) : Lane × Barrier :=
  if g.1.state = .releasing ∧ g.1.heldVisit = some t then
    ({ g.1 with heldVisit := none, display := ⟨.welcome, 0⟩ }, { g.2 with tracking := .inactive })
  else g

theorem State.stopWatch_gateAt (s : State) (n : Fin 4) (t : Nat) :
    (s.stopWatch n t).gateAt n = stopped (s.gateAt n) t := by
  unfold stopWatch stopped gateAt
  split <;> simp [*]

theorem State.endTracking_gateAt (s : State) (t : Nat) (n : Fin 4) :
    (s.endTracking (some t)).gateAt n = stopped (s.gateAt n) t := by
  rw [endTracking_some, forLanes_view (fun n s => s.gateAt n) (fun s h => s.stopWatch_gateAt_of_ne t h),
      stopWatch_gateAt]
  intro n s u h
  simp only [stopWatch_gateAt, h]

/-- R176: after the end of a watch each lane has stopped watching for the visit, and nothing else has changed. -/
theorem State.endTracking_stops (s : State) (ticket : Option Nat) (n : Fin 4) :
    StopsWatching s (s.endTracking ticket) n ticket := by
  cases ticket with
  | none => exact ⟨fun h => absurd rfl h.1, fun _ => ⟨rfl, rfl⟩⟩
  | some t =>
    have h := s.endTracking_gateAt t n
    refine ⟨fun ⟨_, hs, hw⟩ => ?_, fun hn => ?_⟩
    · rw [stopped, if_pos ⟨hs, hw⟩] at h
      exact Prod.mk.inj h
    · have unwatched : ¬ ((s.gateAt n).1.state = .releasing ∧ (s.gateAt n).1.heldVisit = some t) :=
        fun hw => hn ⟨Option.some_ne_none t, hw⟩
      rw [stopped, if_neg unwatched] at h
      exact Prod.mk.inj h

theorem State.endTracking_eq (s : State) (ticket : Option Nat) : s.endTracking ticket =
    { s with lanes := (s.endTracking ticket).lanes, barriers := (s.endTracking ticket).barriers } := by
  cases ticket with
  | none => rfl
  | some t =>
    rw [endTracking_some]
    refine forLanes_keeps (fun u => u = { s with lanes := u.lanes, barriers := u.barriers }) (fun n u hu => ?_) rfl
    unfold stopWatch
    split
    · rw [hu]
      rfl
    · exact hu

/-- What stops a watch depends on the lanes and the barriers alone. -/
theorem StopsWatching.congr {s t u : State} {n : Fin 4} {ticket : Option Nat} (h : StopsWatching s t n ticket)
    (lanes : u.lanes = t.lanes) (barriers : u.barriers = t.barriers) : StopsWatching s u n ticket := by
  have hl : u.lane n = t.lane n := by rw [State.lane, lanes, State.lane]
  have hb : u.barrier n = t.barrier n := by rw [State.barrier, barriers, State.barrier]
  exact ⟨fun hw => by rw [hl, hb]; exact h.1 hw, fun hw => by rw [hl, hb]; exact h.2 hw⟩

/-! ### VOID (R24, R177) -/

theorem Visit.hasHandle_iff (v : Visit) :
    v.hasHandle = true ↔ v.state = .booked ∨ (v.state = .held ∧ v.prior = some .booked) := by
  simp [hasHandle]

theorem exec_void {s : State} {name : RecordName} {slot : Nat} {v : Visit} (h : Accepts s (.voidVisit name))
    (hn : RecordName.inRange name = true) (found : s.byName name = some (slot, v)) :
    exec (.voidVisit name) s = replyTo (.voidVisit name) (s.voidRecord slot v) := by
  show execVoid name s = _
  refine (request_replies _ h).trans ?_
  rw [inRange_of hn, onRecord_of found]

theorem State.addReserved_of {s : State} {number : Nat} {p : Permit} (h : s.permits.get number = some p) (kg : Int) :
    s.addReserved number kg = { s with permits := s.permits.put number { p with reserved := p.reserved + kg } } := by
  simp [addReserved, h]

/-- R24: the permits after the reservation of a record has been given back. -/
def State.unreserved (s : State) (v : Visit) : Table Permit :=
  match v.permit with
  | none => s.permits
  | some number => (s.addReserved number (-v.reservation)).permits

theorem State.unreserved_of_none {s : State} {v : Visit} (h : v.permit = none) : s.unreserved v = s.permits := by
  simp [unreserved, h]

theorem State.unreserved_of_some {s : State} {v : Visit} {number : Nat} {p : Permit} (hn : v.permit = some number)
    (hp : s.permits.get number = some p) :
    s.unreserved v = s.permits.put number { p with reserved := p.reserved - v.reservation } := by
  simp [unreserved, hn, addReserved_of hp, Int.sub_eq_add_neg]

theorem State.addReserved_permits {s t : State} (h : s.permits = t.permits) (number : Nat) (kg : Int) :
    s.addReserved number kg = { s with permits := (t.addReserved number kg).permits } := by
  unfold addReserved
  rw [h]
  split
  · rw [← h]
  · rfl

theorem State.voidLive_eq (s : State) (slot : Nat) (v : Visit) (h : slot ∉ s.vt.completion) :
    s.voidLive slot v = { s with
    vt := { s.vt with
      records := s.vt.records.put slot (voidedVisit v)
      changes := withChange s.vt.changes slot
      completion := if v.inYard then s.vt.completion else s.vt.completion ++ [slot] }
    permits := s.unreserved v
    lanes := (s.endTracking v.ticket).lanes, barriers := (s.endTracking v.ticket).barriers } := by
  have watched := s.endTracking_eq v.ticket
  have kept : (s.endTracking v.ticket).permits = s.permits := by rw [watched]
  unfold voidLive unreserved
  cases hp : v.permit with
  | none =>
    simp only [setVisit_touch]
    split
    · rw [watched]
    · rw [complete_of_absent (by rw [watched]; exact h)]
      simp only
      rw [watched]
  | some number =>
    simp only [setVisit_touch, addReserved_permits kept]
    split
    · rw [watched]
    · rw [complete_of_absent (by rw [watched]; exact h)]
      simp only
      rw [watched]

theorem State.kept_permits {s : State} {v : Visit} {veh : Vehicle} (hv : s.vehicles.get v.vehicle = some veh)
    (hp : v.permit = none) : (s.addLive v (-1)).permits = s.permits := by
  rw [addLive_of_none hv hp]

theorem State.lowered_permits {s : State} {v : Visit} {veh : Vehicle} {number : Nat} {p : Permit}
    (hv : s.vehicles.get v.vehicle = some veh) (hn : v.permit = some number) (hp : s.permits.get number = some p) :
    (s.addLive v (-1)).permits = s.permits.put number { p with live := p.live - 1 } := by
  have : ((p.live : Int) + -1).toNat = p.live - 1 := by omega
  rw [addLive_of_some hv hn hp, this]

/-- R24, R34: a record leaves the table: its vehicle counts one visit less, and the permits stand as `addLive` leaves
them. -/
theorem State.removeVisit_of_vehicle {s : State} {slot : Nat} {v : Visit} {veh : Vehicle}
    (hv : s.vehicles.get v.vehicle = some veh) : s.removeVisit slot v = { s with
      vt := { s.vt with
        records := s.vt.records.drop slot
        changes := s.vt.changes.filter (· ≠ slot)
        completion := s.vt.completion.filter (· ≠ slot) }
      vehicles := s.vehicles.put v.vehicle { veh with live := veh.live - 1 }
      permits := (s.addLive v (-1)).permits } := by
  cases hn : v.permit with
  | none => rw [removeVisit_of_none hv hn, addLive_of_none hv hn]
  | some number =>
    cases hp : s.permits.get number with
    | some p =>
      rw [removeVisit_of_some hv hn hp, lowered_permits hv hn hp]
    | none =>
      have : ((veh.live : Int) + -1).toNat = veh.live - 1 := by omega
      simp [removeVisit, addLive, hn, addVehicleLive, hv, addPermitLive, hp, this]

/-- Settles O12: a record that a handle names leaves the table, another one IN_YARD or HELD is made VOID, and every other
is refused. -/
theorem voidCancelsTheVisit : Obligations.VoidCancelsTheVisit := by
  unfold Obligations.VoidCancelsTheVisit
  intro s name slot v h hn found
  rw [exec_void h hn found]
  refine ⟨fun live absent => ?_, fun handle veh hv => ?_, fun busy => ?_⟩
  · have noHandle : v.hasHandle = false := by
      rw [← Bool.not_eq_true, Visit.hasHandle_iff]
      rcases live with hs | ⟨hs, hp⟩ <;> simp [*]
    have standing : v.state = .inYard ∨ v.state = .held := live.imp id And.left
    have reply : s.voidRecord slot v = (s.voidLive slot v).done := by
      simp [State.voidRecord, noHandle, standing]
    rw [reply, replyTo_done, s.voidLive_eq slot v absent]
    exact ⟨_, rfl, rfl, State.unreserved_of_none, fun number p => State.unreserved_of_some,
      fun n => (s.endTracking_stops v.ticket n).congr rfl rfl⟩
  · have reply : s.voidRecord slot v = (s.removeVisit slot v).done := by
      simp [State.voidRecord, (Visit.hasHandle_iff v).mpr handle]
    rw [reply, replyTo_done]
    rw [State.removeVisit_of_vehicle hv]
    exact ⟨_, rfl, rfl, fun hp => State.kept_permits hv hp,
      fun number p hp hq => State.lowered_permits hv hp hq⟩
  · have noHandle : v.hasHandle = false := by
      rw [← Bool.not_eq_true, Visit.hasHandle_iff]
      rcases busy with hs | hs | hs | hs | hs | hs <;> simp [hs]
    have : ¬ (v.state = .inYard ∨ v.state = .held) := by
      rcases busy with hs | hs | hs | hs | hs | hs <;> simp [hs]
    simp [State.voidRecord, noHandle, this]

end Sys2Proof.Machine
end

section
/-! What the requests of the Vehicle Register and the Permit Table answer, and the requests that read. -/

namespace Sys2Proof.Machine

/-! ### VEHICLE PUT (R29, R30) -/

section VehiclePut

variable {s : State} {tag : Tag} {permit groups refresh banned : Nat} {payload : Int} {x : TareParam}

/-- R30: the entry a VEHICLE PUT names, but for its stored tare and its live visits. -/
def putEntry (tag : Tag) (permit : Nat) (payload : Int) (groups refresh banned : Nat) : Vehicle :=
  { tag := tag, defaultPermit := if permit = 0 then none else some permit, payload := payload
    axleGroups := groups, tare := none, refresh := decide (refresh = 1), banned := decide (banned = 1), live := 0 }

/-- R29: the numbers of the stored tare are in their ranges. -/
def TareInRange (x : TareParam) : Prop := ∀ kg day validity, x = .weight kg day validity →
  0 ≤ kg ∧ kg ≤ 200000 ∧ day ≤ 65535 ∧ validity ≤ 3650

theorem tareParamOk_iff (x : TareParam) : State.tareParamOk x = true ↔ TareInRange x := by
  unfold TareInRange
  cases x with
  | none => simp [State.tareParamOk]
  | keep => simp [State.tareParamOk]
  | weight kg day validity =>
    simp only [State.tareParamOk, dayOk, Bool.and_eq_true, decide_eq_true_eq, TareParam.weight.injEq, and_imp]
    constructor
    · rintro ⟨⟨⟨h0, h1⟩, h2⟩, h3⟩ _ _ _ rfl rfl rfl
      exact ⟨h0, h1, h2, h3⟩
    · intro h
      obtain ⟨h0, h1, h2, h3⟩ := h _ _ _ rfl rfl rfl
      exact ⟨⟨⟨h0, h1⟩, h2⟩, h3⟩

theorem vehicleRanges_iff : vehicleRanges permit payload groups x = true ↔
    permit ≤ 65535 ∧ 1 ≤ payload ∧ payload ≤ 200000 ∧ groups ≤ 8 ∧ TareInRange x := by
  simp only [vehicleRanges, Bool.and_eq_true, decide_eq_true_eq, tareParamOk_iff, and_assoc]

theorem exec_vehiclePut (h : Accepts s (.vehiclePut tag permit payload groups refresh banned x))
    (hv : vehicleRanges permit payload groups x = true) (hr : refresh ≤ 1) (hb : banned ≤ 1) :
    exec (.vehiclePut tag permit payload groups refresh banned x) s =
      replyTo (.vehiclePut tag permit payload groups refresh banned x)
        (s.putVehicle (putEntry tag permit payload groups refresh banned) x) := by
  show execVehiclePut _ _ _ _ _ _ _ s = _
  refine (request_replies _ h).trans ?_
  simp only [flag?_of_le hr, flag?_of_le hb, inRange_of hv]
  rfl

theorem exec_vehiclePut_outOfRange (h : Accepts s (.vehiclePut tag permit payload groups refresh banned x))
    (hn : ¬ (vehicleRanges permit payload groups x = true ∧ refresh ≤ 1 ∧ banned ≤ 1)) :
    exec (.vehiclePut tag permit payload groups refresh banned x) s =
      .next (answered s (.vehiclePut tag permit payload groups refresh banned x) .badParameter .empty) := by
  show execVehiclePut _ _ _ _ _ _ _ s = _
  refine (request_replies _ h).trans ?_
  by_cases hr : refresh ≤ 1
  · by_cases hb : banned ≤ 1
    · have hv : vehicleRanges permit payload groups x = false :=
        Bool.eq_false_iff.mpr fun hv => hn ⟨hv, hr, hb⟩
      simp only [flag?_of_le hr, flag?_of_le hb, inRange_not hv, replyTo_refuse]
    · simp only [flag?_of_le hr, flag?_of_gt (Nat.not_le.mp hb), replyTo_refuse]
  · simp only [flag?_of_gt (Nat.not_le.mp hr), replyTo_refuse]

/-- R30: VEHICLE PUT of a tag that has an entry. -/
theorem putVehicle_known {s : State} {veh old : Vehicle} {index : Nat} (x : TareParam)
    (h : s.vehicleByTag veh.tag = some (index, old)) :
    (veh.refresh = true ∧ State.putTare old.tare x = none → s.putVehicle veh x = s.refuse .badParameter) ∧
    (¬ (veh.refresh = true ∧ State.putTare old.tare x = none) → s.putVehicle veh x =
      ({ s with vehicles := s.vehicles.put index { veh with tare := State.putTare old.tare x, live := old.live } },
        .ok, .vehiclePut index false)) := by
  unfold State.putVehicle
  rw [h]
  exact ⟨fun hc => if_pos hc, fun hc => if_neg hc⟩

/-- R30: VEHICLE PUT of a tag that has no entry. -/
theorem putVehicle_new {s : State} {veh : Vehicle} (x : TareParam) (h : s.vehicleByTag veh.tag = none) :
    (veh.refresh = true ∧ State.putTare none x = none → s.putVehicle veh x = s.refuse .badParameter) ∧
    (¬ (veh.refresh = true ∧ State.putTare none x = none) →
      (s.vehicles.lowestFree 1024 = none → s.putVehicle veh x = s.refuse .tableFull) ∧
      ∀ index, s.vehicles.lowestFree 1024 = some index → s.putVehicle veh x =
        ({ s with vehicles := s.vehicles.put index { veh with tare := State.putTare none x, live := 0 } }, .ok,
          .vehiclePut index true)) := by
  unfold State.putVehicle Config.vehiclePositions
  rw [h]
  refine ⟨fun hc => if_pos hc, fun hc => ⟨fun hf => ?_, fun index hf => ?_⟩⟩
  · simp only [if_neg hc, hf]
  · simp only [if_neg hc, hf]

/-- Settles O18: the ranges first, then the two forms of the request by whether the tag has an entry. -/
theorem vehiclePutWritesTheEntry : Obligations.VehiclePutWritesTheEntry := by
  unfold Obligations.VehiclePutWritesTheEntry
  intro s tag permit groups refresh banned payload x c inRange tare entry h
  have range : inRange ↔ vehicleRanges permit payload groups x = true ∧ refresh ≤ 1 ∧ banned ≤ 1 := by
    rw [vehicleRanges_iff]
    simp only [inRange, TareInRange]
    tauto
  have put (before : Option Tare) : tare before = State.putTare before x := by
    simp only [tare]
    cases x <;> rfl
  have reply (hr : inRange) : exec c s = replyTo c
      (s.putVehicle (putEntry tag permit payload groups refresh banned) x) := by
    obtain ⟨hv, hr, hb⟩ := range.mp hr
    exact exec_vehiclePut h hv hr hb
  have needs {before : Option Tare} (hr : refresh = 1) (ht : tare before = none) :
      (putEntry tag permit payload groups refresh banned).refresh = true ∧ State.putTare before x = none :=
    ⟨by simp [putEntry, hr], by rw [← put]; exact ht⟩
  have given {before : Option Tare} (ht : refresh = 0 ∨ tare before ≠ none) :
      ¬ ((putEntry tag permit payload groups refresh banned).refresh = true ∧ State.putTare before x = none) := by
    rw [← put]
    rintro ⟨hr, hn⟩
    have hr : refresh = 1 := by simpa [putEntry] using hr
    rcases ht with ht | ht
    · omega
    · exact ht hn
  refine ⟨fun hn => exec_vehiclePut_outOfRange h fun hr => hn (range.mpr hr), fun index old hr known => ?_,
    fun hr unknown => ?_⟩
  · rw [reply hr]
    refine ⟨fun h1 ht => ?_, fun ht => ?_⟩
    · rw [(putVehicle_known x known).1 (needs h1 ht), replyTo_refuse]
    · rw [(putVehicle_known x known).2 (given ht)]
      simp only [entry, put]
      rfl
  · rw [reply hr]
    refine ⟨fun h1 ht => ?_, fun ht => ⟨fun hf => ?_, fun index hf => ?_⟩⟩
    · rw [(putVehicle_new x unknown).1 (needs h1 ht), replyTo_refuse]
    · rw [((putVehicle_new x unknown).2 (given ht)).1 hf, replyTo_refuse]
    · rw [((putVehicle_new x unknown).2 (given ht)).2 index hf]
      simp only [entry, put]
      rfl

end VehiclePut

/-! ### The Permit Table's requests (R42, R43, R45) -/

theorem permitOk_eq_false {k : Nat} : permitOk k = false ↔ k = 0 ∨ 65535 < k := by
  rw [← Bool.not_eq_true, permitOk_iff]
  omega

theorem exec_permitAdjust {s : State} {number : Nat} {amount : Int} (h : Accepts s (.permitAdjust number amount)) :
    exec (.permitAdjust number amount) s = replyTo (.permitAdjust number amount)
      (inRange (permitOk number && decide (amount.natAbs ≤ 2000000000)) s (fun s => s.adjustPermit number amount)) :=
  show execPermitAdjust number amount s = _ from request_replies _ h

theorem exec_permitSuspend {s : State} {number : Nat} (h : Accepts s (.permitSuspend number)) :
    exec (.permitSuspend number) s = replyTo (.permitSuspend number)
      (inRange (permitOk number) s (fun s => s.markPermit number .suspended)) :=
  show execPermitSuspend number s = _ from request_replies _ h

theorem exec_permitResume {s : State} {number : Nat} (h : Accepts s (.permitResume number)) :
    exec (.permitResume number) s = replyTo (.permitResume number)
      (inRange (permitOk number) s (fun s => s.markPermit number .active)) :=
  show execPermitResume number s = _ from request_replies _ h

theorem exec_permitDrop {s : State} {number : Nat} (h : Accepts s (.permitDrop number)) :
    exec (.permitDrop number) s = replyTo (.permitDrop number)
      (inRange (permitOk number) s (fun s => s.dropPermit number)) :=
  show execPermitDrop number s = _ from request_replies _ h

theorem exec_permitGet {s : State} {name : PermitName} (h : Accepts s (.permitGet name)) :
    exec (.permitGet name) s = replyTo (.permitGet name)
      (inRange (State.permitNameOk name) s (fun s => s.getPermit name)) :=
  show execPermitGet name s = _ from request_replies _ h

/-- R43: what a mark of a permit answers. -/
theorem markPermit_cases (s : State) (number : Nat) (st : PermitState) :
    (s.permits.get number = none → s.markPermit number st = s.refuse .notFound) ∧
    (∀ p, s.permits.get number = some p → p.state = .expired → s.markPermit number st = s.refuse .wrongState) ∧
    (∀ p, s.permits.get number = some p → p.state ≠ .expired → s.markPermit number st =
      { s with permits := s.permits.put number { p with state := st } }.done) := by
  unfold State.markPermit
  refine ⟨fun h => by rw [h], fun p h he => ?_, fun p h he => ?_⟩
  · simp only [h, he, if_true]
  · simp only [h, he, if_false]

/-- Settles O21: each request of the table by the entry it names. -/
theorem permitAdjustAddsToTheBalance : Obligations.PermitAdjustAddsToTheBalance := by
  unfold Obligations.PermitAdjustAddsToTheBalance
  refine ⟨?outOfRange, ?adjust, ?mark, ?dropVehicle, ?dropPermit⟩
  case outOfRange =>
    intro s number c hc h hn
    have bad := permitOk_eq_false.mpr hn
    simp only [List.mem_cons, List.not_mem_nil, or_false] at hc
    rcases hc with rfl | rfl | rfl | rfl | rfl
    · rw [exec_permitGet h, inRange_not (by exact bad), replyTo_refuse]
    · rw [exec_permitAdjust h, inRange_not (by simp [bad]), replyTo_refuse]
    · rw [exec_permitSuspend h, inRange_not bad, replyTo_refuse]
    · rw [exec_permitResume h, inRange_not bad, replyTo_refuse]
    · rw [exec_permitDrop h, inRange_not bad, replyTo_refuse]
  case adjust =>
    intro s number amount h h1 h2
    have ok := permitOk_iff.mpr ⟨h1, h2⟩
    have reply (ha : -2000000000 ≤ amount) (hb : amount ≤ 2000000000) :
        exec (.permitAdjust number amount) s =
          replyTo (.permitAdjust number amount) (s.adjustPermit number amount) := by
      rw [exec_permitAdjust h, inRange_of]
      rw [ok, Bool.true_and, decide_eq_true_eq]
      omega
    refine ⟨fun hn => ?_, fun ha hb hp => ?_, fun p ha hb hp => ⟨fun hc hd => ?_, fun hn => ?_⟩⟩
    · rw [exec_permitAdjust h, inRange_not, replyTo_refuse]
      rw [ok, Bool.true_and, decide_eq_false_iff_not]
      omega
    · rw [reply ha hb]
      simp only [State.adjustPermit, hp, replyTo_refuse]
    · have fits : (p.balance + amount).natAbs ≤ 2000000000 := by omega
      rw [reply ha hb]
      simp only [State.adjustPermit, hp, fits, if_true]
      rfl
    · have unfit : ¬ (p.balance + amount).natAbs ≤ 2000000000 := by omega
      rw [reply ha hb]
      simp only [State.adjustPermit, hp, unfit, if_false, replyTo_refuse]
  case mark =>
    intro s number h1 h2
    have ok := permitOk_iff.mpr ⟨h1, h2⟩
    refine ⟨fun h => ?_, fun h => ?_⟩
    · obtain ⟨missing, expired, marks⟩ := markPermit_cases s number .suspended
      rw [exec_permitSuspend h, inRange_of ok]
      exact ⟨fun hp => by rw [missing hp, replyTo_refuse], fun p hp =>
        ⟨fun he => by rw [expired p hp he, replyTo_refuse], fun he => by rw [marks p hp he, replyTo_done]⟩⟩
    · obtain ⟨missing, expired, marks⟩ := markPermit_cases s number .active
      rw [exec_permitResume h, inRange_of ok]
      exact ⟨fun hp => by rw [missing hp, replyTo_refuse], fun p hp =>
        ⟨fun he => by rw [expired p hp he, replyTo_refuse], fun he => by rw [marks p hp he, replyTo_done]⟩⟩
  case dropVehicle =>
    intro s tag h
    have reply : exec (.vehicleDrop tag) s = replyTo (.vehicleDrop tag) (s.dropVehicle tag) :=
      show execVehicleDrop tag s = _ from request_replies _ h
    rw [reply]
    refine ⟨fun hv => ?_, fun index veh hv hl => ?_, fun index veh hv hl => ?_⟩
    · simp only [State.dropVehicle, hv, replyTo_refuse]
    · simp only [State.dropVehicle, hv, hl, if_true, replyTo_refuse]
    · simp only [State.dropVehicle, hv, hl, Nat.lt_irrefl, if_false, replyTo_done]
  case dropPermit =>
    intro s number h h1 h2
    rw [exec_permitDrop h, inRange_of (permitOk_iff.mpr ⟨h1, h2⟩)]
    refine ⟨fun hp => ?_, fun p hp hl => ?_, fun p hp hl => ?_⟩
    · simp only [State.dropPermit, hp, replyTo_refuse]
    · simp only [State.dropPermit, hp, hl, if_true, replyTo_refuse]
    · simp only [State.dropPermit, hp, hl, Nat.lt_irrefl, if_false]
      rfl

end Sys2Proof.Machine
end

section
/-! The requests that read answer with what stands (R16, R25, R32, R41, R72, R108, R134, R152, R167, R184, R188). -/

namespace Sys2Proof.Machine

/-! ### The tables read -/

/-- R41: the first entry beyond a key is the one with the next key in the table. -/
theorem Table.find?_next {α : Type} {t : Table α} {m k : Nat} {a : α} (hw : t.wf) (hk : t.get k = some a) (hm : m < k)
    (between : ∀ j, m < j → j < k → t.get j = none) : t.find? (fun e => decide (m < e.1)) = some (k, a) := by
  induction t with
  | nil => cases hk
  | cons p rest ih =>
    obtain ⟨i, b⟩ := p
    have hr : Table.wf rest := (List.pairwise_cons.mp hw).2
    have first (q : Nat × α) (hq : q ∈ rest) : i < q.1 := lt_of_mem_tail hw hq
    simp only [Table.get] at hk
    by_cases hik : i = k
    · subst hik
      rw [if_pos rfl] at hk
      cases hk
      simp [hm]
    · rw [if_neg hik] at hk
      have hlt : i < k := first _ (Table.mem_of_get hk)
      have him : ¬ m < i := fun h => by simpa [Table.get] using between i h hlt
      rw [List.find?_cons_of_neg (by simpa using him)]
      refine ih hr hk fun j hj hjk => ?_
      have hij : i ≠ j := by omega
      have := between j hj hjk
      rwa [Table.get, if_neg hij] at this

theorem Table.find?_next_none {α : Type} {t : Table α} {m : Nat} (hw : t.wf)
    (beyond : ∀ j, m < j → t.get j = none) : t.find? (fun e => decide (m < e.1)) = none := by
  refine List.find?_eq_none.mpr fun e he => ?_
  have := Table.get_of_mem hw he
  intro hm
  rw [beyond e.1 (by simpa using hm)] at this
  cases this

/-- R1: the handle of a record names it while it is BOOKED, or HELD from BOOKED. -/
theorem byHandle_of {s : State} {slot : Nat} {v : Visit} (hv : s.visit slot = some v) (hn : v.hasHandle = true) :
    s.byHandle slot = some (slot, v) := by
  simp [State.byHandle, hv, hn]

theorem byHandle_none {s : State} {slot : Nat} (h : ∀ v, s.visit slot = some v → v.hasHandle = false) :
    s.byHandle slot = none := by
  unfold State.byHandle
  cases hv : s.visit slot with
  | none => rfl
  | some v => simp [h v hv]

/-! ### The slot in progress (R134) -/

/-- R134: what the next owned slot is, and that no owned slot lies before it. -/
theorem Loop.nextOwned_some {l : Loop} {p k : Nat} (h : l.nextOwned p = some k) :
    p < k ∧ 1 ≤ k ∧ k ≤ l.frameLength ∧ (l.owner k).isSome = true ∧ ∀ j, p < j → j < k → l.owner j = none := by
  unfold nextOwned at h
  rw [List.find?_range'_eq_some] at h
  obtain ⟨hk, hmem, before⟩ := h
  simp only [Bool.and_eq_true, decide_eq_true_eq] at hk
  rw [List.mem_range'_1] at hmem
  refine ⟨hk.1, hmem.1, by omega, hk.2, fun j hj hjk => ?_⟩
  have := before j (by omega) hjk
  simpa [hj] using this

theorem Loop.owner_of_nextOwned_none {l : Loop} {p j : Nat} (h : l.nextOwned p = none) (hj : p < j) :
    l.owner j = none := by
  by_cases hr : 1 ≤ j ∧ j ≤ l.frameLength
  · unfold nextOwned at h
    rw [List.find?_range'_eq_none] at h
    have := h j hr.1 (by omega)
    simpa [hj] using this
  · simp [owner, hr]

/-- R134: up to the last slot that can be in progress the only owned slot is an IN slot of a lane unit, the last. -/
theorem Loop.owner_upto_last {l : Loop} {p j : Nat} (hj : p < j) (hl : j ≤ l.lastInProgress p) :
    j ≤ l.frameLength ∧ (j < l.lastInProgress p → l.owner j = none) ∧
      ∀ u d, l.owner j = some (u, d) → d = .inward ∧ ∃ n : Fin 4, u = laneUnit n := by
  unfold lastInProgress at hl ⊢
  cases h : l.nextOwned p with
  | none =>
    rw [h] at hl
    have none := Loop.owner_of_nextOwned_none h hj
    exact ⟨hl, fun _ => none, fun u d hu => by rw [none] at hu; cases hu⟩
  | some k =>
    rw [h] at hl
    obtain ⟨-, -, hk, -, before⟩ := Loop.nextOwned_some h
    simp only at hl ⊢
    split at hl
    · rename_i u ho
      split at hl
      · rename_i hu
        simp only [hu, if_true]
        refine ⟨by omega, fun hjk => before j hj hjk, fun w d hw => ?_⟩
        have : j = k := by
          by_contra hne
          rw [before j hj (by omega)] at hw
          cases hw
        rw [this, ho] at hw
        cases hw
        exact ⟨rfl, ⟨u.val, hu⟩, rfl⟩
      · rename_i hu
        have none := before j hj (by omega)
        exact ⟨by omega, fun _ => none, fun w d hw => by rw [none] at hw; cases hw⟩
    all_goals
      have none := before j hj (by omega)
      exact ⟨by omega, fun _ => none, fun w d hw => by rw [none] at hw; cases hw⟩

/-! ### LOOKUP, NEXT DONE, VEHICLE GET and PERMIT GET -/

theorem exec_lookup {s : State} {name : LookupName} (h : Accepts s (.lookup name)) : exec (.lookup name) s =
    replyTo (.lookup name) (inRange (State.lookupOk name) s (fun s =>
      onRecord (s.lookupRecord name) s (fun slot v s => (s, .ok, .record (some slot) v)))) :=
  show execLookup name s = _ from request_replies _ h

theorem exec_vehicleGet {s : State} {name : VehicleName} (h : Accepts s (.vehicleGet name)) :
    exec (.vehicleGet name) s = replyTo (.vehicleGet name)
      (inRange (State.vehicleNameOk name) s (fun s => s.getVehicle name)) :=
  show execVehicleGet name s = _ from request_replies _ h

/-- R16: the record a LOOKUP in range finds, or that it finds none. -/
theorem exec_lookup_found {s : State} {name : LookupName} {slot : Nat} {v : Visit} (h : Accepts s (.lookup name))
    (ok : State.lookupOk name = true) (found : s.lookupRecord name = some (slot, v)) :
    exec (.lookup name) s = .next (answered s (.lookup name) .ok (.record (some slot) v)) := by
  rw [exec_lookup h, inRange_of ok, onRecord_of found]
  rfl

theorem exec_lookup_missing {s : State} {name : LookupName} (h : Accepts s (.lookup name))
    (ok : State.lookupOk name = true) (missing : s.lookupRecord name = none) :
    exec (.lookup name) s = .next (answered s (.lookup name) .notFound .empty) := by
  rw [exec_lookup h, inRange_of ok, onRecord_not missing, replyTo_refuse]

theorem exec_vehicleGet_found {s : State} {name : VehicleName} {index : Nat} {v : Vehicle}
    (h : Accepts s (.vehicleGet name)) (ok : State.vehicleNameOk name = true)
    (found : s.findVehicle name = some (index, v)) : exec (.vehicleGet name) s =
      .next (answered s (.vehicleGet name) .ok (.vehicle index v (s.inDateMark v))) := by
  rw [exec_vehicleGet h, inRange_of ok, State.getVehicle, found]
  rfl

theorem exec_vehicleGet_missing {s : State} {name : VehicleName} (h : Accepts s (.vehicleGet name))
    (ok : State.vehicleNameOk name = true) (missing : s.findVehicle name = none) :
    exec (.vehicleGet name) s = .next (answered s (.vehicleGet name) .notFound .empty) := by
  rw [exec_vehicleGet h, inRange_of ok, State.getVehicle, missing]
  rfl

theorem exec_permitGet_found {s : State} {name : PermitName} {number : Nat} {p : Permit}
    (h : Accepts s (.permitGet name)) (ok : State.permitNameOk name = true)
    (found : s.findPermit name = some (number, p)) : exec (.permitGet name) s =
      .next (answered s (.permitGet name) .ok (.permit number p)) := by
  rw [exec_permitGet h, inRange_of ok, State.getPermit, found]
  rfl

theorem exec_permitGet_missing {s : State} {name : PermitName} (h : Accepts s (.permitGet name))
    (ok : State.permitNameOk name = true) (missing : s.findPermit name = none) :
    exec (.permitGet name) s = .next (answered s (.permitGet name) .notFound .empty) := by
  rw [exec_permitGet h, inRange_of ok, State.getPermit, missing]
  rfl

/-! ### The status requests -/

theorem exec_laneStatus {s : State} {k : Nat} (h : Accepts s (.laneStatus k)) : exec (.laneStatus k) s =
    replyTo (.laneStatus k) (onLane k s (fun n s => (s, .ok, .lane (s.lane n) (s.signal n) (s.barrier n)))) :=
  show execLaneStatus k s = _ from request_replies _ h

theorem exec_deckStatus {s : State} {k : Nat} (h : Accepts s (.deckStatus k)) :
    exec (.deckStatus k) s = replyTo (.deckStatus k) (onLane k s (fun n s => s.deckStatus n)) :=
  show execDeckStatus k s = _ from request_replies _ h

theorem exec_unitStatus {s : State} {k : Nat} (h : Accepts s (.unitStatus k)) :
    exec (.unitStatus k) s = replyTo (.unitStatus k) (onUnit k s (fun u s => s.unitStatus u)) :=
  show execUnitStatus k s = _ from request_replies _ h

theorem exec_loopStatus {s : State} (h : Accepts s .loopStatus) :
    exec .loopStatus s = replyTo .loopStatus s.loopStatus :=
  show execLoopStatus s = _ from request_replies _ h

/-- R184: SETTING READ of the active image, taken. -/
theorem exec_settingRead_active {s : State} {word : Nat} (h : Accepts s (.settingRead word 0)) :
    exec (.settingRead word 0) s = replyTo (.settingRead word 0) (s.readActive word) := by
  show execSettingRead word 0 s = _
  unfold execSettingRead
  rw [onPort_taken _ h.up h.taken, h.ready]
  rfl

/-- R134: the slot in progress is one that no step names. -/
theorem slotOpen_iff (s : State) : s.slotOpen = true ↔ (s.loop.state = .running ∨ s.loop.state = .pausing) ∧
    s.loop.markerOpen = false ∧ s.loop.polled = none ∧ s.loop.slotDone = false := by
  simp [State.slotOpen, State.loopTurning, and_assoc]

/-- R152: LOOP STATUS by what is in progress. -/
theorem loopStatus_cases (s : State) :
    (s.loop.begun = some 0 → s.loopStatus = (s, .ok, s.loopAnswer (some 0))) ∧
    (s.loop.begun ≠ some 0 → s.slotOpen = false → s.loopStatus = (s, .ok, s.loopAnswer s.loop.position)) ∧
    (s.loop.begun ≠ some 0 → s.slotOpen = true → s.loop.pauseShown = true →
      s.loopStatus = (s, .ok, s.loopAnswer (some s.loop.shown))) ∧
    (s.loop.begun ≠ some 0 → s.slotOpen = true → s.loop.pauseShown = false →
      s.loopStatus = (s.drawPosition, .ok, s.loopAnswer (some s.positionDrawn))) := by
  unfold State.loopStatus
  refine ⟨fun h => by rw [if_pos h], fun h ho => ?_, fun h ho hp => ?_, fun h ho hp => ?_⟩
  · rw [if_neg h, ho]
    rfl
  · rw [if_neg h, ho, hp]
    rfl
  · rw [if_neg h, ho, hp]
    rfl

/-- Settles O9: each request that reads, by what its name or the loop's state finds. -/
theorem readingRequestsChangeNothing : Obligations.ReadingRequestsChangeNothing := by
  unfold Obligations.ReadingRequestsChangeNothing
  intro s between from_ named
  have named_iff (v : Visit) : v.hasHandle = true ↔ named v := v.hasHandle_iff
  refine ⟨?ranges, ?lookup, ?nextDone, ?vehicle, ?permit, ?lane, ?deck, ?deckOff, ?marker, ?fixed, ?paused, ?drawn,
      ?unit,
    ?word, ?noWord, fun h => show execClockRead s = _ from request_replies _ h⟩
  case ranges =>
    rintro c h (⟨t, rfl, ht⟩ | ⟨k, rfl, hk⟩ | ⟨i, rfl, hi⟩ | ⟨m, rfl, hm⟩ | ⟨k, rfl | rfl, hk⟩ | ⟨k, rfl, hk⟩)
    · rw [exec_lookup h, inRange_not (by exact ticketOk_eq_false.mpr ht), replyTo_refuse]
    · rw [exec_lookup h, inRange_not (by exact decide_eq_false (Nat.not_lt.mpr hk)), replyTo_refuse]
    · rw [exec_vehicleGet h, inRange_not (by exact decide_eq_false (Nat.not_lt.mpr hi)),
        replyTo_refuse]
    · rw [exec_permitGet h, inRange_not (by simpa [State.permitNameOk] using hm), replyTo_refuse]
    · rw [exec_laneStatus h, onLane_not hk, replyTo_refuse]
    · rw [exec_deckStatus h, onLane_not hk, replyTo_refuse]
    · rw [exec_unitStatus h, onUnit_not hk, replyTo_refuse]
  case lookup =>
    intro name c h
    refine ⟨?_, ?_⟩
    · rintro slot v (⟨t, rfl, h1, h2, ht⟩ | ⟨rfl, hs, hv, hn⟩ | ⟨tag, rfl, ht⟩)
      · exact exec_lookup_found h (ticketOk_iff.mpr ⟨h1, h2⟩) ht
      · exact exec_lookup_found h (decide_eq_true hs) (byHandle_of hv ((named_iff v).mpr hn))
      · refine exec_lookup_found h rfl ?_
        rcases ht with ht | ⟨ht, hb⟩
        · simp only [State.lookupRecord, ht]
        · simp only [State.lookupRecord, ht, hb]
    · rintro (⟨t, rfl, h1, h2, ht⟩ | ⟨k, rfl, hs, hn⟩ | ⟨tag, rfl, ht, hb⟩)
      · exact exec_lookup_missing h (ticketOk_iff.mpr ⟨h1, h2⟩) ht
      · exact exec_lookup_missing h (decide_eq_true hs)
          (byHandle_none fun v hv => Bool.eq_false_iff.mpr fun hh => hn v hv ((named_iff v).mp hh))
      · refine exec_lookup_missing h rfl ?_
        simp only [State.lookupRecord, ht, hb]
  case nextDone =>
    intro h
    have reply : exec .nextDone s = replyTo .nextDone s.nextDone := show execNextDone s = _ from request_replies _ h
    rw [reply]
    refine ⟨fun he => ?_, fun slot rest v he hv => ?_⟩
    · simp only [State.nextDone, he, replyTo_refuse]
    · simp only [State.nextDone, he, hv]
      rfl
  case vehicle =>
    intro name c h
    refine ⟨?_, ?_⟩
    · rintro index v (⟨tag, rfl, ht⟩ | ⟨rfl, hi, hv⟩)
      · exact exec_vehicleGet_found h rfl ht
      · exact exec_vehicleGet_found h (decide_eq_true hi) (by simp [State.findVehicle, hv])
    · rintro (⟨tag, rfl, ht⟩ | ⟨i, rfl, hi, hv⟩)
      · exact exec_vehicleGet_missing h rfl ht
      · exact exec_vehicleGet_missing h (decide_eq_true hi) (by simp [State.findVehicle, hv])
  case permit =>
    intro name c h tables
    refine ⟨?_, ?_⟩
    · rintro number p hp (⟨rfl, h1, h2⟩ | ⟨m, rfl, hm, hk, between⟩)
      · exact exec_permitGet_found h (permitOk_iff.mpr ⟨h1, h2⟩) (by simp [State.findPermit, hp])
      · exact exec_permitGet_found h (decide_eq_true hm) (Table.find?_next tables.permits hp hk between)
    · rintro (⟨m, rfl, h1, h2, hp⟩ | ⟨m, rfl, hm, beyond⟩)
      · exact exec_permitGet_missing h (permitOk_iff.mpr ⟨h1, h2⟩) (by simp [State.findPermit, hp])
      · exact exec_permitGet_missing h (decide_eq_true hm) (Table.find?_next_none tables.permits beyond)
  case lane =>
    intro n h
    rw [exec_laneStatus h, onLane_fin]
    rfl
  case deck =>
    intro n p h hp
    rw [exec_deckStatus h, onLane_fin, State.deckStatus, hp]
    rfl
  case deckOff =>
    intro n h hp
    rw [exec_deckStatus h, onLane_fin, State.deckStatus, hp]
    rfl
  case marker =>
    intro h hb
    rw [exec_loopStatus h, (loopStatus_cases s).1 hb]
    rfl
  case fixed =>
    intro h hb hn
    have closed : s.slotOpen = false := Bool.eq_false_iff.mpr fun ho => hn ((slotOpen_iff s).mp ho)
    rw [exec_loopStatus h, (loopStatus_cases s).2.1 hb closed]
    rfl
  case paused =>
    intro h hb ho hp
    rw [exec_loopStatus h, (loopStatus_cases s).2.2.1 hb ((slotOpen_iff s).mpr ho) hp]
    rfl
  case drawn =>
    intro h hb ho hp
    have ge : from_ ≤ s.positionDrawn := s.positionDrawn_ge
    have le : s.positionDrawn ≤ max from_ (s.loop.lastInProgress s.slotNow) := s.positionDrawn_le
    have now : s.slotNow ≤ from_ := le_trans (le_max_left _ _) (le_max_left _ _)
    refine ⟨s.positionDrawn, ge, fun k hk hkp => ?_, fun hlt => ?_, ?_⟩
    · have upto : k < s.loop.lastInProgress s.slotNow := by omega
      exact (Loop.owner_upto_last (Nat.lt_of_le_of_lt now hk) (Nat.le_of_lt upto)).2.1 upto
    · obtain ⟨hlen, -, owner⟩ := Loop.owner_upto_last (l := s.loop) (Nat.lt_of_le_of_lt now hlt) (by omega)
      exact ⟨hlen, owner⟩
    · rw [exec_loopStatus h, (loopStatus_cases s).2.2.2 hb ((slotOpen_iff s).mpr ho) hp]
      rfl
  case unit =>
    intro u h
    rw [exec_unitStatus h, onUnit_fin]
    rfl
  case word =>
    intro word h hw
    rw [exec_settingRead_active h, State.readActive, if_pos hw]
    rfl
  case noWord =>
    intro word h hw
    rw [exec_settingRead_active h, State.readActive, if_neg (Nat.not_le.mpr hw)]
    rfl

end Sys2Proof.Machine
end

section
/-! The state after a reset of the model: every law holds (R27, R48, R49). -/

namespace Sys2Proof.Machine

theorem State.reset_lane (n : Fin 4) : State.reset.lane n = Lane.reset := by fin_cases n <;> rfl
theorem State.reset_barrier (n : Fin 4) : State.reset.barrier n = Barrier.reset := by fin_cases n <;> rfl
theorem State.reset_visit (slot : Nat) : State.reset.visit slot = none := rfl

theorem tablesCanonical_reset : TablesCanonical State.reset := ⟨Table.nil_wf, Table.nil_wf, Table.nil_wf⟩

theorem levelsFollow_reset : LevelsFollow State.reset := by
  unfold LevelsFollow
  decide

theorem changesLawful_reset : ChangesLawful State.reset := ⟨List.nodup_nil, fun _ h => by cases h⟩

theorem noticesLegal_reset : NoticesLegal State.reset := ⟨by decide, by decide, by decide⟩

/-- R1, R5, R12, R13, R28, R34, R77: with no record and every lane CLOSED the laws hold. -/
theorem lawful_reset : Lawful State.reset where
  tables := tablesCanonical_reset
  visits := by
    constructor
    case next => decide
    case once => exact List.nodup_nil
    case finished =>
      intro slot
      simp only [State.reset_visit, reduceCtorEq, false_and, exists_false, iff_false]
      exact List.not_mem_nil
    all_goals simp [State.reset_visit]
  occupancy := rfl
  bindings := by
    constructor <;> simp [State.reset_lane, State.reset_visit, Lane.reset, LaneState.hasVisit]
  barriers := by
    constructor <;> simp [State.reset_lane, State.reset_barrier, Lane.reset, Barrier.reset]
  reservations := fun number p hp => by cases hp
  retention := by
    constructor
    case vehicle => exact fun slot v hv => by cases hv
    case permit => exact fun slot v number hv => by cases hv
    case vehicles => exact fun index veh hv => by cases hv
    case permits => exact fun number p hp => by cases hp
    case tags => exact fun a b v w hv => by cases hv

/-- Settles O29. -/
theorem resetInGoodOrder : Obligations.ResetInGoodOrder :=
  ⟨⟨tablesCanonical_reset, levelsFollow_reset⟩, changesLawful_reset, noticesLegal_reset, lawful_reset⟩

end Sys2Proof.Machine
end

section
/-! What the operations at a lane leave: RELEASING entered with a held visit, PASSING, and the holds that lead there
(R60, R62, R63, R88, R169), each as an equation and as the term the statements use. -/

namespace Sys2Proof.Machine

/-! ### One block written twice -/

theorem State.setLane_setLane (s : State) (n : Fin 4) (a b : Lane) : (s.setLane n a).setLane n b = s.setLane n b := by
  simp [setLane]

theorem State.setBarrier_setBarrier (s : State) (n : Fin 4) (a b : Barrier) :
    (s.setBarrier n a).setBarrier n b = s.setBarrier n b := by
  simp [setBarrier]

theorem State.setEngine_setEngine (s : State) (n : Fin 4) (a b : Engine) :
    (s.setEngine n a).setEngine n b = s.setEngine n b := by
  simp [setEngine]

theorem State.setDeck_setDeck (s : State) (n : Fin 4) (a b : Deck) : (s.setDeck n a).setDeck n b = s.setDeck n b := by
  simp [setDeck]

theorem State.setLane_lane (s : State) (n : Fin 4) : s.setLane n (s.lane n) = s := by
  simp [setLane, lane, Vector.get_eq_getElem]

theorem State.engine_setEngine_of_ne (s : State) {n m : Fin 4} (x : Engine) (h : m ≠ n) :
    (s.setEngine n x).engine m = s.engine m := by
  rw [engine_setEngine, if_neg h.symm]

theorem State.deck_setDeck_of_ne (s : State) {n m : Fin 4} (x : Deck) (h : m ≠ n) :
    (s.setDeck n x).deck m = s.deck m := by
  rw [deck_setDeck, if_neg h.symm]

/-! ### What the other lanes keep -/

namespace OtherLanesKept

variable {s t u : State} {n : Fin 4}

theorem refl (s : State) (n : Fin 4) : OtherLanesKept s s n := fun _ _ => ⟨rfl, rfl, rfl, rfl⟩

theorem trans (h : OtherLanesKept s t n) (h' : OtherLanesKept t u n) : OtherLanesKept s u n := fun m hm => by
  obtain ⟨hl, hb, hd, he⟩ := h m hm
  obtain ⟨hl', hb', hd', he'⟩ := h' m hm
  exact ⟨hl'.trans hl, hb'.trans hb, hd'.trans hd, he'.trans he⟩

/-- Nothing but what is outside the four vectors of lane blocks differs. -/
theorem of_blocks (hl : t.lanes = s.lanes) (hb : t.barriers = s.barriers) (hd : t.decks = s.decks)
    (he : t.engines = s.engines) : OtherLanesKept s t n := fun m _ => by
  simp only [State.lane, State.barrier, State.deck, State.engine, hl, hb, hd, he, and_self]

theorem setLane (s : State) (x : Lane) : OtherLanesKept s (s.setLane n x) n := fun _ h =>
  ⟨s.lane_setLane_of_ne x h, rfl, rfl, rfl⟩

theorem setBarrier (s : State) (x : Barrier) : OtherLanesKept s (s.setBarrier n x) n := fun _ h =>
  ⟨rfl, s.barrier_setBarrier_of_ne x h, rfl, rfl⟩

theorem setDeck (s : State) (x : Deck) : OtherLanesKept s (s.setDeck n x) n := fun _ h =>
  ⟨rfl, rfl, s.deck_setDeck_of_ne x h, rfl⟩

theorem setEngine (s : State) (x : Engine) : OtherLanesKept s (s.setEngine n x) n := fun _ h =>
  ⟨rfl, rfl, rfl, s.engine_setEngine_of_ne x h⟩

theorem setVisit (s : State) (slot : Nat) (v : Visit) : OtherLanesKept s (s.setVisit slot v) n :=
  of_blocks rfl rfl rfl rfl

theorem touch (s : State) (slot : Nat) : OtherLanesKept s (s.touch slot) n := by
  rw [State.touch_eq]
  exact of_blocks rfl rfl rfl rfl

theorem latch (s : State) (src : Source) (bit : Nat) : OtherLanesKept s (s.latch src bit) n := of_blocks rfl rfl rfl rfl

theorem followLevels (s : State) : OtherLanesKept s s.followLevels n :=
  of_blocks (State.followLevels_lanes s) (State.followLevels_barriers s) (State.followLevels_decks s)
    (State.followLevels_engines s)

theorem orderBarrier (s : State) (o : BarrierOrder) : OtherLanesKept s (s.orderBarrier n o) n := setBarrier s _

theorem setTracking (s : State) (t : Tracking) (b : Bool) : OtherLanesKept s (s.setTracking n t b) n := setBarrier s _

end OtherLanesKept

/-! ### Latched positions -/

namespace State

variable {s : State} {src src' : Source} {bit bit' : Nat}

theorem latched_latch (s : State) (src : Source) (n : Fin 4) :
    (s.latch src n.val).notices.isLatched src n.val = true :=
  Notices.isLatched_latch _ _ _ (by omega)

theorem latched_latch_of (h : s.notices.isLatched src bit = true) :
    (s.latch src' bit').notices.isLatched src bit = true := Notices.latch_isLatched _ _ _ h

end State

/-! ### Orders -/

@[simp] theorem Barrier.giveOrder_order (b : Barrier) (o : BarrierOrder) (travel gate : Nat) :
    (b.giveOrder o travel gate).order = o := by
  cases o <;> cases h : b.state <;> simp only [giveOrder, h, startTravel]
  split <;> simp_all [waitGate]

@[simp] theorem State.setTracking_barrier (s : State) (n : Fin 4) (t : Tracking) (beyond : Bool) :
    (s.setTracking n t beyond).barrier n =
      { s.barrier n with tracking := t, beyondSeen := beyond, abandon := none } := by
  simp [setTracking]

@[simp] theorem State.setTracking_lane (s : State) (n m : Fin 4) (t : Tracking) (beyond : Bool) :
    (s.setTracking n t beyond).lane m = s.lane m := rfl

@[simp] theorem State.orderBarrier_lane (s : State) (n m : Fin 4) (o : BarrierOrder) :
    (s.orderBarrier n o).lane m = s.lane m := rfl

@[simp] theorem State.orderBarrier_barrier (s : State) (n : Fin 4) (o : BarrierOrder) :
    (s.orderBarrier n o).barrier n = (s.barrier n).giveOrder o (s.frames .travel) (s.frames .gateClear) := by
  simp [orderBarrier]

/-! ### RELEASING (R62, R63, R88) -/

/-- R63: a lane record as it enters RELEASING. -/
def releasingLane (s : State) (n : Fin 4) (held : Option Nat) : Lane :=
  { (s.lane n).unbind with
    state := .releasing
    heldVisit := held
    recovery := Timer.load (s.frames .recovery)
    display := releasingDisplay held }

theorem Timer.not_expired_load {k : Nat} (h : 0 < k) : (Timer.load k).expired = false := by
  have : k ≠ 0 := by omega
  simp [Timer.load, Timer.expired, this]

/-- R63: the lane enters RELEASING before the barrier and the recovery timer are looked at. -/
def State.beginReleasing (s : State) (n : Fin 4) (held : Option Nat) : State :=
  ((((s.setLane n (releasingLane s n held)).orderBarrier n .lower).setTracking n
    (if held.isSome then .heldVisit else .inactive)
    (decide ((s.lane n).state = .passing ∨ (s.lane n).state = .releasing) &&
      ((s.setLane n (releasingLane s n held)).orderBarrier n .lower |>.barrier n).beyondSeen))).followLevels

theorem State.enterReleasing_eq_end (s : State) (n : Fin 4) (held : Option Nat) :
    s.enterReleasing n held = (s.beginReleasing n held).endReleasing n := rfl

@[simp] theorem State.beginReleasing_lane (s : State) (n : Fin 4) (held : Option Nat) :
    (s.beginReleasing n held).lane n = releasingLane s n held := by
  simp [beginReleasing]

/-- R63: while the recovery timer runs the lane stays in RELEASING. -/
theorem State.enterReleasing_eq {s : State} (h : 0 < s.frames .recovery) (n : Fin 4) (held : Option Nat) :
    s.enterReleasing n held = s.beginReleasing n held := by
  have running : ((s.beginReleasing n held).lane n).recovery.expired = false := by
    rw [beginReleasing_lane]
    exact Timer.not_expired_load h
  rw [enterReleasing_eq_end, endReleasing, if_neg]
  rw [running]
  simp

theorem State.beginReleasing_others (s : State) (n : Fin 4) (held : Option Nat) :
    OtherLanesKept s (s.beginReleasing n held) n :=
  (OtherLanesKept.setLane s _).trans <| (OtherLanesKept.orderBarrier _ _).trans <|
    (OtherLanesKept.setTracking _ _ _).trans (OtherLanesKept.followLevels _)

theorem State.beginReleasing_rest (s : State) (n : Fin 4) (held : Option Nat) : s.beginReleasing n held = { s with
    lanes := (s.beginReleasing n held).lanes, barriers := (s.beginReleasing n held).barriers
    notices := (s.beginReleasing n held).notices } := rfl

theorem State.beginReleasing_barrier (s : State) (n : Fin 4) (held : Option Nat) :
    ((s.beginReleasing n held).barrier n).order = .lower ∧
      ((s.beginReleasing n held).barrier n).tracking = (if held.isSome then .heldVisit else .inactive) := by
  simp [beginReleasing]

/-- R62, R63, R88: RELEASING entered with a visit whose hold has latched VISIT_HELD. -/
theorem State.beginReleasing_releases {s : State} (h : 0 < s.frames .recovery) (n : Fin 4) (ticket : Nat)
    (latched : s.notices.isLatched .visitHeld n.val = true) :
        Releases s (s.beginReleasing n (some ticket)) n ticket where
  lane := by
    have : s.frames .recovery ≠ 0 := by omega
    rw [beginReleasing_lane]
    simp [releasingLane, Lane.unbind, releasingDisplay, Timer.load, this]
  barrier := s.beginReleasing_barrier n (some ticket)
  notice := State.followLevels_isLatched _ latched

/-! ### A visit held (R62, R169) -/

/-- R169: the hold of a record that is not held yet. -/
theorem State.holdClaim_eq {s : State} {slot : Nat} {v : Visit} (hv : s.visit slot = some v) (hs : v.state ≠ .held)
    (r : HoldReason) : s.holdClaim slot r =
      (((s.setVisit slot (heldVisit v r)).touch slot).latch .visitHeld (heldBit v)).followLevels := by
  simp only [holdClaim, hv, hs, if_false]

/-- R62: the hold of a lane's visit, and the lane's entry to RELEASING. -/
theorem State.holdToReleasing_eq {s : State} {n : Fin 4} {ticket slot : Nat} {v : Visit} {r : HoldReason}
    (tables : s.vt.records.wf) (bound : (s.lane n).bound = some ticket) (found : s.byTicket ticket = some (slot, v))
    (hs : v.state ≠ .held) : s.holdToReleasing n r =
      ((((s.setVisit slot (heldVisit v r)).touch slot).latch .visitHeld (heldBit v)).followLevels).enterReleasing n
        (some ticket) := by
  simp only [holdToReleasing, bound, holdBound, boundRecord, found, holdClaim_eq (byTicket_visit tables found).1 hs]

/-- R62, R63, R169: what the hold of a lane's visit leaves, while the recovery timer runs. -/
structure HeldAtLane (s t : State) (n : Fin 4) (ticket slot : Nat) (v : Visit) (r : HoldReason) : Prop where
  rest     : t = { s with vt := t.vt, lanes := t.lanes, barriers := t.barriers, notices := t.notices }
  vt       : t.vt = { s.vt with
    records := s.vt.records.put slot { v with
      state := .held, prior := some v.state, reason := some r, later := [], lane := none }
    changes := withChange s.vt.changes slot }
  releases : Releases s t n ticket
  others   : OtherLanesKept s t n

theorem State.holdToReleasing_holds {s : State} {n : Fin 4} {ticket slot : Nat} {v : Visit} {r : HoldReason}
    (tables : s.vt.records.wf) (bound : (s.lane n).bound = some ticket) (found : s.byTicket ticket = some (slot, v))
    (hs : v.state ≠ .held) (hl : v.lane = some n) (recovery : 0 < s.frames .recovery) :
    HeldAtLane s (s.holdToReleasing n r) n ticket slot v r := by
  rw [holdToReleasing_eq tables bound found hs, setVisit_touch, enterReleasing_eq (by exact recovery)]
  have latched : ((s.latch .visitHeld (heldBit v)).followLevels).notices.isLatched .visitHeld n.val = true := by
    rw [heldBit, hl]
    exact followLevels_isLatched _ (latched_latch s _ n)
  refine ⟨rfl, rfl, ?_, ?_⟩
  · have := beginReleasing_releases (s := (({ s with vt := { s.vt with
      records := s.vt.records.put slot (heldVisit v r), changes := withChange s.vt.changes slot } }).latch .visitHeld
        (heldBit v)).followLevels) (by exact recovery) n ticket (by
          rw [heldBit, hl]
          exact followLevels_isLatched _ (latched_latch _ _ n))
    exact ⟨this.lane, this.barrier, this.notice⟩
  · exact (OtherLanesKept.of_blocks rfl rfl rfl rfl).trans (beginReleasing_others _ _ _)

/-! ### PASSING (R60, R85) -/

theorem State.enterPassing_others (s : State) (n : Fin 4) : OtherLanesKept s (s.enterPassing n) n :=
  (OtherLanesKept.setLane s _).trans <| (OtherLanesKept.orderBarrier _ _).trans (OtherLanesKept.setTracking _ _ _)

theorem State.enterPassing_rest (s : State) (n : Fin 4) : s.enterPassing n = { s with
    lanes := (s.enterPassing n).lanes, barriers := (s.enterPassing n).barriers } := rfl

theorem State.enterPassing_lets {s : State} {n : Fin 4} {ticket : Nat} (bound : (s.lane n).bound = some ticket) :
    LetsPass s (s.enterPassing n) n ticket where
  lane := by simp [enterPassing, bound]
  order := by simp [enterPassing]
  tracks := by simp [enterPassing]

theorem State.reportEligible_bound {s : State} {n : Fin 4} (h : (s.lane n).state = .bound) :
    s.reportEligible n = s.enterPassing n := by
  simp only [reportEligible, h]

end Sys2Proof.Machine
end

section
/-! How a capture ends (R62, R111, R120, R126 to R128): failed, or settled from what it has gathered. -/

namespace Sys2Proof.Machine

/-! ### The last outcome -/

theorem State.recordOutcome_engine (s : State) (n : Fin 4) (o : LastOutcome) :
    (s.recordOutcome n o).engine n = { s.engine n with lastOutcome := some o } := by
  simp [recordOutcome]

theorem State.recordOutcome_others (s : State) (n : Fin 4) (o : LastOutcome) :
    OtherLanesKept s (s.recordOutcome n o) n := (OtherLanesKept.setEngine s _).trans (OtherLanesKept.latch _ _ _)

theorem State.recordOutcome_rest (s : State) (n : Fin 4) (o : LastOutcome) : s.recordOutcome n o = { s with
    engines := (s.recordOutcome n o).engines, notices := (s.recordOutcome n o).notices } := rfl

@[simp] theorem State.recordOutcome_lane (s : State) (n m : Fin 4) (o : LastOutcome) :
    (s.recordOutcome n o).lane m = s.lane m := rfl

@[simp] theorem State.recordOutcome_barrier (s : State) (n m : Fin 4) (o : LastOutcome) :
    (s.recordOutcome n o).barrier m = s.barrier m := rfl

theorem State.recordOutcome_latched (s : State) (n : Fin 4) (o : LastOutcome) :
    (s.recordOutcome n o).notices.isLatched .captureDone n.val = true := State.latched_latch _ _ _

theorem Releases.recordOutcome {s t : State} {n : Fin 4} {ticket : Nat} (h : Releases s t n ticket) (o : LastOutcome) :
    Releases s (t.recordOutcome n o) n ticket := ⟨h.lane, h.barrier, State.latched_latch_of h.notice⟩

theorem LetsPass.recordOutcome {s t : State} {n : Fin 4} {ticket : Nat} (h : LetsPass s t n ticket) (o : LastOutcome) :
    LetsPass s (t.recordOutcome n o) n ticket := ⟨h.lane, h.order, h.tracks⟩

/-! ### A capture that has FAILED (R126) -/

/-- What a capture's failure leaves where it has no effect on its binding. -/
structure FailsAlone (s t : State) (n : Fin 4) (c : Capture) (r : FailReason) : Prop where
  rest   : t = { s with lanes := t.lanes, engines := t.engines, notices := t.notices }
  others : OtherLanesKept s t n
  fails  : CaptureFails s t n c r
  state  : (t.lane n).state = (s.lane n).state

theorem State.settleFailed_test {s : State} {n : Fin 4} {c : Capture} {r : FailReason} (h : c.purpose = .test) :
    FailsAlone s (s.settleFailed n c r) n c r := by
  have eq : s.settleFailed n c r = ((s.setEngine n { s.engine n with run := none }).setLane n { s.lane n with
      testResult := some ⟨.failed r, c.method, none, none, none, s.now⟩ }).recordOutcome n
        ⟨.failed r, c.purpose, c.method, none, none⟩ := by
    simp only [settleFailed, h]
    rfl
  rw [eq]
  refine ⟨rfl, ?_, ⟨?_, ?_, recordOutcome_latched _ _ _⟩, ?_⟩
  · exact (OtherLanesKept.setEngine s _).trans <| (OtherLanesKept.setLane _ _).trans (recordOutcome_others _ _ _)
  · simp [recordOutcome_engine, h]
  · simp [h]
  · simp

theorem State.settleFailed_visit {s : State} {n : Fin 4} {c : Capture} {r : FailReason} {ticket : Nat} {role : Role}
    (h : c.purpose = .visit ticket role) (hf : (s.engine n).failures < 2) :
    FailsAlone s (s.settleFailed n c r) n c r := by
  have count : min 3 ((s.engine n).failures + 1) = (s.engine n).failures + 1 := by omega
  have few : (s.engine n).failures + 1 ≠ 3 := by omega
  have eq : s.settleFailed n c r = (s.setEngine n { s.engine n with
      run := none, failures := (s.engine n).failures + 1 }).recordOutcome n
        ⟨.failed r, c.purpose, c.method, none, none⟩ := by
    simp only [settleFailed, h, countFailure, engine_setEngine_self, setEngine_setEngine, count, few, if_false]
  rw [eq]
  refine ⟨rfl, (OtherLanesKept.setEngine s _).trans (recordOutcome_others _ _ _),
    ⟨?_, ?_, recordOutcome_latched _ _ _⟩, rfl⟩
  · simp [recordOutcome_engine, h]
  · simp [h]

/-- R126: a test weighing, or one of the first two failures of a binding. -/
theorem State.settleFailed_alone {s : State} {n : Fin 4} {c : Capture} (h : MayFail s n c) (r : FailReason) :
    FailsAlone s (s.settleFailed n c r) n c r := by
  rcases h with test | ⟨⟨ticket, role, visit⟩, few⟩
  · exact settleFailed_test test
  · exact settleFailed_visit visit few

/-- R62, R122: what the third failure of a binding leaves. -/
structure FailsThird (s t : State) (n : Fin 4) (c : Capture) (ticket slot : Nat) (v : Visit) (r : FailReason) :
    Prop where
  rest   : t = { s with
    vt := t.vt, lanes := t.lanes, barriers := t.barriers, engines := t.engines, notices := t.notices }
  others : OtherLanesKept s t n
  fails  : ThirdFails s t n c ticket slot v r
  state  : (t.lane n).state = .releasing

theorem State.settleFailed_third {s : State} {n : Fin 4} {c : Capture} {ticket slot : Nat} {v : Visit}
    (h : AtThirdFailure s n c ticket slot v) (r : FailReason) :
    FailsThird s (s.settleFailed n c r) n c ticket slot v r := by
  obtain ⟨role, purpose⟩ := h.serves
  have eq : s.settleFailed n c r = ((s.setEngine n { s.engine n with run := none, failures := 3 }).holdToReleasing n
      .captureFailed).recordOutcome n ⟨.failed r, c.purpose, c.method, none, none⟩ := by
    simp only [settleFailed, purpose, countFailure, engine_setEngine_self, setEngine_setEngine, h.two]
    rfl
  obtain ⟨found, lane, held⟩ := h.record
  have holds : HeldAtLane (s.setEngine n { s.engine n with run := none, failures := 3 })
      ((s.setEngine n { s.engine n with run := none, failures := 3 }).holdToReleasing n .captureFailed) n ticket slot v
      .captureFailed :=
    holdToReleasing_holds h.tables.records h.lane.2 found held lane h.recovers
  rw [eq]
  have engines := congrArg State.engines holds.rest
  have engine : ((s.setEngine n { s.engine n with run := none, failures := 3 }).holdToReleasing n
      .captureFailed).engine n = { s.engine n with run := none, failures := 3 } := by
    rw [State.engine, engines]
    exact engine_setEngine_self _ _ _
  refine ⟨?_, ?_, ⟨holds.vt, ?_, ?_, recordOutcome_latched _ _ _⟩, ?_⟩
  · rw [recordOutcome_rest, holds.rest]
    rfl
  · exact (OtherLanesKept.setEngine s _).trans (holds.others.trans (recordOutcome_others _ _ _))
  · exact ⟨holds.releases.lane, holds.releases.barrier, latched_latch_of holds.releases.notice⟩
  · rw [recordOutcome_engine, engine]
  · rw [recordOutcome_lane, holds.releases.lane]

/-! ### A capture settled from what it has gathered -/

/-- R127: the legal mark of a gathered weighing. -/
def gatheredLegal (s : State) (n : Fin 4) (isPart : Bool) (g : Gathered) : Bool :=
  !isPart && s.legalMark n g.inRange g.weight

theorem State.legalMark_iff (s : State) (n : Fin 4) (inRange : Bool) (weight : Int) :
    s.legalMark n inRange weight = true ↔ (s.deck n).certified = true ∧ inRange = true ∧
      ∃ p, (s.deck n).params = some p ∧ (p.minWeigh * p.division : Int) ≤ weight := by
  unfold legalMark
  cases hp : (s.deck n).params with
  | none => simp [hp]
  | some p => simp [hp, and_assoc]

theorem gatheredLegal_sum_iff (s : State) (n : Fin 4) (c : Capture) (isPart : Bool) :
    gatheredLegal s n isPart c.gathered = true ↔ isPart = false ∧ (s.deck n).certified = true ∧
      (∀ g ∈ c.groups, g.inRange = true) ∧
      ∃ p, (s.deck n).params = some p ∧ (p.minWeigh * p.division : Int) ≤ (c.groups.map (·.weight)).sum := by
  simp [gatheredLegal, State.legalMark_iff, Capture.gathered]

/-- R130: what a test weighing that is settled leaves. -/
structure TestSettled (s t : State) (n : Fin 4) (c : Capture) (isPart : Bool) (g : Gathered) : Prop where
  rest     : t = { s with lanes := t.lanes, engines := t.engines, notices := t.notices }
  others   : OtherLanesKept s t n
  lane     : t.lane n = { s.lane n with testResult := some ⟨if isPart then .part else .complete, c.method,
    some g.weight, g.groups, some (gatheredLegal s n isPart g), s.now⟩ }
  engine   : t.engine n = ⟨none, (s.engine n).failures, some ⟨if isPart then .part else .complete, .test, c.method,
    some g.weight, some (gatheredLegal s n isPart g)⟩⟩
  notice   : t.notices.isLatched .captureDone n.val = true

theorem State.settleGathered_test {s : State} {n : Fin 4} {c : Capture} (h : c.purpose = .test) (isPart : Bool)
    (g : Gathered) : TestSettled s (s.settleGathered n c isPart g) n c isPart g := by
  have eq : s.settleGathered n c isPart g = ((s.setEngine n { s.engine n with run := none }).setLane n { s.lane n with
      testResult := some ⟨if isPart then .part else .complete, c.method, some g.weight, g.groups,
        some (gatheredLegal s n isPart g), s.now⟩ }).recordOutcome n
          ⟨if isPart then .part else .complete, .test, c.method, some g.weight, some (gatheredLegal s n isPart g)⟩ := by
    simp only [settleGathered, h]
    rfl
  rw [eq]
  refine ⟨rfl, ?_, ?_, ?_, recordOutcome_latched _ _ _⟩
  · exact (OtherLanesKept.setEngine s _).trans <| (OtherLanesKept.setLane _ _).trans (recordOutcome_others _ _ _)
  · simp
  · simp [recordOutcome_engine]

/-- R120, R130: a test weighing settled with the sum of its groups. -/
theorem TestSettled.sums {s t : State} {n : Fin 4} {c : Capture} {isPart : Bool} (axle : c.method = .axleSum)
    (h : TestSettled s t n c isPart c.gathered) :
    TestSums s t n c (if isPart then .part else .complete) (gatheredLegal s n isPart c.gathered) where
  lane := by rw [h.lane, axle]; rfl
  last := by rw [h.engine, axle]; rfl
  legal := by
    rw [gatheredLegal_sum_iff]
    cases isPart <;> simp
  notice := h.notice

/-! ### The weighing of a visit -/

theorem roleOf_iff {v : Visit} {role : Role} : RoleOf v role ↔ roleOf v.state = some role := by
  unfold RoleOf roleOf
  cases v.state <;> simp [eq_comm]

/-- R128: the list of a record with a new VALID COMPLETE entry. -/
theorem withEntry_eq {v : Visit} {e : Weighing} :
    withEntry v e = withdrawEarlier v e.role ++ [e] := by
  unfold withEntry withdrawEarlier
  congr 2
  funext ⟨w, k⟩
  simp [withdrawnBy, and_assoc]

/-- The weighing that a VISIT capture settled from what it has gathered hands on. -/
def handedEntry (s : State) (n : Fin 4) (c : Capture) (role : Role) (isPart : Bool) (g : Gathered) : Weighing :=
  { role := role, deck := some n, method := some c.method, weight := g.weight, groups := g.groups
    result := if isPart then .part else .complete, standing := .valid, legal := gatheredLegal s n isPart g
    time := s.now }

/-- A VISIT capture `c` of lane `n` serves the record bound there, which has room for its weighing. -/
structure Serves (s : State) (n : Fin 4) (c : Capture) (ticket slot : Nat) (v : Visit) (role : Role) : Prop where
  purpose : c.purpose = .visit ticket role
  found   : s.byTicket ticket = some (slot, v)
  lane    : v.lane = some n
  role    : roleOf v.state = some role
  room    : v.weighings.length < 6

@[simp] theorem State.enterPassing_vt (s : State) (n : Fin 4) : (s.enterPassing n).vt = s.vt := rfl

@[simp] theorem State.recordOutcome_vt (s : State) (n : Fin 4) (o : LastOutcome) :
    (s.recordOutcome n o).vt = s.vt := rfl

@[simp] theorem State.enterPassing_engine (s : State) (n m : Fin 4) : (s.enterPassing n).engine m = s.engine m := rfl

/-- A record with a weighing at the end of its list, in its slot and on the Change List. -/
def State.withRecord (s : State) (slot : Nat) (v : Visit) : State := (s.setVisit slot v).touch slot

theorem State.withRecord_eq (s : State) (slot : Nat) (v : Visit) : s.withRecord slot v = { s with vt := { s.vt with
    records := s.vt.records.put slot v, changes := withChange s.vt.changes slot } } := s.setVisit_touch slot v

@[simp] theorem State.withRecord_lane (s : State) (slot : Nat) (v : Visit) (n : Fin 4) :
    (s.withRecord slot v).lane n = s.lane n := by rw [withRecord_eq]; rfl

@[simp] theorem State.withRecord_barrier (s : State) (slot : Nat) (v : Visit) (n : Fin 4) :
    (s.withRecord slot v).barrier n = s.barrier n := by rw [withRecord_eq]; rfl

@[simp] theorem State.withRecord_engine (s : State) (slot : Nat) (v : Visit) (n : Fin 4) :
    (s.withRecord slot v).engine n = s.engine n := by rw [withRecord_eq]; rfl

@[simp] theorem State.withRecord_frames (s : State) (slot : Nat) (v : Visit) (x : Setting) :
    (s.withRecord slot v).frames x = s.frames x := by rw [withRecord_eq]; rfl

theorem State.withRecord_vt (s : State) (slot : Nat) (v : Visit) : (s.withRecord slot v).vt =
    { s.vt with records := s.vt.records.put slot v, changes := withChange s.vt.changes slot } := by
  rw [withRecord_eq]

theorem State.withRecord_rest (s : State) (slot : Nat) (v : Visit) :
    s.withRecord slot v = { s with vt := (s.withRecord slot v).vt } := by
  rw [withRecord_eq]

theorem State.withRecord_others (s : State) (slot : Nat) (v : Visit) (n : Fin 4) :
    OtherLanesKept s (s.withRecord slot v) n := by
  rw [withRecord_eq]
  exact OtherLanesKept.of_blocks rfl rfl rfl rfl

theorem State.settleGathered_hands {s : State} {n : Fin 4} {c : Capture} {ticket slot : Nat} {v : Visit} {role : Role}
    (h : Serves s n c ticket slot v role) (isPart : Bool) (g : Gathered) : s.settleGathered n c isPart g =
      (if isPart then (s.setEngine n { s.engine n with run := none }).withRecord slot
          { v with weighings := v.weighings ++ [handedEntry s n c role isPart g] }
        else ((s.setEngine n { s.engine n with run := none }).withRecord slot
          { v with weighings := withEntry v (handedEntry s n c role isPart g) }).entryEffect n slot role).recordOutcome n
        ⟨if isPart then .part else .complete, c.purpose, c.method, some g.weight,
            some (gatheredLegal s n isPart g)⟩ := by
  have room : v.listFull = false := decide_eq_false (Nat.not_le.mpr h.room)
  have found : (s.setEngine n { s.engine n with run := none }).byTicket ticket = some (slot, v) := h.found
  have bound : v.lane = some n ∧ roleOf v.state = some role := ⟨h.lane, h.role⟩
  unfold settleGathered handOn weighingArrives
  simp only [h.purpose, found, room, bound, and_self, if_true, Bool.false_eq_true, if_false]
  cases isPart
  · simp only [Bool.false_eq_true, if_false, if_true, withEntry_eq]
    rfl
  · simp only [if_true, reduceCtorEq, if_false]
    rfl

/-- R128: the weighing list of the record that takes the weighing of a settled capture. -/
def settledList (s : State) (v : Visit) (n : Fin 4) (c : Capture) (role : Role) (isPart : Bool) (g : Gathered) :
    List Weighing :=
  if isPart then v.weighings ++ [handedEntry s n c role isPart g] else withEntry v (handedEntry s n c role isPart g)

/-- R19, R126 to R128: what a VISIT capture leaves that is settled with a PARTIAL weighing, or for a visit that then may
pass: the record and the engine, and the lane as it was or in PASSING. -/
structure VisitSettled (s t : State) (n : Fin 4) (c : Capture) (ticket slot : Nat) (v : Visit) (role : Role)
    (isPart : Bool) (g : Gathered) : Prop where
  rest   : t = { s with
    vt := t.vt, lanes := t.lanes, barriers := t.barriers, engines := t.engines, notices := t.notices }
  others : OtherLanesKept s t n
  vt     : t.vt = { s.vt with
    records := s.vt.records.put slot { v with weighings := settledList s v n c role isPart g }
    changes := withChange s.vt.changes slot }
  engine : t.engine n = ⟨none, (s.engine n).failures, some ⟨if isPart then .part else .complete, c.purpose, c.method,
    some g.weight, some (gatheredLegal s n isPart g)⟩⟩
  stays  : isPart = true → t.lanes = s.lanes ∧ t.barriers = s.barriers
  passes : isPart = false → LetsPass s t n ticket
  notice : t.notices.isLatched .captureDone n.val = true

theorem State.settleGathered_part {s : State} {n : Fin 4} {c : Capture} {ticket slot : Nat} {v : Visit} {role : Role}
    (h : Serves s n c ticket slot v role) (g : Gathered) :
    VisitSettled s (s.settleGathered n c true g) n c ticket slot v role true g := by
  rw [settleGathered_hands h]
  simp only [if_true]
  refine ⟨?_, ?_, withRecord_vt _ _ _, ?_, fun _ => ?_, fun hn => (by cases hn), recordOutcome_latched _ _ _⟩
  · rw [recordOutcome_rest, withRecord_rest]
    rfl
  · exact (OtherLanesKept.setEngine s _).trans <| (withRecord_others _ _ _ _).trans (recordOutcome_others _ _ _)
  · rw [recordOutcome_engine, withRecord_engine, engine_setEngine_self]
    rfl
  · rw [recordOutcome_rest, withRecord_rest]
    exact ⟨rfl, rfl⟩

theorem State.settleGathered_complete {s : State} {n : Fin 4} {c : Capture} {ticket slot : Nat} {v : Visit}
    {role : Role}
    (h : Serves s n c ticket slot v role) (hr : role ≠ .exit) (state : (s.lane n).state = .bound)
    (bound : (s.lane n).bound = some ticket) (g : Gathered) :
    VisitSettled s (s.settleGathered n c false g) n c ticket slot v role false g := by
  have effect (t : State) (ht : (t.lane n).state = .bound) : t.entryEffect n slot role = t.enterPassing n := by
    have := h.role
    cases role with
    | entry => exact reportEligible_bound ht
    | reweigh => exact reportEligible_bound ht
    | exit => exact absurd rfl hr
    | storedTare => cases hv : v.state <;> rw [hv] at this <;> cases this
  rw [settleGathered_hands h]
  simp only [Bool.false_eq_true, if_false]
  rw [effect _ (by simpa using state)]
  have passing := enterPassing_lets (s := (s.setEngine n { s.engine n with run := none }).withRecord slot
    { v with weighings := withEntry v (handedEntry s n c role false g) }) (n := n) (ticket := ticket)
    (by simpa using bound)
  refine ⟨?_, ?_, ?_, ?_, fun hn => (by cases hn), fun _ => ?_, recordOutcome_latched _ _ _⟩
  · rw [recordOutcome_rest, enterPassing_rest, withRecord_rest]
    rfl
  · refine .trans ?_ (recordOutcome_others _ _ _)
    refine .trans ?_ (enterPassing_others _ _)
    exact (OtherLanesKept.setEngine s _).trans (withRecord_others _ _ _ _)
  · rw [recordOutcome_vt, enterPassing_vt, withRecord_vt]
    rfl
  · rw [recordOutcome_engine, enterPassing_engine, withRecord_engine, engine_setEngine_self]
    rfl
  · refine LetsPass.recordOutcome ⟨?_, passing.order, passing.tracks⟩ _
    rw [passing.lane, withRecord_lane, withRecord_frames]
    rfl

end Sys2Proof.Machine
end

section
/-! TERMINATE (R123), and the expiries of a deck and its engine (R99, R103, R121). -/

namespace Sys2Proof.Machine

/-! ### No entry to IDLE -/

theorem State.tryOnIdle_of_same {s t : State} {n : Fin 4} (h : (t.lane n).state = (s.lane n).state) :
    t.tryOnIdle n s = t := by
  unfold tryOnIdle
  rw [if_neg]
  rintro ⟨before, after⟩
  exact before (h ▸ after)

theorem FailsAlone.tryOnIdle {s t : State} {n : Fin 4} {c : Capture} {r : FailReason} (h : FailsAlone s t n c r) :
    t.tryOnIdle n s = t := State.tryOnIdle_of_same h.state

theorem FailsThird.tryOnIdle {s t u : State} {n : Fin 4} {c : Capture} {ticket slot : Nat} {v : Visit} {r : FailReason}
    (h : FailsThird s t n c ticket slot v r) : t.tryOnIdle n u = t :=
  State.tryOnIdle_of_not (by rw [h.state]; decide)

theorem TestSettled.tryOnIdle {s t : State} {n : Fin 4} {c : Capture} {isPart : Bool} {g : Gathered}
    (h : TestSettled s t n c isPart g) : t.tryOnIdle n s = t := State.tryOnIdle_of_same (by rw [h.lane])

theorem VisitSettled.tryOnIdle {s t : State} {n : Fin 4} {c : Capture} {ticket slot : Nat} {v : Visit} {role : Role}
    {isPart : Bool} {g : Gathered} (h : VisitSettled s t n c ticket slot v role isPart g) : t.tryOnIdle n s = t := by
  cases isPart with
  | true => exact State.tryOnIdle_of_same (by rw [State.lane, (h.stays rfl).1, State.lane])
  | false => exact State.tryOnIdle_of_not (by rw [(h.passes rfl).lane]; exact LaneState.noConfusion)

/-! ### The sums of AXLE_SUM captures -/

theorem Capture.hasGroups_of {c : Capture} (axle : c.method = .axleSum) (groups : c.groups ≠ []) :
    c.hasGroups = true := by
  simp [hasGroups, axle, groups]

theorem Capture.hasGroups_not {c : Capture} (h : c.method = .whole ∨ c.groups = []) : c.hasGroups = false := by
  rcases h with h | h <;> simp [hasGroups, h]

/-- R120, R126 to R128: a VISIT capture settled with the sum of its groups. -/
theorem VisitSettled.sums {s t : State} {n : Fin 4} {c : Capture} {ticket slot : Nat} {v : Visit} {role : Role}
    {isPart : Bool} (axle : c.method = .axleSum)
    (h : VisitSettled s t n c ticket slot v role isPart c.gathered) : VisitSums s t n c ticket slot v role isPart where
  record := by
    refine ⟨gatheredLegal s n isPart c.gathered, ?_, gatheredLegal_sum_iff s n c isPart, ?_⟩
    · rw [h.vt]
      simp only [settledList, handedEntry, axle, partialEntry]
      cases isPart <;> rfl
    · rw [h.engine, axle]
      rfl
  stays hp := by
    obtain ⟨lanes, barriers⟩ := h.stays hp
    exact ⟨by rw [State.lane, lanes, State.lane], by rw [State.barrier, barriers, State.barrier]⟩
  passes := h.passes
  notice := h.notice

/-! ### TERMINATE -/

theorem exec_terminate {s : State} {n : Fin 4} (h : Accepts s (.terminate n.val)) :
    exec (.terminate n.val) s = replyTo (.terminate n.val) (s.terminateAt n) := by
  show execTerminate n.val s = _
  refine (request_replies _ h).trans ?_
  rw [onLane_fin]

theorem exec_terminate_running {s : State} {n : Fin 4} {c : Capture} (h : Accepts s (.terminate n.val))
    (run : (s.engine n).run = some c) (quiet : (s.endByRequest n c).tryOnIdle n s = s.endByRequest n c) :
    exec (.terminate n.val) s = .next (answered (s.endByRequest n c) (.terminate n.val) .ok .empty) := by
  rw [exec_terminate h]
  simp only [State.terminateAt, run, quiet, replyTo_done]

/-- Settles O36: with no capture running by the lane's waiting CAPTURE, and else by how the capture's failure or its
settled groups end it. -/
theorem capturesEndEarly : Obligations.CapturesEndEarly := by
  unfold Obligations.CapturesEndEarly
  intro s n h
  refine ⟨fun run pending => ?_, fun run pending => ?_, fun c run bare => ?_, fun c run axle groups => ?_⟩
  · rw [exec_terminate h]
    simp [State.terminateAt, run, pending]
  · rw [exec_terminate h]
    simp [State.terminateAt, run, pending]
  · have ends : s.endByRequest n c = s.settleFailed n c .aborted := by
      simp [State.endByRequest, Capture.hasGroups_not bare]
    refine ⟨fun may => ?_, fun ticket slot v third => ?_⟩
    · have alone := State.settleFailed_alone may .aborted
      rw [exec_terminate_running h run (by rw [ends]; exact alone.tryOnIdle), ends]
      exact ⟨_, rfl, alone.rest, alone.others, alone.fails⟩
    · have fails := State.settleFailed_third third .aborted
      rw [exec_terminate_running h run (by rw [ends]; exact fails.tryOnIdle), ends]
      exact ⟨_, rfl, fails.rest, fails.others, fails.fails⟩
  · intro isPart
    have ends : s.endByRequest n c = s.settleGathered n c isPart c.gathered := by
      simp [State.endByRequest, Capture.hasGroups_of axle groups, isPart]
    refine ⟨fun test => ?_, fun ticket slot v role purpose tables state bound found lane hr partly room => ?_⟩
    · have settled := State.settleGathered_test (s := s) (n := n) test isPart c.gathered
      rw [exec_terminate_running h run (by rw [ends]; exact settled.tryOnIdle), ends]
      exact ⟨_, _, rfl, settled.rest, settled.others, settled.sums axle, by rw [settled.engine], by rw [settled.engine]⟩
    · have serves : Serves s n c ticket slot v role := ⟨purpose, found, lane, roleOf_iff.mp hr, room⟩
      have settled : VisitSettled s (s.settleGathered n c isPart c.gathered) n c ticket slot v role isPart c.gathered := by
        by_cases hp : isPart = true
        · rw [hp]
          exact State.settleGathered_part serves _
        · rw [Bool.eq_false_iff.mpr hp]
          exact State.settleGathered_complete serves (partly.resolve_right hp) state bound _
      rw [exec_terminate_running h run (by rw [ends]; exact settled.tryOnIdle), ends]
      exact ⟨_, rfl, settled.rest, settled.others, settled.sums axle⟩

/-! ### A failure or a sum seen from the state before a deck changed -/

section Deck

variable {s u t : State} {n : Fin 4} {c : Capture}

/-- Only decks and notices differ, and no deck but that of lane `n`. -/
structure DeckMoved (s u : State) (n : Fin 4) : Prop where
  rest   : u = { s with decks := u.decks, notices := u.notices }
  others : ∀ m, m ≠ n → u.deck m = s.deck m

theorem DeckMoved.othersKept (h : DeckMoved s u n) : OtherLanesKept s u n := fun m hm => by
  have lanes := congrArg State.lanes h.rest
  have barriers := congrArg State.barriers h.rest
  have engines := congrArg State.engines h.rest
  exact ⟨by rw [State.lane, lanes, State.lane], by rw [State.barrier, barriers, State.barrier], h.others m hm,
    by rw [State.engine, engines, State.engine]⟩

theorem DeckMoved.lane (h : DeckMoved s u n) (m : Fin 4) : u.lane m = s.lane m := by rw [h.rest]; rfl

theorem DeckMoved.barrier (h : DeckMoved s u n) (m : Fin 4) : u.barrier m = s.barrier m := by rw [h.rest]; rfl

theorem DeckMoved.engine (h : DeckMoved s u n) (m : Fin 4) : u.engine m = s.engine m := by rw [h.rest]; rfl

theorem DeckMoved.now (h : DeckMoved s u n) : u.now = s.now := by rw [h.rest]; rfl

theorem DeckMoved.frames (h : DeckMoved s u n) (x : Setting) : u.frames x = s.frames x := by rw [h.rest]; rfl

theorem DeckMoved.vt (h : DeckMoved s u n) : u.vt = s.vt := by rw [h.rest]

theorem DeckMoved.byTicket (h : DeckMoved s u n) (t : Nat) : u.byTicket t = s.byTicket t := by
  rw [State.byTicket, h.vt, State.byTicket]

theorem DeckMoved.fails {r : FailReason} (h : DeckMoved s u n) (hf : CaptureFails u t n c r) :
    CaptureFails s t n c r where
  engine := by rw [hf.engine, h.engine]
  lane := by rw [hf.lane, h.lane, h.now]
  notice := hf.notice

theorem DeckMoved.mayFail (h : DeckMoved s u n) (hm : MayFail s n c) : MayFail u n c := by
  unfold MayFail
  rw [h.engine]
  exact hm

theorem DeckMoved.third {ticket slot : Nat} {v : Visit} (h : DeckMoved s u n)
    (ht : AtThirdFailure s n c ticket slot v) : AtThirdFailure u n c ticket slot v where
  serves := ht.serves
  two := by rw [h.engine, ht.two]
  tables := by rw [h.rest]; exact ⟨ht.tables.records, ht.tables.vehicles, ht.tables.permits⟩
  lane := by rw [h.lane]; exact ht.lane
  record := by rw [h.byTicket]; exact ht.record
  recovers := by rw [h.frames]; exact ht.recovers

theorem DeckMoved.releases {ticket : Nat} (h : DeckMoved s u n) (hr : Releases u t n ticket) :
    Releases s t n ticket where
  lane := by rw [hr.lane, h.lane, h.frames]
  barrier := hr.barrier
  notice := hr.notice

theorem DeckMoved.letsPass {ticket : Nat} (h : DeckMoved s u n) (hl : LetsPass u t n ticket) :
    LetsPass s t n ticket where
  lane := by rw [hl.lane, h.lane, h.frames]
  order := hl.order
  tracks := hl.tracks

theorem DeckMoved.thirdFails {ticket slot : Nat} {v : Visit} {r : FailReason} (h : DeckMoved s u n)
    (ht : ThirdFails u t n c ticket slot v r) : ThirdFails s t n c ticket slot v r where
  records := by rw [ht.records, h.vt]
  releases := h.releases ht.releases
  engine := ht.engine
  notice := ht.notice

/-- R99: a deck of lane `n` written, and the levels that follow. -/
theorem DeckMoved.of_setDeck (s : State) (n : Fin 4) (d : Deck) : DeckMoved s (s.setDeck n d).followLevels n :=
  ⟨rfl, fun m hm => by rw [State.deck_followLevels, s.deck_setDeck_of_ne d hm]⟩

end Deck

/-! ### The expiries (R99, R103, R121) -/

/-- R99: the deck record as it enters NO_DATA. -/
def emptiedDeck (d : Deck) : Deck := { d with state := .noData, window := none, last := none, noData := 4 }

theorem State.missData_eq {s : State} {n : Fin 4} (h : (s.deck n).state ≠ .noData) : s.missData n =
    (((s.setDeck n (emptiedDeck (s.deck n))).followLevels).captureReading n .noData 0 false).tryOnIdle n s := by
  unfold missData enterNoData emptiedDeck
  simp only [h, if_false]

theorem exec_noDataEntry {s : State} {n : Fin 4} (up : s.rstLow = false) (enabled : (s.deck n).params.isSome = true)
    (h : (s.deck n).state ≠ .noData) (missed : 4 ≤ (s.deck n).noData) :
    exec (.noDataEntry n) s = .next (s.missData n) :=
  show execNoDataEntry n s = _ from when_holds _ up (by simp [State.noDataDue, enabled, h, missed])

theorem exec_captureTimerExpiry {s : State} {n : Fin 4} {c : Capture} (up : s.rstLow = false)
    (run : (s.engine n).run = some c) (timer : c.timer = some 0) (missed : (s.deck n).noData < 4)
    (heard : (s.unit (digitizer n)).badRun < 8) : exec (.captureTimerExpiry n) s = .next (s.endCapture n) := by
  refine show execCaptureTimerExpiry n s = _ from when_holds _ up ?_
  have h4 : ¬ 4 ≤ (s.deck n).noData := by omega
  simp [State.captureDue, run, timer, Timer.due, State.noDataDue, h4, State.lostDue, Config.lossFrames]
  exact .inr (decide_eq_false (Nat.not_le.mpr heard))

/-- Settles O43: the tracking timer, NO_DATA by what the engine runs, and the capture limit by what has been gathered. -/
theorem deckTimersAct : Obligations.DeckTimersAct := by
  unfold Obligations.DeckTimersAct
  intro s n up
  refine ⟨fun timer => ?tracking, fun enabled state missed => ?noData, fun c run timer missed heard => ?limit⟩
  case tracking =>
    exact show execTrackingTimerExpiry n s = _ from when_holds _ up (by simp [timer, Timer.due])
  case noData =>
    intro emptied
    rw [exec_noDataEntry up enabled state missed, State.missData_eq state]
    have moved := DeckMoved.of_setDeck s n (emptiedDeck (s.deck n))
    have deck : ((s.setDeck n (emptiedDeck (s.deck n))).followLevels).deck n = emptied := by
      rw [State.deck_followLevels, State.deck_setDeck_self]
      rfl
    generalize (s.setDeck n (emptiedDeck (s.deck n))).followLevels = u at moved deck
    refine ⟨fun run => ?_, fun c run may => ?_, fun c ticket slot v run third => ?_⟩
    · have idle : u.captureReading n .noData 0 false = u := by
        simp only [State.captureReading, moved.engine, run]
      rw [idle, State.tryOnIdle_of_same (by rw [moved.lane])]
      exact ⟨_, rfl, moved.rest, moved.others, deck⟩
    · have fails : u.captureReading n .noData 0 false = u.settleFailed n c .noData := by
        simp only [State.captureReading, moved.engine, run]
      have alone := State.settleFailed_alone (moved.mayFail may) .noData
      rw [fails, State.tryOnIdle_of_same (by rw [alone.state, moved.lane])]
      refine ⟨_, rfl, ?_, moved.othersKept.trans alone.others, ?_, moved.fails alone.fails⟩
      · rw [alone.rest, moved.rest]
      · rw [alone.rest]
        exact deck
    · have fails : u.captureReading n .noData 0 false = u.settleFailed n c .noData := by
        simp only [State.captureReading, moved.engine, run]
      have thirdFails := State.settleFailed_third (moved.third third) .noData
      rw [fails, thirdFails.tryOnIdle]
      refine ⟨_, rfl, ?_, moved.othersKept.trans thirdFails.others, ?_, moved.thirdFails thirdFails.fails⟩
      · rw [thirdFails.rest, moved.rest]
      · rw [thirdFails.rest]
        exact deck
  case limit =>
    rw [exec_captureTimerExpiry up run timer missed heard]
    refine ⟨fun bare => ?_, fun axle groups => ?_⟩
    · have ends : s.endCapture n = (s.settleFailed n c .noStable).tryOnIdle n s := by
        simp [State.endCapture, run, Capture.hasGroups_not bare]
      rw [ends]
      refine ⟨fun may => ?_, fun ticket slot v third => ?_⟩
      · have alone := State.settleFailed_alone may .noStable
        rw [alone.tryOnIdle]
        exact ⟨_, rfl, alone.rest, alone.others, alone.fails⟩
      · have fails := State.settleFailed_third third .noStable
        rw [fails.tryOnIdle]
        exact ⟨_, rfl, fails.rest, fails.others, fails.fails⟩
    · have ends : s.endCapture n = (s.settleGathered n c true c.gathered).tryOnIdle n s := by
        simp [State.endCapture, run, Capture.hasGroups_of axle groups]
      rw [ends]
      refine ⟨fun test => ?_, fun ticket slot v role purpose found lane hr room => ?_⟩
      · have settled := State.settleGathered_test (s := s) (n := n) test true c.gathered
        rw [settled.tryOnIdle]
        exact ⟨_, rfl, settled.rest, settled.others, settled.sums axle, by rw [settled.engine], by rw [settled.engine]⟩
      · have settled := State.settleGathered_part (g := c.gathered)
          (⟨purpose, found, lane, roleOf_iff.mp hr, room⟩ : Serves s n c ticket slot v role)
        obtain ⟨lanes, barriers⟩ := settled.stays rfl
        rw [settled.tryOnIdle]
        refine ⟨_, rfl, ?_, settled.others, settled.sums axle⟩
        conv_lhs => rw [settled.rest, lanes, barriers]

end Sys2Proof.Machine
end

section
/-! The reading of a sample (R94 to R98), and what it makes of an AXLE_SUM capture (R119, R120). -/

namespace Sys2Proof.Machine

/-! ### A sample that gives a weight -/

/-- R143: the state once the delivered message has been taken. -/
def State.undelivered (s : State) : State := { s with loop := { s.loop with delivery := none } }

/-- R94 to R98: a deck has taken a sample and stands in a state; nothing outside it but its notices has changed. -/
structure ReadingTaken (s u : State) (n : Fin 4) (st : DeckState) : Prop where
  moved     : DeckMoved s u n
  state     : (u.deck n).state = st
  params    : (u.deck n).params = (s.deck n).params
  certified : (u.deck n).certified = (s.deck n).certified
  zero      : st ≠ .empty → (u.deck n).zeroFault = (s.deck n).zeroFault

/-- R97, R98: the state that a weight gives the deck is the one it reads as. -/
theorem ReadsAs.settled {s : State} {n : Fin 4} {p : DeckParams} {weight : Int} {st : DeckState}
    (h : ReadsAs s n p weight st) (d : Deck) (window : d.window = (s.deck n).window) :
    (d.settle p weight (s.frames .dwell)).state = st := by
  unfold Deck.settle
  cases h with
  | empty light => simp [deckStateOf, light]
  | stable w heavy hw near dwelt counted =>
    have light : ¬ weight.natAbs ≤ 5 * p.division := Nat.not_le.mpr heavy
    have four : 4 ≤ min Config.countStop (w.count + 1) := by
      have : Config.countStop = 65535 := rfl
      omega
    simp [deckStateOf, light, window, hw, placeInWindow, near, Window.judge, dwelt, four]
  | started heavy apart =>
    have light : ¬ weight.natAbs ≤ 5 * p.division := Nat.not_le.mpr heavy
    rw [window]
    cases hw : (s.deck n).window with
    | none => simp [deckStateOf, light, placeInWindow, Window.judge]
    | some w =>
      have far : ¬ (weight - w.ref).natAbs ≤ p.division := Nat.not_le.mpr (apart w hw)
      simp [deckStateOf, light, placeInWindow, Window.judge, far]
  | settling w heavy hw near early =>
    have light : ¬ weight.natAbs ≤ 5 * p.division := Nat.not_le.mpr heavy
    have early : ¬ (s.frames .dwell ≤ w.age ∧ 4 ≤ min Config.countStop (w.count + 1)) := by
      omega
    simp only [deckStateOf, light, if_false, window, hw, placeInWindow, near, if_true, Window.judge]
    rw [if_neg]
    simpa using early

/-- R103: the deck record a tracking step writes. -/
def zeroedDeck (s : State) (n : Fin 4) (p : DeckParams) (raw : Nat) : Deck :=
  { s.deck n with
    workingZero := raw, tracking := Timer.load (s.frames .dwell)
    zeroFault := (s.deck n).zeroFault || !p.inZeroRange raw }

theorem State.trackZero_eq (s : State) (n : Fin 4) (p : DeckParams) (raw : Nat) : s.trackZero n p raw =
    { s.setDeck n (zeroedDeck s n p raw) with notices := (s.trackZero n p raw).notices } := by
  simp only [trackZero]
  split <;> rfl

theorem State.trackZero_rest (s : State) (n : Fin 4) (p : DeckParams) (raw : Nat) : s.trackZero n p raw = { s with
    decks := (s.trackZero n p raw).decks, notices := (s.trackZero n p raw).notices } := by
  rw [trackZero_eq]
  rfl

theorem State.trackZero_deck (s : State) (n m : Fin 4) (p : DeckParams) (raw : Nat) :
    (s.trackZero n p raw).deck m = (s.setDeck n (zeroedDeck s n p raw)).deck m := by
  rw [trackZero_eq]
  rfl

/-- R94, R103: what a zero tracking step can leave of a deck that has just been written. -/
theorem ReadingTaken.of_sample {s : State} {n : Fin 4} {st : DeckState} {d : Deck} (p : DeckParams) (raw : Nat)
    (kg : Int) (state : d.state = st) (params : d.params = (s.deck n).params)
    (certified : d.certified = (s.deck n).certified) (zero : d.zeroFault = (s.deck n).zeroFault) :
    ReadingTaken s (((s.setDeck n d).trackIfDue n p raw kg).followLevels) n st := by
  unfold State.trackIfDue
  split
  · rename_i tracks
    have deck : (((s.setDeck n d).trackZero n p raw).followLevels).deck n = zeroedDeck (s.setDeck n d) n p raw := by
      rw [State.deck_followLevels, State.trackZero_deck, State.deck_setDeck_self]
    refine ⟨⟨?_, fun m hm => ?_⟩, ?_, ?_, ?_, fun hne => ?_⟩
    · simp only [State.followLevels]
      rw [State.trackZero_rest]
      rfl
    · rw [State.deck_followLevels, State.trackZero_deck, State.deck_setDeck_of_ne _ _ hm,
        State.deck_setDeck_of_ne _ _ hm]
    · rw [deck, ← state]
      simp [zeroedDeck]
    · rw [deck, ← params]
      simp [zeroedDeck]
    · rw [deck, ← certified]
      simp [zeroedDeck]
    · simp only [State.deck_setDeck_self, Deck.tracks, Deck.emptyAndStable, state, hne, decide_false, Bool.false_and,
        Bool.false_eq_true] at tracks
  · exact ⟨DeckMoved.of_setDeck s n d, by simpa using state, by simpa using params, by simpa using certified,
      fun _ => by simpa using zero⟩

/-- R94 to R98, R101: the sample is taken, and the engine is handed the reading. -/
theorem exec_deckSample_reads {s : State} {n : Fin 4} {raw : BitVec 24} {frame : Nat} {p : DeckParams} {weight : Int}
    {st : DeckState} (h : Sampled s n raw frame p weight) (r : ReadsAs s n p weight st) :
    ∃ u, ReadingTaken s.undelivered u n st ∧ exec (.deckSample n raw false) s =
      .next ((u.captureReading n st weight (!(u.deck n).zeroFault)).tryOnIdle n s.undelivered) := by
  have weighs : weight = weightOf (kgReading raw.toNat (s.deck n).workingZero p.span) p.division := h.weighs
  have light : p.overloads false weight = false := by
    have := h.within
    simp only [DeckParams.overloads, Bool.false_or, decide_eq_false_iff_not]
    push_cast
    omega
  have heard : s.undelivered.digitizerDown n = false := by
    obtain ⟨hl, ha⟩ := h.heard
    exact Bool.or_eq_false_iff.mpr ⟨decide_eq_false hl, decide_eq_false ha⟩
  have taken : ReadingTaken s.undelivered
      ((((s.undelivered).setDeck n (((s.deck n).writeSample p raw.toNat false frame).settle p weight
        (s.frames .dwell))).trackIfDue n p raw.toNat (kgReading raw.toNat (s.deck n).workingZero p.span)).followLevels)
      n st :=
    ReadingTaken.of_sample p raw.toNat _ (r.settled _ rfl) rfl rfl rfl
  refine ⟨_, taken, ?_⟩
  show execDeckSample n raw false s = _
  refine (deliver_taken _ h.up h.waits).trans ?_
  have enabled : (s.undelivered.deck n).params = some p := h.enabled
  show Host.Outcome.next (s.undelivered.takeDeckSample n raw.toNat false frame) = _
  unfold State.takeDeckSample
  rw [enabled]
  simp only [heard, Bool.false_eq_true, if_false]
  unfold State.takeSample
  have same : weightOf (kgReading raw.toNat (s.undelivered.deck n).workingZero p.span) p.division = weight := weighs.symm
  simp only [same, light, Bool.false_eq_true, if_false]
  rw [show s.undelivered.deck n = s.deck n from rfl, show s.undelivered.frames .dwell = s.frames .dwell from rfl,
    taken.state]

end Sys2Proof.Machine
end

section
/-! The readings of an AXLE_SUM capture (R119, R120). -/

namespace Sys2Proof.Machine

/-! ### A capture that goes on -/

theorem State.goOn_self {s : State} {n : Fin 4} {c : Capture} (run : (s.engine n).run = some c) : s.goOn n c = s := by
  have same : ({ s.engine n with run := some c } : Engine) = s.engine n := by rw [← run]
  rw [goOn, same]
  simp [setEngine, engine, Vector.get_eq_getElem]

/-- R126: a settlement ends the run, whatever capture it went on as. -/
theorem State.goOn_endBurst (s : State) (n : Fin 4) (c : Capture) : (s.goOn n c).endBurst n c = s.endBurst n c := by
  have ended : (s.goOn n c).setEngine n { (s.goOn n c).engine n with run := none } =
      s.setEngine n { s.engine n with run := none } := by
    rw [goOn, engine_setEngine_self, setEngine_setEngine]
  unfold endBurst settleFailed settleGathered
  rw [ended]

theorem burstEnds_iff (c : Capture) : c.burstEnds = true ↔ BurstFull c := by
  unfold Capture.burstEnds BurstFull
  rw [Bool.or_eq_true, decide_eq_true_eq]
  refine or_congr Iff.rfl ?_
  cases c.burst <;> simp

theorem State.judgeBurst_on {s : State} {n : Fin 4} {c : Capture} (h : ¬ BurstFull c) :
    s.judgeBurst n c = s.goOn n c := by
  have : c.burstEnds = false := Bool.eq_false_iff.mpr fun hb => h ((burstEnds_iff c).mp hb)
  simp [judgeBurst, this]

theorem State.judgeBurst_end {s : State} {n : Fin 4} {c : Capture} (h : BurstFull c) :
    s.judgeBurst n c = s.endBurst n c := by
  simp [judgeBurst, (burstEnds_iff c).mpr h, goOn_endBurst]

/-- R119: the reading after which the capture goes on; only a STABLE one looks at the zero range. -/
theorem State.axleReading_goesOn {s : State} {n : Fin 4} {c c' : Capture} {weight : Int} {inRange inRange' : Bool}
    {st : DeckState} (run : (s.engine n).run = some c) (h : AxleGoesOn c weight inRange st c')
    (same : st ≠ .empty → inRange' = inRange) : s.axleReading n c st weight inRange' = s.goOn n c' := by
  cases h with
  | between phase more =>
    have : ¬ (c.burst = .open ∧ c.beyondSeen = true ∧ 1 ≤ c.counted) := more
    simp only [axleReading, phase, this, if_false, goOn_self run]
  | arrives phase => simp only [axleReading, phase]
  | records phase more =>
    rw [same (by decide)]
    rcases phase with phase | phase <;> simp only [axleReading, phase] <;> exact judgeBurst_on more
  | waits phase => simp only [axleReading, phase, goOn_self run]
  | rocks phase => simp only [axleReading, phase, goOn_self run]
  | stands phase => simp only [axleReading, phase, goOn_self run]
  | leaves phase => simp only [axleReading, phase]
  | misses phase more =>
    simp only [axleReading, phase]
    exact judgeBurst_on more

/-- R119, R120: the reading that ends the burst. -/
theorem State.axleReading_ends {s : State} {n : Fin 4} {c c' : Capture} {weight : Int} {inRange inRange' : Bool}
    {st : DeckState} (h : AxleEnds c weight inRange st c') (same : st ≠ .empty → inRange' = inRange) :
    s.axleReading n c st weight inRange' = s.endBurst n c' := by
  cases h with
  | runsOut phase burst beyond counted =>
    simp only [axleReading, phase, burst, beyond, counted, and_self, if_true]
  | records phase full =>
    rw [same (by decide)]
    rcases phase with phase | phase <;> simp only [axleReading, phase] <;> exact judgeBurst_end full
  | misses phase full =>
    simp only [axleReading, phase]
    exact judgeBurst_end full

theorem AxleEnds.serves {c c' : Capture} {weight : Int} {inRange : Bool} {st : DeckState}
    (h : AxleEnds c weight inRange st c') : c'.purpose = c.purpose ∧ c'.method = c.method := by
  cases h <;> exact ⟨rfl, rfl⟩

theorem State.captureReading_axle {s : State} {n : Fin 4} {c : Capture} {st : DeckState} {weight : Int} {inRange : Bool}
    (run : (s.engine n).run = some c) (axle : c.method = .axleSum)
    (h : st = .empty ∨ st = .motion ∨ st = .stable) :
    s.captureReading n st weight inRange = s.axleReading n c st weight inRange := by
  rcases h with rfl | rfl | rfl <;> simp only [captureReading, run, axle]

theorem ReadsAs.reading {s : State} {n : Fin 4} {p : DeckParams} {weight : Int} {st : DeckState}
    (h : ReadsAs s n p weight st) : st = .empty ∨ st = .motion ∨ st = .stable := by
  cases h <;> simp

/-! ### The weighing seen from the state before the sample -/

theorem DeckMoved.serves {s u : State} {n : Fin 4} {c : Capture} {ticket slot : Nat} {v : Visit} {role : Role}
    (h : DeckMoved s u n) (hs : Serves s n c ticket slot v role) : Serves u n c ticket slot v role :=
  ⟨hs.purpose, (h.byTicket ticket).trans hs.found, hs.lane, hs.role, hs.room⟩

theorem ReadingTaken.gatheredLegal {s u : State} {n : Fin 4} {st : DeckState} (h : ReadingTaken s u n st)
    (isPart : Bool) (g : Gathered) : gatheredLegal u n isPart g = gatheredLegal s n isPart g := by
  simp only [Machine.gatheredLegal, State.legalMark, h.params, h.certified]

theorem ReadingTaken.testSums {s u t : State} {n : Fin 4} {st : DeckState} {c : Capture} {result : CaptureResult}
    {legal : Bool} (h : ReadingTaken s u n st) (ht : TestSums u t n c result legal) :
        TestSums s t n c result legal where
  lane := by rw [ht.lane, h.moved.lane, h.moved.now]
  last := ht.last
  legal := by rw [ht.legal, h.certified, h.params]
  notice := ht.notice

theorem ReadingTaken.visitSums {s u t : State} {n : Fin 4} {st : DeckState} {c : Capture} {ticket slot : Nat}
    {v : Visit}
    {role : Role} {isPart : Bool} (h : ReadingTaken s u n st) (ht : VisitSums u t n c ticket slot v role isPart) :
    VisitSums s t n c ticket slot v role isPart where
  record := by
    obtain ⟨legal, vt, mark, engine⟩ := ht.record
    have entry (k : Standing) : partialEntry u n c role k = partialEntry s n c role k := by
      simp only [partialEntry, h.moved.now]
    refine ⟨legal, ?_, ?_, ?_⟩
    · rw [vt, h.moved.vt]
      simp only [entry]
    · rw [mark, h.certified, h.params]
    · rw [engine, h.moved.engine]
  stays hp := by
    obtain ⟨lane, barrier⟩ := ht.stays hp
    exact ⟨lane.trans (h.moved.lane n), barrier.trans (h.moved.barrier n)⟩
  passes hp := h.moved.letsPass (ht.passes hp)
  notice := ht.notice

/-- R56: of the state before a step only the lane's state tells whether the step has entered IDLE. -/
theorem State.tryOnIdle_before {s u t : State} {n : Fin 4} (h : (s.lane n).state = (u.lane n).state) :
    t.tryOnIdle n s = t.tryOnIdle n u := by
  unfold tryOnIdle
  rw [h]

/-- Settles O42: the sample gives the deck its state, and the reading makes the capture go on or ends its burst. -/
theorem axleGroupsAreGathered : Obligations.AxleGroupsAreGathered := by
  unfold Obligations.AxleGroupsAreGathered
  intro s n raw frame p weight st c c' i sum h r run axle
  obtain ⟨u, taken, step⟩ := exec_deckSample_reads h r
  have moved := taken.moved
  have running : (u.engine n).run = some c := (congrArg Engine.run (moved.engine n)).trans run
  have zero : st ≠ .empty → (!(u.deck n).zeroFault) = !(s.deck n).zeroFault := fun hne =>
    congrArg (!·) (taken.zero hne)
  rw [show exec i s = exec (.deckSample n raw false) s from rfl, step,
    State.captureReading_axle running axle r.reading,
    State.tryOnIdle_before (u := u) (congrArg Lane.state (moved.lane n)).symm]
  refine ⟨fun goes => ?_, fun ends => ?_⟩
  · rw [State.axleReading_goesOn running goes zero]
    rw [State.tryOnIdle_of_same (s := u) (t := u.goOn n c') rfl]
    refine ⟨_, rfl, ?_, moved.othersKept.trans (OtherLanesKept.setEngine u _), taken.state, ?_⟩
    · conv_lhs => rw [moved.rest]
      rw [moved.rest]
      rfl
    · rw [State.goOn, State.engine_setEngine_self, moved.engine]
      rfl
  · obtain ⟨purpose, method⟩ := ends.serves
    rw [State.axleReading_ends ends zero]
    refine ⟨fun bare may => ?_, fun groups test => ?_, fun ticket slot v role groups tables state bound found lane room
      visit hr => ?_⟩
    · have burst : u.endBurst n c' = u.settleFailed n c' .noStable := by simp [State.endBurst, bare]
      have mayFail : MayFail u n c' := by
        unfold MayFail
        rw [purpose]
        exact moved.mayFail may
      have alone := State.settleFailed_alone mayFail .noStable
      rw [burst, alone.tryOnIdle]
      have fails := moved.fails alone.fails
      refine ⟨_, rfl, ?_, moved.othersKept.trans alone.others, ⟨?_, ?_, fails.notice⟩⟩
      · rw [alone.rest, moved.rest]
        rfl
      · rw [fails.engine, purpose, method]
        rfl
      · rw [fails.lane, purpose, method]
        rfl
    · have burst : u.endBurst n c' = u.settleGathered n c' c'.missed c'.gathered := by simp [State.endBurst, groups]
      have settled := State.settleGathered_test (s := u) (n := n) (purpose.trans test) c'.missed c'.gathered
      rw [burst, settled.tryOnIdle]
      have sums := taken.testSums (settled.sums (method.trans axle))
      refine ⟨_, _, rfl, ?_, moved.othersKept.trans settled.others, ⟨sums.lane, sums.last, sums.legal, sums.notice⟩,
        by rw [settled.engine], ?_⟩
      · rw [settled.rest, moved.rest]
        rfl
      · rw [settled.engine, moved.engine]
        rfl
    · have burst : u.endBurst n c' = u.settleGathered n c' c'.missed c'.gathered := by simp [State.endBurst, groups]
      have notExit : role ≠ .exit := by rcases hr with ⟨-, rfl⟩ | ⟨-, rfl⟩ <;> decide
      have gives : roleOf v.state = some role := by rcases hr with ⟨hv, rfl⟩ | ⟨hv, rfl⟩ <;> rw [hv] <;> rfl
      have serves : Serves u n c' ticket slot v role :=
        moved.serves ⟨purpose.trans visit, found, lane, gives, room⟩
      have settled : VisitSettled u (u.settleGathered n c' c'.missed c'.gathered) n c' ticket slot v role c'.missed
          c'.gathered := by
        cases hm : c'.missed with
        | true => exact State.settleGathered_part serves _
        | false =>
          exact State.settleGathered_complete serves notExit ((congrArg Lane.state (moved.lane n)).trans state)
            ((congrArg Lane.bound (moved.lane n)).trans bound) _
      rw [burst, settled.tryOnIdle]
      have sums := taken.visitSums (settled.sums (method.trans axle))
      generalize u.settleGathered n c' c'.missed c'.gathered = t at settled sums
      obtain ⟨legal, vt, mark, engine⟩ := sums.record
      refine ⟨_, legal, rfl, ?_, moved.othersKept.trans settled.others, ?_, sums.stays,
        fun hp => ⟨(sums.passes hp).lane, (sums.passes hp).order, (sums.passes hp).tracks⟩, ?_, sums.notice⟩
      · have decks : t.decks = u.decks := by rw [settled.rest]
        rw [decks]
        conv_lhs => rw [settled.rest, moved.rest, vt]
        rfl
      · refine mark.trans (and_congr_right fun _ => and_congr_right fun _ => and_congr_right fun _ => ?_)
        rw [show (s.undelivered.deck n).params = some p from h.enabled]
        exact ⟨fun ⟨q, hq, hw⟩ => by cases hq; exact hw, fun hw => ⟨p, rfl, hw⟩⟩
      · rw [engine, purpose]
        rfl

end Sys2Proof.Machine
end

section
/-! Clearance (R21, R22, R36): the nets, and what a clearance leaves that completes, or that holds the record. -/

namespace Sys2Proof.Machine

/-! ### A record written in its place -/

namespace Table

variable {α : Type}

theorem put_put (t : Table α) (k : Nat) (a b : α) : (t.put k a).put k b = t.put k b := by
  induction t with
  | nil => simp [put]
  | cons p rest ih =>
    obtain ⟨j, c⟩ := p
    by_cases hlt : k < j
    · simp [put, hlt]
    · by_cases heq : k = j
      · simp [put, heq]
      · simp [put, hlt, heq, ih]

/-- The first entry that meets a test is still the first one after it has been replaced by another that meets it. -/
theorem find_put {t : Table α} {p : α → Bool} {k : Nat} {a b : α} (h : t.find p = some (k, a)) (hw : t.wf)
    (hb : p b = true) : (t.put k b).find p = some (k, b) := by
  induction t with
  | nil => cases h
  | cons e rest ih =>
    obtain ⟨j, c⟩ := e
    have hr : Table.wf rest := (List.pairwise_cons.mp hw).2
    unfold find at h ih ⊢
    by_cases hc : p c = true
    · rw [List.find?_cons_of_pos (by exact hc)] at h
      cases h
      simp [put, hb]
    · rw [List.find?_cons_of_neg (by exact hc)] at h
      have hjk : j < k := lt_of_mem_tail hw (List.mem_of_find?_eq_some h)
      simp only [put, Nat.lt_asymm hjk, if_false, Nat.ne_of_gt hjk]
      rw [List.find?_cons_of_neg (by exact hc)]
      exact ih h hr

end Table

theorem withChange_withChange (l : List Nat) (k : Nat) : withChange (withChange l k) k = withChange l k := by
  have : k ∈ withChange l k := mem_withChange.mpr (.inr rfl)
  conv_lhs => rw [withChange, if_pos this]

/-- R1: the record a ticket names, once it has been written with the same ticket. -/
theorem State.byTicket_put {s t : State} {ticket slot : Nat} {v w : Visit} (hw : s.vt.records.wf)
    (h : s.byTicket ticket = some (slot, v)) (records : t.vt.records = s.vt.records.put slot w)
    (same : w.ticket = v.ticket) : t.byTicket ticket = some (slot, w) := by
  rw [byTicket, records]
  refine Table.find_put h hw ?_
  rw [same, (byTicket_visit hw h).2]
  simp

/-! ### The nets (R21) -/

theorem netOf_eq_some {d x : Int} {k : Nat} (h : netOf d k = some x) : x = max d 0 := by
  unfold netOf at h
  split at h
  · cases h
    omega
  · split at h
    · cases h
      omega
    · cases h

theorem State.weighingDivision_eq (s : State) (w : Weighing) :
    s.weighingDivision w = w.deck.bind (fun d => (s.deck d).params.map (·.division)) := by
  unfold weighingDivision
  cases w.deck <;> rfl

/-- R21: the net of a difference with the division that judges it, or with some other where the deck has none. -/
def JudgesNet (x : Option Int) (d : Int × Option Nat) : Prop := ∃ k, x = netOf d.1 (d.2.getD k)

theorem State.netDivision_judges (s : State) (a b : Weighing) (k : Nat) (diff : Int) :
    JudgesNet (netOf diff (s.netDivision a b k)) (diff, judgingDivision s a b) := by
  refine ⟨Config.missingDivision (s.free + k), ?_⟩
  rw [netDivision, weighingDivision_eq, judgingDivision]
  congr 3
  split <;> rfl

theorem State.intervalNets_judge (s : State) (ws : List Weighing) (k : Nat) :
    List.Forall₂ JudgesNet (s.intervalNets ws k)
      ((ws.zip (ws.drop 1)).map (fun (a, b) => (a.weight - b.weight, judgingDivision s a b))) := by
  induction ws generalizing k with
  | nil => exact .nil
  | cons a rest ih =>
    cases rest with
    | nil => exact .nil
    | cons b rest => exact .cons (s.netDivision_judges a b k _) (ih (k + 1))

/-- R21: the nets the model takes of the intervals of a record, each present where its difference gives one. -/
def State.netList (s : State) (v : Visit) : List (Option Int) :=
  match v.kind with
  | .tip => s.intervalNets v.countedWeighings 0
  | .load => s.loadNet v.countedWeighings

theorem State.nets_eq (s : State) (v : Visit) :
    s.nets v = if v.countedWeighings.length < 2 then none else (s.netList v).mapM id := by
  unfold nets netList
  rfl

/-- R21: the differences of a record's intervals, and the nets that the model takes of them. -/
theorem State.netList_judges (s : State) (v : Visit) :
    List.Forall₂ JudgesNet (s.netList v) (differencesOf s v) := by
  have counted : countedOf v = v.countedWeighings := rfl
  unfold differencesOf netList
  rw [counted]
  cases v.kind with
  | tip => exact s.intervalNets_judge _ 0
  | load =>
    simp only [loadNet]
    cases v.countedWeighings.head? with
    | none => exact .nil
    | some a =>
      cases v.countedWeighings.getLast? with
      | none => exact .nil
      | some b => exact .cons (s.netDivision_judges a b 0 _) .nil

/-- R21: the nets where every difference gives one, and that one that gives none leaves none. -/
theorem mapM_nets {l : List (Option Int)} {ds : List (Int × Option Nat)} (h : List.Forall₂ JudgesNet l ds) :
    ((∀ d ∈ ds, 0 ≤ d.1 ∨ ∃ division : Nat, d.2 = some division ∧ -(division : Int) ≤ d.1) →
      l.mapM id = some (ds.map (fun d => max d.1 0))) ∧
    ((∃ d ∈ ds, ∃ division : Nat, d.2 = some division ∧ d.1 < -(division : Int)) → l.mapM id = none) ∧
    ∀ ns, l.mapM id = some ns → ns = ds.map (fun d => max d.1 0) := by
  induction h with
  | nil =>
    refine ⟨fun _ => rfl, ?_, fun ns hn => ?_⟩
    · rintro ⟨d, hd, -⟩
      cases hd
    · cases hn
      rfl
  | @cons x d xs ds hx _ ih =>
    obtain ⟨k, rfl⟩ := hx
    obtain ⟨completes, holds, gives⟩ := ih
    simp only [List.mapM_cons, id]
    refine ⟨fun hc => ?_, fun hh => ?_, fun ns hn => ?_⟩
    · have here : netOf d.1 (d.2.getD k) = some (max d.1 0) := by
        rcases hc d (by simp) with h0 | ⟨division, hd, hle⟩
        · rw [netOf, if_pos h0, max_eq_left h0]
        · unfold netOf
          rw [hd, Option.getD_some]
          split
          · rw [max_eq_left (by assumption)]
          · rw [max_eq_right (by omega)]
      rw [here, completes fun e he => hc e (List.mem_cons_of_mem _ he)]
      rfl
    · obtain ⟨e, he, division, hd, hlt⟩ := hh
      rcases List.mem_cons.mp he with rfl | he
      · have here : netOf e.1 (e.2.getD k) = none := by
          rw [netOf, hd, Option.getD_some, if_neg (by omega), if_neg (by omega)]
        rw [here]
        rfl
      · rw [holds ⟨e, he, division, hd, hlt⟩]
        cases netOf d.1 (d.2.getD k) <;> rfl
    · cases hx : netOf d.1 (d.2.getD k) with
      | none =>
        rw [hx] at hn
        cases hn
      | some y =>
        cases hxs : xs.mapM id with
        | none =>
          rw [hx, hxs] at hn
          cases hn
        | some ys =>
          rw [hx, hxs] at hn
          cases hn
          rw [List.map_cons, netOf_eq_some hx, gives ys hxs]

/-- R21: the nets the model takes, by the terms of the statements. -/
theorem State.nets_cases (s : State) (v : Visit) :
    (ClearanceCompletes s v → s.nets v = some (netsOf s v)) ∧ (ClearanceHolds s v → s.nets v = none) ∧
      ∀ ns, s.nets v = some ns → ns = netsOf s v ∧ 2 ≤ (countedOf v).length := by
  have counted : countedOf v = v.countedWeighings := rfl
  obtain ⟨completes, holds, gives⟩ := mapM_nets (s.netList_judges v)
  rw [nets_eq]
  refine ⟨fun ⟨two, hc⟩ => ?_, fun hh => ?_, fun ns hn => ?_⟩
  · rw [if_neg (Nat.not_lt.mpr (counted ▸ two)), completes hc]
    rfl
  · rcases hh with few | hh
    · rw [if_pos (counted ▸ few)]
    · rw [holds hh, ite_self]
  · split at hn
    · cases hn
    · rename_i two
      exact ⟨gives ns hn, counted ▸ Nat.not_lt.mp two⟩

/-! ### A clearance that completes (R22, R36, R47) -/

theorem ticketLegal_iff (v : Visit) : State.ticketLegal v = true ↔ ∀ w, (v.kind = .tip ∧ w ∈ countedOf v) ∨
    (v.kind = .load ∧ ((countedOf v).head? = some w ∨ (countedOf v).getLast? = some w)) → w.legal = true := by
  have counted : countedOf v = v.countedWeighings := rfl
  unfold State.ticketLegal
  rw [counted]
  cases v.kind with
  | tip => simp
  | load =>
    simp only [Bool.and_eq_true, Option.all_eq_true, reduceCtorEq, false_and, true_and, false_or]
    exact ⟨fun ⟨hf, hl⟩ w hw => hw.elim (hf w) (hl w), fun h => ⟨fun w hw => h w (.inl hw), fun w hw => h w (.inr hw)⟩⟩

/-- R21 step 1: the tip list that the model fills is that of the statements. -/
theorem filledTips_eq (v : Visit) (primary : Nat) :
    State.filledTips v.tips primary ((countedOf v).length - 1) = filledWith v primary := rfl

theorem State.primaryCategory_of {s : State} {v : Visit} {number : Nat} {p : Permit} (hn : v.permit = some number)
    (hp : s.permits.get number = some p) : s.primaryCategory v = p.primary := by
  simp [primaryCategory, hn, hp]

/-- The register and the permits that a completed clearance of `v` leaves. -/
def State.charged (s : State) (v : Visit) (nets : List Int) : State :=
  let s := { s with free := s.free + v.countedWeighings.length }
  let s := match v.kind, v.permit with
    | .tip, some number => s.debitPermit number nets.sum v.reservation
    | _, _ => s
  s.refreshTare v

theorem State.debitPermit_rest (s : State) (number : Nat) (net reservation : Int) :
    s.debitPermit number net reservation = { s with permits := (s.debitPermit number net reservation).permits } := by
  unfold debitPermit
  split <;> rfl

theorem State.refreshTare_rest (s : State) (v : Visit) :
    s.refreshTare v = { s with vehicles := (s.refreshTare v).vehicles } := by
  unfold refreshTare
  split
  · split <;> rfl
  · rfl

theorem netsOf_length {s : State} {v : Visit} (tip : v.kind = .tip) :
    (netsOf s v).length = (countedOf v).length - 1 := by
  simp [netsOf, differencesOf, tip]

end Sys2Proof.Machine
end

section
/-! What a clearance leaves (R21, R22, R36, R47), and the two ways into it (R18, R19). -/

namespace Sys2Proof.Machine

namespace State

variable {s : State} {n : Fin 4} {slot : Nat} {v : Visit} {ns : List Int}

/-! ### The lane told that its visit is eligible (R60) -/

theorem reportEligible_rest (s : State) (n : Fin 4) : s.reportEligible n = { s with
    lanes := (s.reportEligible n).lanes, barriers := (s.reportEligible n).barriers } := by
  unfold reportEligible
  split <;> rfl

theorem reportEligible_others (s : State) (n : Fin 4) : OtherLanesKept s (s.reportEligible n) n := by
  unfold reportEligible
  split
  · exact enterPassing_others s n
  · exact OtherLanesKept.setLane s _
  all_goals exact OtherLanesKept.refl s n

theorem reportEligible_settling (h : (s.lane n).state = .settling) :
    s.reportEligible n = s.setLane n { s.lane n with eligible := true } := by
  simp only [reportEligible, h]

theorem reportEligible_engine (s : State) (n m : Fin 4) : (s.reportEligible n).engine m = s.engine m := by
  rw [reportEligible_rest]
  rfl

/-! ### The books of a clearance that completes -/

theorem charged_rest (s : State) (v : Visit) (ns : List Int) : s.charged v ns = { s with
    free := s.free + v.countedWeighings.length
    vehicles := (s.charged v ns).vehicles, permits := (s.charged v ns).permits } := by
  unfold charged
  simp only
  rw [refreshTare_rest]
  split
  · rw [debitPermit_rest]
  · rfl

theorem charged_permits (tip : v.kind = .tip) {number : Nat} {p : Permit} (hn : v.permit = some number)
    (hp : s.permits.get number = some p) : (s.charged v ns).permits = s.permits.put number { p with
      balance := max (-2000000000) (p.balance - ns.sum), reserved := p.reserved - v.reservation } := by
  simp only [charged, tip, hn]
  rw [refreshTare_rest]
  simp only [debitPermit, hp]
  rfl

theorem charged_permits_load (load : v.kind = .load) : (s.charged v ns).permits = s.permits := by
  simp only [charged, load]
  rw [refreshTare_rest]

theorem refreshTare_vehicles {veh : Vehicle} {w : Weighing} (hveh : s.vehicles.get v.vehicle = some veh)
    (last : (countedOf v).getLast? = some w) : (s.refreshTare v).vehicles =
      if v.kind = .tip ∧ veh.refresh = true ∧ w.role = .exit ∧ w.legal = true
      then s.vehicles.put v.vehicle { veh with
        tare := veh.tare.map (fun x => { x with kg := w.weight, day := s.clock.day }) }
      else s.vehicles := by
  have last : v.countedWeighings.getLast? = some w := last
  unfold refreshTare
  rw [last, hveh]
  cases v.kind with
  | tip =>
    simp only [true_and]
    split <;> rfl
  | load => rfl

theorem charged_vehicles {veh : Vehicle} {w : Weighing} (hveh : s.vehicles.get v.vehicle = some veh)
    (last : (countedOf v).getLast? = some w) : (s.charged v ns).vehicles =
      if v.kind = .tip ∧ veh.refresh = true ∧ w.role = .exit ∧ w.legal = true
      then s.vehicles.put v.vehicle { veh with
        tare := veh.tare.map (fun x => { x with kg := w.weight, day := s.clock.day }) }
      else s.vehicles := by
  unfold charged
  simp only
  split
  · have kept := debitPermit_rest { s with free := s.free + v.countedWeighings.length } (by assumption) ns.sum
      v.reservation
    rw [refreshTare_vehicles (by rw [kept]; exact hveh) last, kept]
  · exact refreshTare_vehicles (s := { s with free := s.free + v.countedWeighings.length }) hveh last

/-! ### The two outcomes -/

theorem clearance_some (hv : s.visit slot = some v) (hn : s.nets v = some ns) : s.clearance n slot =
    (((s.charged v ns).withRecord slot (s.clearedVisit v ns)).latch .cleared n.val).reportEligible n := by
  simp only [clearance, hv, hn, Option.getD_some]
  rfl

theorem clearance_none (hv : s.visit slot = some v) (hn : s.nets v = none) : s.clearance n slot =
    ({ s with free := s.free + v.countedWeighings.length }.setVisit slot (s.filledVisit v)).holdToReleasing n
      .negativeNet := by
  simp only [clearance, hv, hn]
  rfl

/-- R22: the record that a completed clearance writes, by the terms of the statements. -/
theorem clearedVisit_eq {number : Nat} {p : Permit} (hn : s.nets v = some ns)
    (hp : v.kind = .tip → v.permit = some number ∧ s.permits.get number = some p) : s.clearedVisit v ns = { v with
      tips := if v.kind = .tip
        then (filledWith v p.primary).map (fun x => { x with net := some ((netsOf s v).getD (x.interval - 1) 0) })
        else v.tips
      netTotal := some (netsOf s v).sum, legal := some (ticketLegal v), reservation := 0
      clearedAt := some s.now, state := .cleared } := by
  obtain ⟨rfl, -⟩ := (s.nets_cases v).2.2 ns hn
  unfold clearedVisit
  by_cases tip : v.kind = .tip
  · obtain ⟨hnum, hget⟩ := hp tip
    simp only [tip, if_true, clearedTips, netsOf_length tip, filledTips_eq, primaryCategory_of hnum hget]
  · simp only [tip, if_false]

/-- R21, R22, R36, R47: a clearance whose nets are all there clears the record. -/
theorem clearance_clears {number : Nat} {p : Permit} {veh : Vehicle} (hv : s.visit slot = some v)
    (hn : s.nets v = some ns) (hp : v.kind = .tip → v.permit = some number ∧ s.permits.get number = some p)
    (hveh : s.vehicles.get v.vehicle = some veh) : Cleared s (s.clearance n slot) n slot v number p veh := by
  have nets := ((s.nets_cases v).2.2 ns hn).1
  rw [clearance_some hv hn]
  have rest := reportEligible_rest (((s.charged v ns).withRecord slot (s.clearedVisit v ns)).latch .cleared n.val) n
  generalize (((s.charged v ns).withRecord slot (s.clearedVisit v ns)).latch .cleared n.val).reportEligible n = t at rest
  have vt : t.vt = ((s.charged v ns).withRecord slot (s.clearedVisit v ns)).vt := by rw [rest]; rfl
  have permits : t.permits = (s.charged v ns).permits := by
    rw [rest, withRecord_eq]
    rfl
  have vehicles : t.vehicles = (s.charged v ns).vehicles := by
    rw [rest, withRecord_eq]
    rfl
  constructor
  case record =>
    refine ⟨ticketLegal v, ?_, ticketLegal_iff v⟩
    rw [State.visit, vt, withRecord_vt]
    exact (Table.get_put_self _ _ _).trans (congrArg some (clearedVisit_eq hn hp))
  case permit =>
    rw [permits, ← nets]
    by_cases tip : v.kind = .tip
    · rw [if_pos tip, charged_permits tip (hp tip).1 (hp tip).2]
    · have load : v.kind = .load := by
        cases hk : v.kind with
        | tip => exact absurd hk tip
        | load => rfl
      rw [if_neg tip, charged_permits_load load]
  case refresh =>
    intro w last
    rw [vehicles, charged_vehicles hveh last]
  case notice =>
    rw [rest]
    exact latched_latch _ _ _

/-- R21: what a clearance that holds the record leaves: the record with its filled tips, held, and the lane. -/
theorem clearance_holds {ticket : Nat} (tables : s.vt.records.wf) (found : s.byTicket ticket = some (slot, v))
    (hn : s.nets v = none) (bound : (s.lane n).bound = some ticket) (hs : v.state ≠ .held) (hl : v.lane = some n)
    (recovery : 0 < s.frames .recovery) :
    HeldAtLane ({ s with free := s.free + v.countedWeighings.length }.setVisit slot (s.filledVisit v))
      (s.clearance n slot) n ticket slot (s.filledVisit v) .negativeNet := by
  rw [clearance_none (byTicket_visit tables found).1 hn]
  exact holdToReleasing_holds (Table.put_wf _ _ tables) bound
    (byTicket_put (s := s) (w := s.filledVisit v) tables found rfl rfl) hs hl recovery

theorem filledVisit_eq {number : Nat} {p : Permit}
    (hp : v.kind = .tip → v.permit = some number ∧ s.permits.get number = some p) : s.filledVisit v =
      { v with tips := if v.kind = .tip then filledWith v p.primary else v.tips } := by
  unfold filledVisit
  by_cases tip : v.kind = .tip
  · obtain ⟨hnum, hget⟩ := hp tip
    have counted : v.countedWeighings = countedOf v := rfl
    simp only [tip, if_true, counted, filledTips_eq, primaryCategory_of hnum hget]
  · simp only [tip, if_false]

/-- R21, R169: a clearance that gives no nets holds the record with NEGATIVE_NET. -/
theorem heldUncleared_of {t : State} {ticket number : Nat} {p : Permit}
    (hp : v.kind = .tip → v.permit = some number ∧ s.permits.get number = some p) (hs : v.state = .exiting)
    (h : HeldAtLane ({ s with free := s.free + v.countedWeighings.length }.setVisit slot (s.filledVisit v)) t n ticket
      slot (s.filledVisit v) .negativeNet) : HeldUncleared s t slot v p := by
  obtain ⟨rest, vt, -, -⟩ := h
  constructor
  case record =>
    rw [State.visit, vt]
    refine (Table.get_put_self _ _ _).trans ?_
    rw [filledVisit_eq hp, hs]
  case permits => rw [rest]; rfl
  case vehicles => rw [rest]; rfl

end State

end Sys2Proof.Machine
end

section
/-! Bind claims (R18, R24, R53, R54, R56): what a granted bind leaves, CALL, and a TAG_READ tried at once. -/

namespace Sys2Proof.Machine

/-! ### A grant taken (R53) -/

namespace State

variable {s : State} {n : Fin 4} {slot ticket : Nat} {v : Visit}

theorem bindGrant_others (s : State) (n : Fin 4) (ticket : Nat) (tag : Tag) (eligible : Bool) :
    OtherLanesKept s (s.bindGrant n ticket tag eligible) n :=
  (OtherLanesKept.setLane s _).trans (OtherLanesKept.setEngine _ _)

theorem bindGrant_binds (s : State) (n : Fin 4) (ticket : Nat) (tag : Tag) (eligible : Bool) :
    Binds s (s.bindGrant n ticket tag eligible) n ticket tag eligible where
  lane := by simp [bindGrant]
  engine := by simp [bindGrant]

/-- R18: the record as a bind leaves it. -/
def boundVisit (v : Visit) (n : Fin 4) (st : VisitState) : Visit :=
  { v with state := st, lane := some n, bindMark := v.weighings.length }

end State

theorem Binds.follow {s t : State} {n : Fin 4} {ticket : Nat} {tag : Tag} {eligible : Bool}
    (h : Binds s t n ticket tag eligible) : Binds s t.followLevels n ticket tag eligible :=
  ⟨by rw [State.lane_followLevels, h.lane], by rw [State.engine_followLevels, h.engine]⟩

/-- R18, R53: what a bind of a record leaves. -/
structure BoundAt (s t : State) (n : Fin 4) (ticket slot : Nat) (v : Visit) (st : VisitState) (eligible : Bool) :
    Prop where
  rest   : t = { s with vt := t.vt, lanes := t.lanes, engines := t.engines, notices := t.notices }
  vt     : t.vt = { s.vt with
    records := s.vt.records.put slot (State.boundVisit v n st), changes := withChange s.vt.changes slot }
  binds  : Binds s t n ticket v.tag eligible
  others : OtherLanesKept s t n

theorem State.bindRecord_binds {s : State} {ticket : Nat} {v : Visit} (ht : v.ticket = some ticket) (n : Fin 4)
    (slot : Nat) (st : VisitState) (eligible : Bool) :
    BoundAt s (s.bindRecord n slot v st eligible) n ticket slot v st eligible := by
  have eq : s.bindRecord n slot v st eligible =
      ((s.withRecord slot (boundVisit v n st)).bindGrant n ticket v.tag eligible).followLevels :=
    congrArg (fun t => ((s.withRecord slot (boundVisit v n st)).bindGrant n t v.tag eligible).followLevels)
      (show v.ticket.getD 0 = ticket by rw [ht, Option.getD_some])
  rw [eq]
  have binds := (bindGrant_binds (s.withRecord slot (boundVisit v n st)) n ticket v.tag eligible).follow
  refine ⟨?_, ?_, ⟨?_, ?_⟩, ?_⟩
  · simp only [followLevels, bindGrant]
    rw [withRecord_rest]
    rfl
  · rw [followLevels_vt]
    exact withRecord_vt _ _ _
  · rw [binds.lane, withRecord_lane, withRecord_frames, withRecord_frames]
  · rw [binds.engine, withRecord_engine]
  · exact (withRecord_others s slot _ n).trans <| (bindGrant_others _ _ _ _ _).trans (OtherLanesKept.followLevels _)

theorem BoundAt.settling {s t : State} {n : Fin 4} {ticket slot : Nat} {v : Visit} {st : VisitState} {eligible : Bool}
    (h : BoundAt s t n ticket slot v st eligible) : (t.lane n).state = .settling := by
  rw [h.binds.lane]

theorem BoundAt.frames {s t : State} {n : Fin 4} {ticket slot : Nat} {v : Visit} {st : VisitState} {eligible : Bool}
    (h : BoundAt s t n ticket slot v st eligible) (x : Setting) : t.frames x = s.frames x := by
  rw [h.rest]
  rfl

/-! ### The lane's own checks and the tries -/

theorem State.laneRefusal_busy {s : State} {n : Fin 4} (h : (s.lane n).state ≠ .idle) :
    s.laneRefusal n = some .laneBusy := by
  simp [laneRefusal, h]

theorem State.laneRefusal_soon {s : State} {n : Fin 4} {k : Nat} (h : (s.lane n).state = .idle)
    (hc : (s.lane n).cycle = some (k + 1)) : s.laneRefusal n = some .tooSoon := by
  simp [laneRefusal, h, hc, Timer.expired]

theorem State.laneRefusal_none {s : State} {n : Fin 4} (h : (s.lane n).state = .idle) (hc : (s.lane n).cycle = none) :
    s.laneRefusal n = none := by
  simp [laneRefusal, h, hc, Timer.expired]

theorem State.tryBuffer_of_busy {s : State} {n : Fin 4} (h : (s.lane n).state ≠ .idle) : s.tryBuffer n = s := by
  simp [tryBuffer, h]

/-- R56: a TAG_READ taken at an IDLE lane with an empty buffer is tried at once; where its claim is granted the lane is
busy and the entry gone. -/
theorem exec_tagRead_granted {s t : State} {n : Fin 4} {tag : Tag} {frame : Nat} (up : s.rstLow = false)
    (waits : s.loop.delivery = some ⟨.tagRead n tag, frame⟩) (idle : (s.lane n).state = .idle)
    (auto : (s.lane n).autoTake = true) (fresh : (s.lane n).boundTag ≠ some tag) (empty : (s.lane n).buffer = [])
    (window : 0 < s.tagWindow) (claim : s.undelivered.tagClaim n tag = .ok t) (busy : (t.lane n).state ≠ .idle) :
    exec (.tagRead n tag) s = .next t := by
  show execTagRead n tag s = _
  refine (deliver_taken _ up waits).trans (congrArg Host.Outcome.next ?_)
  show s.undelivered.readTag n tag frame = t
  have lane : s.undelivered.lane n = s.lane n := rfl
  have keeps : s.undelivered.dropsTag n tag = false := by simp [State.dropsTag, lane, idle, auto, fresh]
  have anew : s.undelivered.refreshed? n tag frame = none := by simp [State.refreshed?, lane, empty]
  unfold State.readTag
  simp only [keeps, anew, lane, empty, List.length_nil, Bool.false_eq_true, if_false, Nat.zero_lt_succ, if_true]
  have added : s.undelivered.addTag n tag frame = (s.undelivered.setLane n { s.lane n with
      buffer := [⟨tag, frame, 0⟩] }).tryBuffer n := by
    rw [State.addTag, lane, empty]
    rfl
  rw [added]
  generalize hw : s.undelivered.setLane n { s.lane n with buffer := [⟨tag, frame, 0⟩] } = w
  have entry : w.lane n = { s.lane n with buffer := [⟨tag, frame, 0⟩] } := by
    rw [← hw, State.lane_setLane_self]
  have young : ¬ w.tagWindow ≤ 0 := by
    rw [← hw]
    exact Nat.not_le.mpr window
  have dropped : w.dropFront n = s.undelivered := by
    have same : ({ s.lane n with buffer := [] } : Lane) = s.lane n := by rw [← empty]
    rw [State.dropFront, entry, ← hw, State.setLane_setLane]
    simp only [List.drop_one, List.tail_cons, same]
    exact s.undelivered.setLane_lane n
  simp only [State.tryBuffer, State.makeTry, entry, idle, auto, if_true, List.length_singleton, State.tryRounds, young,
    if_false, dropped, claim, busy]

/-! ### CALL (R18, R54) -/

section Call

variable {s : State} {n : Fin 4} {ticket slot : Nat} {v : Visit}

theorem exec_call {lane : Nat} (h : Accepts s (.call lane ticket)) :
    exec (.call lane ticket) s = replyTo (.call lane ticket) (s.callReply lane ticket) :=
  show execCall lane ticket s = _ from request_replies _ h

theorem callReply_lane (h1 : 1 ≤ ticket) (h2 : ticket ≤ 99999999) : s.callReply n.val ticket = s.callAt n ticket := by
  rw [State.callReply, inRange_of (ticketOk_iff.mpr ⟨h1, h2⟩), onLane_fin]

theorem callAt_granted {t : State} (mode : (s.lane n).mode = .exit ∨ (s.lane n).mode = .internal)
    (claim : s.bindClaim n (s.byTicket ticket) = .ok t) (busy : (t.lane n).state ≠ .idle) :
    s.callAt n ticket = t.done := by
  unfold State.callAt
  rw [if_neg (by rcases mode with h | h <;> simp [h]), claim]
  simp only [State.tryBuffer_of_busy busy]

theorem callAt_refused {st : Status} (mode : (s.lane n).mode = .exit ∨ (s.lane n).mode = .internal)
    (claim : s.bindClaim n (s.byTicket ticket) = .error st) : s.callAt n ticket = s.refuse st := by
  unfold State.callAt
  rw [if_neg (by rcases mode with h | h <;> simp [h]), claim]

/-- R18, R35: the record uses its vehicle's stored tare. -/
def UsesTare (s : State) (v : Visit) (x : Tare) : Prop :=
  v.kind = .tip ∧ v.useTare = true ∧ ∃ veh, s.vehicles.get v.vehicle = some veh ∧ veh.tare = some x ∧
    s.clock.day ≤ x.day + x.validity

theorem usableTare_some {x : Tare} (h : UsesTare s v x) : s.usableTare v = some x := by
  obtain ⟨kind, used, veh, hveh, htare, dated⟩ := h
  simp [State.usableTare, kind, used, hveh, htare, dated]

theorem usableTare_none (h : ∀ x, ¬ UsesTare s v x) : s.usableTare v = none := by
  unfold State.usableTare
  split
  · rename_i used
    split
    · rfl
    · rename_i x hx
      split
      · rename_i dated
        obtain ⟨veh, hveh, htare⟩ := Option.bind_eq_some_iff.mp hx
        exact absurd ⟨used.1, used.2, veh, hveh, htare, dated⟩ (h x)
      · rfl
  · rfl

/-- R18: an EXIT bind whose stored tare finds a full list. -/
theorem bindExit_full {x : Tare} (h : UsesTare s v x) (full : 6 ≤ v.weighings.length) :
    s.bindExit n slot v = (s.bindRecord n slot v .exiting false).holdToReleasing n .listFull := by
  have full : v.listFull = true := decide_eq_true full
  simp only [State.bindExit, usableTare_some h, full, if_true]

end Call

end Sys2Proof.Machine
end

section
/-! O17: CALL, and a TAG_READ at an INTERNAL lane, bind a record. -/

namespace Sys2Proof.Machine

section

variable {s t : State} {n : Fin 4} {ticket slot : Nat} {v : Visit} {st : VisitState} {eligible : Bool}

theorem BoundAt.whole (h : BoundAt s t n ticket slot v st eligible) : t = { s with
    vt := { s.vt with
      records := s.vt.records.put slot { v with state := st, lane := some n, bindMark := v.weighings.length }
      changes := withChange s.vt.changes slot }
    lanes := t.lanes, engines := t.engines, notices := t.notices } := by
  refine h.rest.trans ?_
  rw [h.vt]
  rfl

/-- R62, R63: a lane that lets go of a visit it has just been granted. -/
theorem Releases.of_grant {y : State} {tag : Tag} (h : Releases y t n ticket) (b : Binds s y n ticket tag eligible)
    (frames : y.frames .recovery = s.frames .recovery) :
    Releases { s with lanes := s.lanes.set n { s.lane n with
      boundTag := some tag, cycle := Timer.load (s.frames .cycle) } } t n ticket := by
  have lane := State.lane_setLane_self s n { s.lane n with boundTag := some tag, cycle := Timer.load (s.frames .cycle) }
  refine ⟨?_, h.barrier, h.notice⟩
  rw [h.lane, b.lane, frames]
  exact congrArg (fun l : Lane => { l with
    bound := none, eligible := false, settle := none, passage := none, pendingCapture := none
    state := .releasing, heldVisit := some ticket, recovery := some (s.frames .recovery)
    display := ⟨.seeOffice, ticket⟩ }) lane.symm

theorem State.tag_of_inProgress {tag : Tag} (h : s.byTagInProgress tag = some (slot, v)) : v.tag = tag := by
  have := List.find?_some h
  simp only [Bool.and_eq_true, decide_eq_true_eq] at this
  exact this.1.1

/-- R18: the state in which a lane of its mode binds a record. -/
def BindsIn (s : State) (n : Fin 4) (v : Visit) (next : VisitState) : Prop :=
  ((s.lane n).mode = .internal ∧ v.state = .inYard ∧ next = .reweighing) ∨
  ((s.lane n).mode = .exit ∧ v.state = .inYard ∧ next = .exiting ∧ ∀ x, ¬ UsesTare s v x) ∨
  ((s.lane n).mode = .exit ∧ v.state = .void ∧ v.inYard = true ∧ next = .cleared)

theorem bindClaim_binds {next : VisitState} (idle : (s.lane n).state = .idle) (open' : (s.lane n).cycle = none)
    (fits : BindsIn s n v next) :
    s.bindClaim n (some (slot, v)) = .ok (s.bindRecord n slot v next (decide (next = .cleared))) := by
  unfold State.bindClaim
  rw [State.laneRefusal_none idle open']
  rcases fits with ⟨mode, state, rfl⟩ | ⟨mode, state, rfl, tare⟩ | ⟨mode, state, yard, rfl⟩
  · simp [mode, state]
  · simp [mode, state, State.bindExit, usableTare_none tare]
  · simp [mode, state, yard]

theorem bindClaim_refused {r : Status} (found : Option (Nat × Visit)) (h : s.laneRefusal n = some r) :
    s.bindClaim n found = .error r := by
  simp only [State.bindClaim, h]

theorem bindClaim_absent (idle : (s.lane n).state = .idle) (open' : (s.lane n).cycle = none) :
    s.bindClaim n none = .error .notFound := by
  simp only [State.bindClaim, State.laneRefusal_none idle open']

theorem bindClaim_wrong (idle : (s.lane n).state = .idle) (open' : (s.lane n).cycle = none)
    (away : v.state ≠ .inYard) (out : ¬ ((s.lane n).mode = .exit ∧ v.state = .void ∧ v.inYard = true)) :
    s.bindClaim n (some (slot, v)) = .error .wrongState := by
  simp only [State.bindClaim, State.laneRefusal_none idle open']
  split
  · contradiction
  · contradiction
  · rename_i mode state
    rw [if_neg (fun yard => out ⟨mode, state, yard⟩)]
  · rfl

/-- R18, R62: the record as an EXIT bind with a full list leaves it. -/
theorem bindExit_holds {x : Tare} (tables : s.vt.records.wf) (found : s.byTicket ticket = some (slot, v))
    (h : UsesTare s v x) (full : 6 ≤ v.weighings.length) (recovery : 0 < s.frames .recovery) :
    ∃ y, BoundAt s y n ticket slot v .exiting false ∧
      HeldAtLane y (s.bindExit n slot v) n ticket slot (State.boundVisit v n .exiting) .listFull := by
  have hticket := (State.byTicket_visit tables found).2
  have b := State.bindRecord_binds (s := s) hticket n slot .exiting false
  refine ⟨_, b, ?_⟩
  rw [bindExit_full h full]
  have records := congrArg (·.records) b.vt
  refine State.holdToReleasing_holds ?_ ?_ (State.byTicket_put tables found records rfl) (by simp [State.boundVisit])
    rfl ?_
  · rw [records]
    exact Table.put_wf _ _ tables
  · rw [b.binds.lane]
  · rw [b.frames]
    exact recovery

end

/-- Settles O17. -/
theorem callBindsTheRecord : Obligations.CallBindsTheRecord := by
  unfold Obligations.CallBindsTheRecord
  refine ⟨?_, ?_, ?_⟩
  · intro s n ticket slot v acc tables low high idle open' found tareUsed
    have hticket := (State.byTicket_visit tables.records found).2
    refine ⟨fun next fits => ?_, fun mode yard used full recovery => ?_⟩
    · have fits : BindsIn s n v next := by
        rcases fits with h | ⟨mode, yard, hnext, unused⟩ | h
        · exact .inl h
        · exact .inr (.inl ⟨mode, yard, hnext, fun x ⟨kind, use, veh, hveh, tare, dated⟩ =>
            unused ⟨kind, use, veh, x, hveh, tare, dated⟩⟩)
        · exact .inr (.inr h)
      have mode : (s.lane n).mode = .exit ∨ (s.lane n).mode = .internal := by
        rcases fits with ⟨mode, -⟩ | ⟨mode, -⟩ | ⟨mode, -⟩
        · exact .inr mode
        · exact .inl mode
        · exact .inl mode
      have b := State.bindRecord_binds (s := s) hticket n slot next (decide (next = .cleared))
      refine ⟨_, ?_, b.whole, b.binds, b.others⟩
      rw [exec_call acc, callReply_lane low high,
        callAt_granted mode (by rw [found]; exact bindClaim_binds idle open' fits) (by simp [b.settling])]
      exact replyTo_done _ _
    · obtain ⟨kind, use, veh, x, hveh, tare, dated⟩ := used
      have used : UsesTare s v x := ⟨kind, use, veh, hveh, tare, dated⟩
      obtain ⟨y, b, held⟩ := bindExit_holds (n := n) tables.records found used full recovery
      have claim : s.bindClaim n (s.byTicket ticket) = .ok (s.bindExit n slot v) := by
        rw [found]
        simp [State.bindClaim, State.laneRefusal_none idle open', mode, yard]
      generalize s.bindExit n slot v = t at held claim
      refine ⟨t, ?_, ?_, held.releases.of_grant b.binds (b.frames _), ?_, b.others.trans held.others⟩
      · rw [exec_call acc, callReply_lane low high,
          callAt_granted (.inl mode) claim (by simp [held.releases.lane])]
        exact replyTo_done _ _
      · have engines : t.engines = y.engines := by rw [held.rest]
        refine held.rest.trans ?_
        rw [engines, held.vt, b.rest, b.vt]
        simp only [Table.put_put, withChange_withChange]
        rfl
      · rw [held.rest]
        exact b.binds.engine
  · intro s lane ticket c acc
    rw [exec_call acc]
    refine ⟨fun out => ?_, ?_⟩
    · by_cases ok : ticketOk ticket = true
      · rw [State.callReply, inRange_of ok, onLane_not out]
        exact replyTo_refuse _ _ _
      · rw [State.callReply, inRange_not (Bool.eq_false_of_not_eq_true ok)]
        exact replyTo_refuse _ _ _
    · rintro n rfl inRange free
      have refused {st : Status} (hin : inRange) (claim : s.bindClaim n (s.byTicket ticket) = .error st) :
          replyTo c (s.callReply n.val ticket) = .next (answered s c st .empty) := by
        obtain ⟨low, high, mode⟩ := hin
        rw [callReply_lane low high, callAt_refused mode claim]
        exact replyTo_refuse _ _ _
      refine ⟨fun out => ?_, fun hin busy => ?_, fun k hin idle hc => ?_, fun hin ⟨idle, open'⟩ none => ?_,
        fun slot v hin ⟨idle, open'⟩ found away out => ?_⟩
      · by_cases ok : ticketOk ticket = true
        · obtain ⟨low, high⟩ := ticketOk_iff.mp ok
          rw [callReply_lane low high, State.callAt,
            if_pos ⟨fun h => out ⟨low, high, .inl h⟩, fun h => out ⟨low, high, .inr h⟩⟩]
          exact replyTo_refuse _ _ _
        · rw [State.callReply, inRange_not (Bool.eq_false_of_not_eq_true ok)]
          exact replyTo_refuse _ _ _
      · exact refused hin (bindClaim_refused _ (State.laneRefusal_busy busy))
      · exact refused hin (bindClaim_refused _ (State.laneRefusal_soon idle hc))
      · exact refused hin (by rw [none]; exact bindClaim_absent idle open')
      · exact refused hin (by rw [found]; exact bindClaim_wrong idle open' away out)
  · intro s n tag frame ticket slot v up waits mode idle auto fresh empty open' window found yard hticket
    have b := State.bindRecord_binds (s := s.undelivered) hticket n slot .reweighing false
    have htag : v.tag = tag := State.tag_of_inProgress found
    have claim : s.undelivered.tagClaim n tag = .ok (s.undelivered.bindRecord n slot v .reweighing false) := by
      have fits : BindsIn s.undelivered n v .reweighing := .inl ⟨mode, yard, rfl⟩
      have := bindClaim_binds (slot := slot) (n := n) (s := s.undelivered) idle open' fits
      have hmode : (s.undelivered.lane n).mode = .internal := mode
      simp only [State.tagClaim, hmode]
      rw [show s.undelivered.byTagInProgress tag = some (slot, v) from found]
      exact this
    refine ⟨_, exec_tagRead_granted up waits idle auto fresh empty window claim (by simp [b.settling]), b.whole, ?_,
      b.others⟩
    rw [← htag]
    exact ⟨b.binds.lane, b.binds.engine⟩

end Sys2Proof.Machine
end

section
/-! O41: a clearance seen from the state before its last weighing, by a sample or by a stored tare. -/

namespace Sys2Proof.Machine

section

variable {s t u x : State} {n : Fin 4} {ticket slot number : Nat} {v w : Visit} {p : Permit} {veh : Vehicle}

/-! ### What a clearance judges by -/

/-- Two states in which a clearance judges and charges a record alike. -/
structure ClearsAlike (s x : State) : Prop where
  clock    : x.clock = s.clock
  vehicles : x.vehicles = s.vehicles
  permits  : x.permits = s.permits
  params   : ∀ m : Fin 4, (x.deck m).params = (s.deck m).params

theorem ClearsAlike.differences (h : ClearsAlike s x) (w : Visit) : differencesOf x w = differencesOf s w := by
  have division (a b : Weighing) : judgingDivision x a b = judgingDivision s a b := by
    simp only [judgingDivision, h.params]
  simp only [differencesOf, division]

theorem ClearsAlike.nets (h : ClearsAlike s x) (w : Visit) : netsOf x w = netsOf s w := by
  rw [netsOf, h.differences, netsOf]

theorem ClearsAlike.completes (h : ClearsAlike s x) (hc : ClearanceCompletes s w) : ClearanceCompletes x w := by
  unfold ClearanceCompletes
  rw [h.differences]
  exact hc

theorem ClearsAlike.holds (h : ClearsAlike s x) (hc : ClearanceHolds s w) : ClearanceHolds x w := by
  unfold ClearanceHolds
  rw [h.differences]
  exact hc

theorem ClearsAlike.now (h : ClearsAlike s x) : x.now = s.now := by
  simp only [State.now, h.clock]

theorem ClearsAlike.cleared (h : ClearsAlike s x) (hc : Cleared x t n slot w number p veh) :
    Cleared s t n slot w number p veh := by
  obtain ⟨record, permit, refresh, notice⟩ := hc
  rw [h.nets, h.now] at record
  rw [h.nets, h.permits] at permit
  rw [h.vehicles, h.clock] at refresh
  exact ⟨record, permit, refresh, notice⟩

theorem ClearsAlike.uncleared (h : ClearsAlike s x) (hc : HeldUncleared x t slot w p) : HeldUncleared s t slot w p :=
  ⟨hc.record, hc.permits.trans h.permits, hc.vehicles.trans h.vehicles⟩

/-! ### What a clearance leaves unchanged -/

structure ClearanceLeaves (s t : State) (n : Fin 4) (slot : Nat) : Prop where
  rest   : t = { s with
    free := t.free
    vt := { s.vt with records := t.vt.records, changes := withChange s.vt.changes slot }
    vehicles := t.vehicles, permits := t.permits, lanes := t.lanes, barriers := t.barriers, notices := t.notices }
  visits : OtherVisitsKept s t slot
  others : OtherLanesKept s t n

theorem ClearanceLeaves.whole (h : ClearanceLeaves s t n slot) : t = { s with
    free := t.free, vt := t.vt, vehicles := t.vehicles, permits := t.permits, lanes := t.lanes
    barriers := t.barriers, notices := t.notices } := by
  refine h.rest.trans ?_
  rw [show t.vt = _ from congrArg State.vt h.rest]

/-- R22, R36, R47: the state in which the lane of a cleared visit is told that it is eligible. -/
def State.clearBooks (s : State) (n : Fin 4) (slot : Nat) (v : Visit) (ns : List Int) : State :=
  ((s.charged v ns).withRecord slot (s.clearedVisit v ns)).latch .cleared n.val

theorem State.clearBooks_rest (s : State) (n : Fin 4) (slot : Nat) (v : Visit) (ns : List Int) :
    s.clearBooks n slot v ns = { s with
      free := (s.clearBooks n slot v ns).free
      vt := { s.vt with
        records := s.vt.records.put slot (s.clearedVisit v ns), changes := withChange s.vt.changes slot }
      vehicles := (s.clearBooks n slot v ns).vehicles, permits := (s.clearBooks n slot v ns).permits
      notices := (s.clearBooks n slot v ns).notices } := by
  simp only [clearBooks]
  rw [withRecord_eq, charged_rest]
  rfl

theorem State.clearance_leaves (tables : s.vt.records.wf) (found : s.byTicket ticket = some (slot, v))
    (bound : (s.lane n).bound = some ticket) (hs : v.state ≠ .held) (hl : v.lane = some n)
    (recovery : 0 < s.frames .recovery) : ClearanceLeaves s (s.clearance n slot) n slot := by
  cases hn : s.nets v with
  | some ns =>
    rw [show s.clearance n slot = (s.clearBooks n slot v ns).reportEligible n from
      clearance_some (byTicket_visit tables found).1 hn]
    have books := s.clearBooks_rest n slot v ns
    have rest := reportEligible_rest (s.clearBooks n slot v ns) n
    have others := reportEligible_others (s.clearBooks n slot v ns) n
    generalize (s.clearBooks n slot v ns).reportEligible n = t at rest others
    have vt : t.vt = (s.clearBooks n slot v ns).vt := by rw [rest]
    refine ⟨?_, fun k hk => ?_, .trans ?_ others⟩
    · rw [vt, rest, books]
    · rw [State.visit, vt, books]
      exact Table.get_put_of_ne _ _ hk
    · rw [books]
      exact OtherLanesKept.of_blocks rfl rfl rfl rfl
  | none =>
    have held := clearance_holds tables found hn bound hs hl recovery
    generalize s.clearance n slot = t at held
    obtain ⟨rest, vt, -, others⟩ := held
    refine ⟨?_, fun k hk => ?_, .trans ?_ others⟩
    · rw [rest, vt]
      rfl
    · rw [State.visit, vt]
      exact (Table.get_put_of_ne _ _ hk).trans (Table.get_put_of_ne _ _ hk)
    · exact OtherLanesKept.of_blocks rfl rfl rfl rfl

/-! ### The clearance of a record that a weighing has just entered -/

/-- The state `x` from which a clearance starts is `s` with the record's last weighing in its list. -/
structure EnteredAt (s x : State) (slot : Nat) (w : Visit) : Prop where
  alike : ClearsAlike s x
  vt    : x.vt = { s.vt with records := s.vt.records.put slot w, changes := withChange s.vt.changes slot }

theorem EnteredAt.leaves (e : EnteredAt s x slot w) (h : ClearanceLeaves x t n slot) :
    t.vt = { s.vt with records := t.vt.records, changes := withChange s.vt.changes slot } ∧
      OtherVisitsKept s t slot := by
  obtain ⟨rest, visits, -⟩ := h
  refine ⟨?_, fun k hk => (visits k hk).trans ?_⟩
  · have vt := congrArg State.vt rest
    rw [e.vt] at vt
    simp only [withChange_withChange] at vt
    exact vt
  · rw [State.visit, e.vt]
    exact Table.get_put_of_ne _ _ hk

/-- R21, R22, R36, R47, R62: the two ways the clearance of a lane's visit ends. -/
theorem EnteredAt.clearance (e : EnteredAt s x slot w) (tables : s.vt.records.wf)
    (found : s.byTicket ticket = some (slot, v)) (same : w.ticket = v.ticket) (state : w.state = .exiting)
    (lane : w.lane = some n) (bound : (x.lane n).bound = some ticket) (recovery : 0 < x.frames .recovery)
    (hp : w.kind = .tip → w.permit = some number ∧ s.permits.get number = some p)
    (hveh : s.vehicles.get w.vehicle = some veh) :
    let clears := Cleared s (x.clearance n slot) n slot w number p veh ∧
      ∃ y : State, y.lanes = x.lanes ∧ y.barriers = x.barriers ∧ y.engines = x.engines ∧
          (∀ k, y.frames k = x.frames k) ∧
        x.clearance n slot = y.reportEligible n
    let holds := HeldUncleared s (x.clearance n slot) slot w p ∧ Releases x (x.clearance n slot) n ticket
    ClearanceLeaves x (x.clearance n slot) n slot ∧
      (ClearanceCompletes s w → clears) ∧ (ClearanceHolds s w → holds) ∧ (clears ∨ holds) := by
  have records : x.vt.records = s.vt.records.put slot w := congrArg VisitTable.records e.vt
  have wf : x.vt.records.wf := by
    rw [records]
    exact Table.put_wf _ _ tables
  have here : x.byTicket ticket = some (slot, w) := State.byTicket_put tables found records same
  have notHeld : w.state ≠ .held := by simp [state]
  have hp' : w.kind = .tip → w.permit = some number ∧ x.permits.get number = some p := e.alike.permits ▸ hp
  have hveh' : x.vehicles.get w.vehicle = some veh := e.alike.vehicles ▸ hveh
  intro clears holds
  have gives (ns : List Int) (hn : x.nets w = some ns) : clears := by
    refine ⟨e.alike.cleared (State.clearance_clears (State.byTicket_visit wf here).1 hn hp' hveh'),
      x.clearBooks n slot w ns, ?_, ?_, ?_, fun k => ?_, State.clearance_some (State.byTicket_visit wf here).1 hn⟩
    · rw [x.clearBooks_rest n slot w ns]
    · rw [x.clearBooks_rest n slot w ns]
    · rw [x.clearBooks_rest n slot w ns]
    · rw [x.clearBooks_rest n slot w ns]
      rfl
  have lacks (hn : x.nets w = none) : holds := by
    have held := State.clearance_holds wf here hn bound notHeld lane recovery
    exact ⟨e.alike.uncleared (State.heldUncleared_of hp' state held),
      held.releases.lane, held.releases.barrier, held.releases.notice⟩
  obtain ⟨completes, uncompleted, -⟩ := x.nets_cases w
  refine ⟨State.clearance_leaves wf here bound notHeld lane recovery,
    fun h => gives _ (completes (e.alike.completes h)), fun h => lacks (uncompleted (e.alike.holds h)), ?_⟩
  cases hn : x.nets w with
  | some ns => exact .inl (gives ns hn)
  | none => exact .inr (lacks hn)

end

end Sys2Proof.Machine
end

section
/-! O41: the sample that completes an EXIT weighing, and the CALL that uses a stored tare. -/

namespace Sys2Proof.Machine

section

variable {s t u x : State} {n : Fin 4} {ticket slot number : Nat} {v w : Visit} {p : Permit} {veh : Vehicle}

/-! ### The last outcome after a clearance -/

theorem Cleared.recordOutcome (h : Cleared s t n slot w number p veh) (o : LastOutcome) :
    Cleared s (t.recordOutcome n o) n slot w number p veh :=
  ⟨h.record, h.permit, h.refresh, State.latched_latch_of h.notice⟩

theorem HeldUncleared.recordOutcome (h : HeldUncleared s t slot w p) (o : LastOutcome) :
    HeldUncleared s (t.recordOutcome n o) slot w p := ⟨h.record, h.permits, h.vehicles⟩

theorem State.reportEligible_lets (state : (s.lane n).state = .bound) (bound : (s.lane n).bound = some ticket) :
    LetsPass s (s.reportEligible n) n ticket := by
  rw [State.reportEligible_bound state]
  exact State.enterPassing_lets bound

/-- What PASSING leaves, seen from a state with the same lane and settings. -/
theorem LetsPass.congr (lane : s.lane n = u.lane n) (frames : s.frames .passage = u.frames .passage)
    (h : LetsPass s t n ticket) : LetsPass u t n ticket := by
  refine ⟨?_, h.order, h.tracks⟩
  rw [← lane, ← frames]
  exact h.lane

theorem Releases.congr (lane : s.lane n = u.lane n) (frames : s.frames .recovery = u.frames .recovery)
    (h : Releases s t n ticket) : Releases u t n ticket := by
  refine ⟨?_, h.barrier, h.notice⟩
  rw [← lane, ← frames]
  exact h.lane

/-! ### The sample -/

/-- The record whose EXIT weighing a WHOLE capture has just handed on. -/
def State.atExitEntry (u : State) (n : Fin 4) (slot : Nat) (w : Visit) : State :=
  (u.setEngine n { u.engine n with run := none }).withRecord slot w

theorem State.captureReading_clears {c : Capture} {weight : Int} {inRange : Bool}
    (run : (u.engine n).run = some c) (whole : c.method = .whole) (phase : c.phase = .measuring)
    (serves : Serves u n c ticket slot v .exit) : u.captureReading n .stable weight inRange =
      ((u.atExitEntry n slot { v with
          weighings := withEntry v (wholeEntry u n .exit weight (gatheredLegal u n false ⟨weight, none, inRange⟩)) }
        ).clearance n slot).recordOutcome n ⟨.complete, c.purpose, .whole, some weight,
          some (gatheredLegal u n false ⟨weight, none, inRange⟩)⟩ := by
  have eq : u.captureReading n .stable weight inRange = u.settleGathered n c false ⟨weight, none, inRange⟩ := by
    simp only [captureReading, run, whole, phase, and_self, if_true]
  rw [eq, settleGathered_hands serves]
  simp only [handedEntry, whole]
  rfl

/-- R94, R128: the state `x` from which the clearance starts, seen from the state `s` before the sample. -/
structure ExitEntered (s x : State) (n : Fin 4) (slot : Nat) (w : Visit) : Prop where
  entered : EnteredAt s x slot w
  lane    : x.lane n = s.lane n
  frames  : ∀ k, x.frames k = s.frames k
  engine  : x.engine n = { s.engine n with run := none }
  others  : OtherLanesKept s x n
  rest    : x = { s with
    loop := { s.loop with delivery := none }
    vt := x.vt, decks := x.decks, engines := x.engines, notices := x.notices }

theorem ReadingTaken.exitEntered {st : DeckState} (h : ReadingTaken s.undelivered u n st) (w : Visit) :
    ExitEntered s (u.atExitEntry n slot w) n slot w := by
  have moved := h.moved
  have rest : u.atExitEntry n slot w = { s with
      loop := { s.loop with delivery := none }
      vt := (u.atExitEntry n slot w).vt, decks := (u.atExitEntry n slot w).decks
      engines := (u.atExitEntry n slot w).engines, notices := (u.atExitEntry n slot w).notices } := by
    rw [State.atExitEntry, State.withRecord_rest, State.setEngine, moved.rest]
    rfl
  have vt : (u.atExitEntry n slot w).vt =
      { s.vt with records := s.vt.records.put slot w, changes := withChange s.vt.changes slot } := by
    rw [State.atExitEntry, State.withRecord_vt]
    show { u.vt with records := u.vt.records.put slot w, changes := withChange u.vt.changes slot } = _
    rw [moved.vt]
    rfl
  have deck (m : Fin 4) : (u.atExitEntry n slot w).deck m = u.deck m := by
    rw [State.atExitEntry, State.withRecord_eq]
    rfl
  refine ⟨⟨⟨by rw [rest], by rw [rest], by rw [rest], fun m => ?_⟩, vt⟩, by rw [rest]; rfl,
    fun k => by rw [rest]; rfl, ?_, ?_, rest⟩
  · by_cases hm : m = n
    · subst hm
      exact (congrArg Deck.params (deck m)).trans h.params
    · exact (congrArg Deck.params (deck m)).trans (congrArg Deck.params (moved.others m hm))
  · rw [State.atExitEntry, State.withRecord_engine, State.engine_setEngine_self, moved.engine]
    rfl
  · exact moved.othersKept.trans <| (OtherLanesKept.setEngine u _).trans (State.withRecord_others _ _ _ _)

theorem gatheredLegal_whole_iff {p : DeckParams} {weight : Int} {inRange : Bool} (hp : (s.deck n).params = some p) :
    gatheredLegal s n false ⟨weight, none, inRange⟩ = true ↔
      (s.deck n).certified = true ∧ inRange = true ∧ (p.minWeigh * p.division : Int) ≤ weight := by
  simp [gatheredLegal, State.legalMark_iff, hp]

/-! ### The stored tare -/

/-- R18: the state in which an EXIT bind that uses a stored tare starts its clearance. -/
def State.atTareEntry (s : State) (n : Fin 4) (slot : Nat) (v : Visit) (x : Tare) : State :=
  (s.bindRecord n slot v .exiting false).setVisit slot { v with
    state := .exiting, lane := some n, bindMark := v.weighings.length, weighings := withEntry v (storedEntry s x) }

theorem bindExit_uses {x : Tare} (hticket : v.ticket = some ticket) (h : UsesTare s v x)
    (room : v.weighings.length < 6) : s.bindExit n slot v = (s.atTareEntry n slot v x).clearance n slot := by
  have room : v.listFull = false := decide_eq_false (Nat.not_le.mpr room)
  have b := State.bindRecord_binds (s := s) hticket n slot .exiting false
  have written : (s.bindRecord n slot v .exiting false).visit slot = some (State.boundVisit v n .exiting) := by
    rw [State.visit, b.vt]
    exact Table.get_put_self _ _ _
  have entry : (s.bindRecord n slot v .exiting false).tareEntry x = storedEntry s x := by
    have clock : (s.bindRecord n slot v .exiting false).clock = s.clock := by rw [b.rest]
    simp only [State.tareEntry, storedEntry, State.now, clock]
  simp only [State.bindExit, usableTare_some h, room, Bool.false_eq_true, if_false, written, entry, State.atTareEntry,
    withEntry_eq]
  rfl

/-- R18: the state `z` from which the clearance of an EXIT bind starts, seen from the state `s` before the bind. -/
structure TareEntered (s z : State) (n : Fin 4) (ticket slot : Nat) (v : Visit) (x : Tare) : Prop where
  entered : EnteredAt s z slot { v with
    state := .exiting, lane := some n, bindMark := v.weighings.length, weighings := withEntry v (storedEntry s x) }
  binds   : Binds s z n ticket v.tag false
  frames  : ∀ k, z.frames k = s.frames k
  others  : OtherLanesKept s z n
  rest    : z = { s with vt := z.vt, lanes := z.lanes, engines := z.engines, notices := z.notices }

theorem TareEntered.of_bind (hticket : v.ticket = some ticket) (x : Tare) :
    TareEntered s (s.atTareEntry n slot v x) n ticket slot v x := by
  have b := State.bindRecord_binds (s := s) hticket n slot .exiting false
  unfold State.atTareEntry
  generalize s.bindRecord n slot v .exiting false = y at b
  have rest : y.setVisit slot { v with
      state := .exiting, lane := some n, bindMark := v.weighings.length, weighings := withEntry v (storedEntry s x) } =
      { s with
        vt := { y.vt with records := y.vt.records.put slot { v with
          state := .exiting, lane := some n, bindMark := v.weighings.length
          weighings := withEntry v (storedEntry s x) } }
        lanes := y.lanes, engines := y.engines, notices := y.notices } := by
    conv_lhs => rw [State.setVisit, b.rest]
  refine ⟨⟨⟨by rw [rest], by rw [rest], by rw [rest], fun m => by rw [rest]; rfl⟩, ?_⟩, ⟨b.binds.lane, b.binds.engine⟩,
    fun k => by rw [rest]; rfl, b.others.trans (OtherLanesKept.setVisit _ _ _), rest⟩
  simp only [State.setVisit, b.vt, Table.put_put]

/-- R60: a SETTLING lane that is told that its visit is eligible keeps its barrier. -/
theorem Binds.told {y z : State} {tag : Tag} (h : Binds s z n ticket tag false) (lanes : y.lanes = z.lanes)
    (engines : y.engines = z.engines) : Binds s (y.reportEligible n) n ticket tag true ∧
      (y.reportEligible n).barriers = y.barriers := by
  have lane : y.lane n = z.lane n := congrArg (fun l => l.get n) lanes
  have settling : (y.lane n).state = .settling := by rw [lane, h.lane]
  rw [State.reportEligible_settling settling]
  refine ⟨⟨?_, ?_⟩, rfl⟩
  · rw [State.lane_setLane_self, lane, h.lane]
  · exact (congrArg (fun e => e.get n) engines).trans h.engine

end

/-- Settles O41. -/
theorem clearanceChargesOrHolds : Obligations.ClearanceChargesOrHolds := by
  unfold Obligations.ClearanceChargesOrHolds
  refine ⟨?_, ?_⟩
  · intro s n raw frame ticket slot number p weight c v permit veh h r tables state bound found lane exiting room
      recovery hp hveh run purpose method phase
    obtain ⟨u, taken, step⟩ := exec_deckSample_reads h r
    have moved := taken.moved
    have serves : Serves u n c ticket slot v .exit :=
      moved.serves ⟨purpose, found, lane, by rw [exiting]; rfl, room⟩
    have zero : (!(u.deck n).zeroFault) = !(s.deck n).zeroFault := congrArg (!·) (taken.zero (by decide))
    have run' : (u.engine n).run = some c := (congrArg Engine.run (moved.engine n)).trans run
    rw [State.tryOnIdle_before (u := u) (congrArg Lane.state (moved.lane n)).symm,
      State.captureReading_clears run' method phase serves, taken.gatheredLegal, zero] at step
    have entry : wholeEntry u n .exit weight = wholeEntry s n .exit weight := by
      funext legal
      simp only [wholeEntry, moved.now]
      rfl
    rw [entry] at step
    generalize hl : gatheredLegal s.undelivered n false ⟨weight, none, !(s.deck n).zeroFault⟩ = legal at step
    generalize hw : ({ v with weighings := withEntry v (wholeEntry s n .exit weight legal) } : Visit) = w at step
    obtain ⟨entered, hlane, hframes, hengine, hothers, hrest⟩ := taken.exitEntered (slot := slot) w
    obtain ⟨leaves, completes, uncompleted, either⟩ := entered.clearance (n := n) (number := number) (p := permit)
      (veh := veh) tables.records found (by rw [← hw]) (by rw [← hw]; exact exiting) (by rw [← hw]; exact lane)
      (by rw [hlane]; exact bound) (by rw [hframes]; exact recovery) (by rw [← hw]; exact hp) (by rw [← hw]; exact hveh)
    obtain ⟨vt, visits⟩ := entered.leaves leaves
    generalize hx : u.atExitEntry n slot w = x at *
    generalize x.clearance n slot = t at *
    generalize ho : (⟨.complete, c.purpose, .whole, some weight, some legal⟩ : LastOutcome) = o at *
    have lets (h : ∃ y : State, y.lanes = x.lanes ∧ y.barriers = x.barriers ∧ y.engines = x.engines ∧
        (∀ k, y.frames k = x.frames k) ∧
        t = y.reportEligible n) : LetsPass s t n ticket := by
      obtain ⟨y, lanes, -, -, frames, rfl⟩ := h
      have ylane : y.lane n = s.lane n := (congrArg (fun l => l.get n) lanes).trans hlane
      exact (State.reportEligible_lets (by rw [ylane]; exact state) (by rw [ylane]; exact bound)).congr ylane
        ((frames _).trans (hframes _))
    have clears := fun h : Cleared s t n slot w number permit veh ∧ _ => And.intro (h.1.recordOutcome o)
      ((lets h.2).recordOutcome o)
    have holds := fun h : HeldUncleared s t slot w permit ∧ Releases x t n ticket =>
      And.intro (h.1.recordOutcome (n := n) o) ((h.2.congr hlane (hframes _)).recordOutcome o)
    have busy : (t.lane n).state ≠ .idle := by
      rcases either with h | h
      · rw [(lets h.2).lane]
        simp
      · rw [h.2.lane]
        simp
    have done : (t.recordOutcome n o).tryOnIdle n u = t.recordOutcome n o := by
      rw [State.tryOnIdle, if_neg fun h => busy h.2]
    refine ⟨t.recordOutcome n o, legal, by rw [step, done], ?_, visits, ?_, ?_, ?_, State.recordOutcome_latched _ _ _,
      ?_⟩
    · have decks : t.decks = x.decks := by rw [leaves.rest]
      show t.recordOutcome n o = { s with
        free := t.free, loop := { s.loop with delivery := none }
        vt := { s.vt with records := t.vt.records, changes := withChange s.vt.changes slot }
        vehicles := t.vehicles, permits := t.permits, lanes := t.lanes, barriers := t.barriers, decks := t.decks
        engines := (t.recordOutcome n o).engines, notices := (t.recordOutcome n o).notices }
      rw [← vt, decks]
      refine (State.recordOutcome_rest t n o).trans ?_
      generalize (t.recordOutcome n o).engines = engines
      generalize (t.recordOutcome n o).notices = notices
      conv_lhs => rw [leaves.whole, hrest]
    · exact hothers.trans (leaves.others.trans (State.recordOutcome_others _ _ _))
    · rw [← hl, gatheredLegal_whole_iff (s := s.undelivered) h.enabled]
      show (s.deck n).certified = true ∧ _ ↔ _
      simp
    · have engine : t.engine n = x.engine n := by
        rw [leaves.rest]
        rfl
      rw [State.recordOutcome_engine, engine, hengine, ← ho]
    · rw [hw]
      exact ⟨fun h => clears (completes h), fun h => holds (uncompleted h), either.imp clears holds⟩
  · intro s n ticket slot number v permit veh x acc tables low high mode idle open' found yard room recovery tip used
      hn hp hveh htare dated entered bound
    have hticket := (State.byTicket_visit tables.records found).2
    have uses : UsesTare s v x := ⟨tip, used, veh, hveh, htare, dated⟩
    have at' := TareEntered.of_bind (s := s) (n := n) (slot := slot) hticket x
    have claim : s.bindClaim n (s.byTicket ticket) = .ok (s.bindExit n slot v) := by
      rw [found]
      simp [State.bindClaim, State.laneRefusal_none idle open', mode, yard]
    rw [bindExit_uses hticket uses room] at claim
    obtain ⟨leaves, completes, uncompleted, either⟩ := at'.entered.clearance (n := n) (number := number) (p := permit)
      (veh := veh) tables.records found rfl rfl rfl (congrArg Lane.bound at'.binds.lane)
      (lt_of_lt_of_eq recovery (at'.frames _).symm) (fun _ => ⟨hn, hp⟩) hveh
    obtain ⟨vt, visits⟩ := at'.entered.leaves leaves
    generalize s.atTareEntry n slot v x = z at *
    generalize z.clearance n slot = t at *
    have engines : t.engines = z.engines := by rw [leaves.rest]
    have clears (h : Cleared s t n slot entered number permit veh ∧ ∃ y : State, y.lanes = z.lanes ∧
        y.barriers = z.barriers ∧ y.engines = z.engines ∧ (∀ k, y.frames k = z.frames k) ∧ t = y.reportEligible n) :
        Cleared s t n slot entered number permit veh ∧ Binds s t n ticket v.tag true ∧ t.barrier n = s.barrier n := by
      obtain ⟨cleared, y, lanes, barriers, yengines, -, told⟩ := h
      obtain ⟨binds, barrier⟩ := at'.binds.told lanes yengines
      rw [← told] at binds barrier
      refine ⟨cleared, binds, (congrArg (fun b => b.get n) (barrier.trans barriers)).trans ?_⟩
      rw [at'.rest]
      rfl
    have holds (h : HeldUncleared s t slot entered permit ∧ Releases z t n ticket) :
        HeldUncleared s t slot entered permit ∧
        Releases bound t n ticket ∧ t.engine n = { s.engine n with failures := 0 } :=
      ⟨h.1, h.2.of_grant at'.binds (at'.frames _), (congrArg (fun e => e.get n) engines).trans at'.binds.engine⟩
    have busy : (t.lane n).state ≠ .idle := by
      rcases either with h | h
      · rw [(clears h).2.1.lane]
        simp
      · rw [h.2.lane]
        simp
    refine ⟨t, ?_, ?_, visits, at'.others.trans leaves.others, fun h => clears (completes h),
      fun h => holds (uncompleted h), either.imp clears holds⟩
    · rw [exec_call acc, callReply_lane low high, callAt_granted (.inl mode) claim busy]
      exact replyTo_done _ _
    · rw [← vt, engines]
      conv_lhs => rw [leaves.whole, at'.rest]

end Sys2Proof.Machine
end

section
/-! Admissions (R7 to R13): the ticket issued, the checks of a claim, and what a granted one leaves. -/

namespace Sys2Proof.Machine

/-! ### The ticket number (R7) -/

/-- R7: the `k`-th number from the next-ticket counter on. -/
def State.nthTicket (s : State) (k : Nat) : Nat := (s.vt.nextTicket - 1 + k) % 99999999 + 1

/-- A live record holds a ticket number. -/
def State.Holds (s : State) (ticket : Nat) : Prop := ∃ e ∈ s.vt.records, e.2.ticket = some ticket

section

variable {s : State}

theorem State.byTicket_isSome_iff {ticket : Nat} : (s.byTicket ticket).isSome = true ↔ s.Holds ticket := by
  simp [byTicket, Table.find, Holds, List.find?_isSome]

theorem ticketAfter_nthTicket (s : State) (k : Nat) : State.ticketAfter (s.nthTicket k) = s.nthTicket (k + 1) := by
  unfold State.ticketAfter State.nthTicket
  split <;> simp only [Config.maxTicket] at * <;> omega

/-- R7: the search stops at the first number that is not held, or when its rounds are used up. -/
theorem State.freeTicket_nth (s : State) (fuel start : Nat) : ∃ k ≤ fuel,
    s.freeTicket fuel (s.nthTicket start) = s.nthTicket (start + k) ∧
      (∀ j < k, s.Holds (s.nthTicket (start + j))) ∧ (k < fuel → ¬ s.Holds (s.nthTicket (start + k))) := by
  induction fuel generalizing start with
  | zero => exact ⟨0, le_rfl, rfl, by simp, by simp⟩
  | succ fuel ih =>
    by_cases held : s.Holds (s.nthTicket start)
    · obtain ⟨k, hk, found, before, here⟩ := ih (start + 1)
      refine ⟨k + 1, Nat.succ_le_succ hk, ?_, fun j hj => ?_, fun h => ?_⟩
      · rw [freeTicket, if_pos (byTicket_isSome_iff.mpr held), ticketAfter_nthTicket, found]
        congr 1
        omega
      · cases j with
        | zero => exact held
        | succ j =>
          have := before j (by omega)
          rwa [show start + 1 + j = start + (j + 1) by omega] at this
      · have := here (by omega)
        rwa [show start + 1 + k = start + (k + 1) by omega] at this
    · refine ⟨0, Nat.zero_le _, ?_, by simp, fun _ => held⟩
      rw [freeTicket, if_neg (by rwa [byTicket_isSome_iff])]
      rfl

theorem State.nthTicket_inj {i j : Nat} (hi : i < 192) (hj : j < 192) (h : s.nthTicket i = s.nthTicket j) : i = j := by
  unfold nthTicket at h
  omega

/-- Fewer records hold a ticket than 192 numbers in a row. -/
theorem State.not_all_held (few : (s.vt.records.filter (fun e => e.2.ticket.isSome)).length < 192) :
    ¬ ∀ j < 192, s.Holds (s.nthTicket j) := by
  intro all
  have distinct : ((List.range 192).map s.nthTicket).Nodup :=
    List.Nodup.map_on (fun i hi j hj => nthTicket_inj (List.mem_range.mp hi) (List.mem_range.mp hj)) List.nodup_range
  have among : (List.range 192).map s.nthTicket ⊆ s.vt.records.filterMap (fun e => e.2.ticket) := by
    intro x hx
    obtain ⟨j, hj, rfl⟩ := List.mem_map.mp hx
    obtain ⟨e, he, ht⟩ := all j (List.mem_range.mp hj)
    exact List.mem_filterMap.mpr ⟨e, he, ht⟩
  have le := (distinct.subperm among).length_le
  rw [List.length_map, List.length_range, List.length_filterMap_eq_countP, List.countP_eq_length_filter] at le
  omega

/-- R7: the ticket issued is the first of the numbers from the counter on that no record holds. -/
theorem State.issuedTicket_first (low : 1 ≤ s.vt.nextTicket) (high : s.vt.nextTicket ≤ 99999999)
    (few : (s.vt.records.filter (fun e => e.2.ticket.isSome)).length < 192) :
    ¬ s.Holds s.issuedTicket ∧ ∃ k, s.issuedTicket = s.nthTicket k ∧ ∀ j, j < k → s.Holds (s.nthTicket j) := by
  have start : s.vt.nextTicket = s.nthTicket 0 := by
    unfold nthTicket
    omega
  obtain ⟨k, hk, found, before, here⟩ := s.freeTicket_nth 192 0
  simp only [Nat.zero_add] at found before here
  have issued : s.issuedTicket = s.nthTicket k := by
    rw [issuedTicket, start]
    exact found
  have fewer : k < 192 := by
    refine lt_of_le_of_ne hk fun heq => not_all_held few ?_
    subst heq
    exact before
  exact ⟨issued ▸ here fewer, k, issued, before⟩

end

/-! ### The checks (R8, R9) -/

section

variable {s : State} {n : Fin 4} {tag : Tag} {index : Nat} {veh : Vehicle}

theorem State.tag_of_vehicleByTag (h : s.vehicleByTag tag = some (index, veh)) : veh.tag = tag := by
  simpa using List.find?_some h

theorem State.admission_ungranted {st : Status} (h : s.laneRefusal n = some st) (tag : Option Tag) :
    s.admission n tag = .error st := by
  simp only [admission, h]

/-- R9: the checks from 5 on, of a vehicle that may enter. -/
theorem State.admission_of (idle : (s.lane n).state = .idle) (open' : (s.lane n).cycle = none)
    (may : MayEnter s tag index veh) : s.admission n (some tag) =
      match s.candidate n index veh with
      | .error r => .error r
      | .ok c =>
        match s.permitRefusal c with
        | some r => .error r
        | none => if s.occupancyFull then .error .occupancyLimit else .ok c := by
  have outside : (s.byTagInProgress veh.tag).isSome = false := by
    rw [tag_of_vehicleByTag may.known, may.outside]
    rfl
  simp only [admission, laneRefusal_none idle open', may.clock, Option.bind_some, may.known, may.allowed, outside,
    Bool.not_true, Bool.false_eq_true, if_false] <;> rfl

theorem State.candidate_booking {slot : Nat} {v : Visit} (tagged : veh.tag = tag)
    (h : s.byTagBooked tag = some (slot, v)) : s.candidate n index veh = .ok ⟨slot, v, false, veh.payload⟩ := by
  simp only [candidate, tagged, h]

theorem State.candidate_walkIn {slot : Nat} (tagged : veh.tag = tag) (h : s.byTagBooked tag = none)
    (allowed : (s.lane n).walkIn = true) (free : s.vt.records.lowestFree 192 = some slot) :
    s.candidate n index veh =
      .ok ⟨slot, newVisit .tip tag index veh.defaultPermit (s.lane n).walkTare none, true, veh.payload⟩ := by
  have free : s.vt.records.lowestFree Config.visitSlots = some slot := free
  simp only [candidate, tagged, h, allowed, if_true, free]

theorem State.candidate_unbooked (tagged : veh.tag = tag) (h : s.byTagBooked tag = none)
    (closed : (s.lane n).walkIn = false) : s.candidate n index veh = .error .noBooking := by
  simp [candidate, tagged, h, closed]

theorem State.candidate_full (tagged : veh.tag = tag) (h : s.byTagBooked tag = none)
    (allowed : (s.lane n).walkIn = true) (full : s.vt.records.lowestFree 192 = none) :
    s.candidate n index veh = .error .tableFull := by
  have full : s.vt.records.lowestFree Config.visitSlots = none := full
  simp only [candidate, tagged, h, allowed, if_true, full]

/-- R8: the candidate, by the terms of the statements. -/
theorem State.candidate_of_seeks {kind : VisitKind} {permit : Option Nat} (tagged : veh.tag = tag)
    (h : Seeks s n tag veh kind permit) : ∃ c, s.candidate n index veh = .ok c ∧ c.record.kind = kind ∧
      c.record.permit = permit ∧ c.payload = veh.payload := by
  cases h with
  | booking slot v found => exact ⟨_, candidate_booking tagged found, rfl, rfl, rfl⟩
  | walkIn slot none allowed free => exact ⟨_, candidate_walkIn tagged none allowed free, rfl, rfl, rfl⟩

theorem State.permitRefusal_inactive {c : Candidate} {permit : Option Nat} (tip : c.record.kind = .tip)
    (hn : c.record.permit = permit)
    (h : ∀ number p, permit = some number → s.permits.get number = some p → p.state ≠ .active) :
    s.permitRefusal c = some .permitInactive := by
  simp only [permitRefusal, tip, hn]
  split
  · rfl
  · rename_i p hp
    obtain ⟨number, hnum, hget⟩ := Option.bind_eq_some_iff.mp hp
    rw [if_pos (h number p hnum hget)]

theorem State.permitRefusal_tip {c : Candidate} {number : Nat} {p : Permit} (tip : c.record.kind = .tip)
    (hn : c.record.permit = some number) (hp : s.permits.get number = some p) (active : p.state = .active) :
    s.permitRefusal c = if p.balance - p.reserved < c.payload then some .noBalance else none := by
  simp [permitRefusal, tip, hn, hp, active]

theorem State.permitRefusal_load {c : Candidate} (load : c.record.kind = .load) : s.permitRefusal c = none := by
  simp only [permitRefusal, load]

theorem State.occupancyFull_iff :
    s.occupancyFull = true ↔ occupancyLimit s.loader.image ≤ s.vt.occupancy + s.numAdmitting := by
  simp [occupancyFull]

end

end Sys2Proof.Machine
end

section
/-! O16: ADMIT refuses by the first check that fails. -/

namespace Sys2Proof.Machine

section

variable {s : State} {n : Fin 4} {tag : Tag} {st : Status} {name : AdmitName}

/-- R9: the first check that fails gives the refusal. -/
theorem State.admission_fails (idle : (s.lane n).state = .idle) (open' : (s.lane n).cycle = none)
    (h : FailsCheck s n tag st) : s.admission n (some tag) = .error st := by
  have ready := laneRefusal_none idle open'
  cases h with
  | clock unset => simp [admission, ready, unset]
  | unknown set known => simp [admission, ready, set, known]
  | banned index veh set known banned => simp [admission, ready, set, known, banned]
  | inside index veh set known allowed inside =>
    simp [admission, ready, set, known, allowed, tag_of_vehicleByTag known, inside]
  | unbooked index veh may none closed =>
    rw [admission_of idle open' may, candidate_unbooked (tag_of_vehicleByTag may.known) none closed]
  | full index veh may none allowed full =>
    rw [admission_of idle open' may, candidate_full (tag_of_vehicleByTag may.known) none allowed full]
  | inactive index veh permit may seeks inactive =>
    obtain ⟨c, hc, kind, hn, -⟩ := candidate_of_seeks (index := index) (tag_of_vehicleByTag may.known) seeks
    simp only [admission_of idle open' may, hc, permitRefusal_inactive kind hn inactive]
  | poor index veh number p may seeks hp active poor =>
    obtain ⟨c, hc, kind, hn, payload⟩ := candidate_of_seeks (index := index) (tag_of_vehicleByTag may.known) seeks
    simp only [admission_of idle open' may, hc, permitRefusal_tip kind hn hp active, payload, poor, if_true]
  | crowdedTip index veh number p may seeks hp active funds crowded =>
    obtain ⟨c, hc, kind, hn, payload⟩ := candidate_of_seeks (index := index) (tag_of_vehicleByTag may.known) seeks
    simp only [admission_of idle open' may, hc, permitRefusal_tip kind hn hp active, payload, not_lt.mpr funds,
      if_false, occupancyFull_iff.mpr crowded, if_true]
  | crowdedLoad index veh permit may seeks crowded =>
    obtain ⟨c, hc, kind, hn, payload⟩ := candidate_of_seeks (index := index) (tag_of_vehicleByTag may.known) seeks
    simp only [admission_of idle open' may, hc, permitRefusal_load kind, occupancyFull_iff.mpr crowded, if_true]

/-- R9, R13: a claim that passes its checks finds room in the yard. -/
theorem State.admission_room {tag : Option Tag} {c : Candidate} (h : s.admission n tag = .ok c) :
    s.occupancyFull = false := by
  unfold admission at h
  split at h
  · cases h
  split at h
  · cases h
  split at h
  · cases h
  split at h
  · cases h
  split at h
  · cases h
  split at h
  · cases h
  split at h
  · cases h
  split at h
  · cases h
  · rename_i room
    simpa using room

/-- R8, R9: a handle that names no BOOKED record is refused at the latest at check 3. -/
theorem State.admission_untagged (idle : (s.lane n).state = .idle) (open' : (s.lane n).cycle = none) :
    s.admission n none = .error (if s.clock.isSet then .notFound else .clockUnset) := by
  cases hset : s.clock.isSet <;> simp [admission, laneRefusal_none idle open', hset]

/-! ### The answers of ADMIT -/

theorem exec_admit {lane : Nat} (h : Accepts s (.admitVisit lane name)) :
    exec (.admitVisit lane name) s = replyTo (.admitVisit lane name) (s.admitReply lane name) :=
  show execAdmit lane name s = _ from request_replies _ h

theorem admitNameOk_iff : State.admitNameOk name = true ↔ ∀ h, name = .handle h → h < 192 := by
  cases name with
  | tag t => simp [State.admitNameOk]
  | handle h =>
    simp only [State.admitNameOk, handleOk, decide_eq_true_eq, AdmitName.handle.injEq, forall_eq']
    exact Iff.rfl

theorem admitReply_lane (h : ∀ k, name = .handle k → k < 192) : s.admitReply n.val name = s.admitAt n name := by
  rw [State.admitReply, inRange_of (admitNameOk_iff.mpr h), onLane_fin]

theorem admitAt_refused (mode : (s.lane n).mode = .entry) (h : s.admission n (s.admitTag name) = .error st) :
    s.admitAt n name = s.refuseAdmit n st (s.admitTag name) := by
  simp only [State.admitAt, mode, ne_eq, not_true_eq_false, if_false, h]

theorem admitAt_granted {c : Candidate} (mode : (s.lane n).mode = .entry)
    (h : s.admission n (s.admitTag name) = .ok c) :
    s.admitAt n name = (s.grantAdmission n c, .ok, .ticket s.issuedTicket) := by
  simp only [State.admitAt, mode, ne_eq, not_true_eq_false, if_false, h]

theorem admitTag_named
    (h : name = .tag tag ∨ (∃ k v, name = .handle k ∧ s.visit k = some v ∧ v.state = .booked ∧ v.tag = tag)) :
    s.admitTag name = some tag := by
  rcases h with rfl | ⟨k, v, rfl, found, booked, rfl⟩
  · rfl
  · simp only [State.admitTag, found, booked, if_true]

theorem admitTag_unnamed {k : Nat} (h : ∀ v, s.visit k = some v → v.state ≠ .booked) :
    s.admitTag (.handle k) = none := by
  unfold State.admitTag
  simp only
  split
  · rfl
  · rename_i v hv
    rw [if_neg (h v hv)]

theorem refuseAdmit_data (s : State) (n : Fin 4) (st : Status) (tag : Option Tag) :
    (s.refuseAdmit n st tag).2.2 = .empty := by
  unfold State.refuseAdmit
  split
  · rfl
  · split <;> rfl

theorem replyTo_answer {c : Instr} {r : Reply} {t : State} {code : Byte} {data : Answer} (step : replyTo c r = .next t)
    (answer : t.port.buffer = .answer code st data) : r.2.2 = data := by
  cases step
  cases answer
  rfl

theorem refuseAdmit_quiet (quiet : st = .laneBusy ∨ st = .tooSoon) (tag : Option Tag) :
    s.refuseAdmit n st tag = s.refuse st := by
  unfold State.refuseAdmit
  rw [if_pos quiet]

theorem refuseAdmit_loud (loud : ¬ (st = .laneBusy ∨ st = .tooSoon)) (tag : Option Tag) :
    s.refuseAdmit n st tag = match tag with
      | some t => (s.refuseAtLane n st t, st, .empty)
      | none => ({ s.refuseAtLane n st (Config.refusedTag s.free) with free := s.free + 1 }, st, .empty) := by
  unfold State.refuseAdmit
  exact if_neg loud

/-- R11: which refusals leave the lane as it is. -/
theorem FailsCheck.consumes (h : FailsCheck s n tag st) : ¬ (st = .laneBusy ∨ st = .tooSoon) := by
  cases h <;> simp

end

/-- Settles O16. -/
theorem admitRefusesInOrder : Obligations.AdmitRefusesInOrder := by
  unfold Obligations.AdmitRefusesInOrder
  intro s n name c inRange refusedAt acc
  rw [exec_admit acc]
  have refused {st : Status} (hin : inRange) (claim : s.admission n (s.admitTag name) = .error st) :
      s.admitReply n.val name = s.refuseAdmit n st (s.admitTag name) := by
    rw [admitReply_lane hin.2, admitAt_refused hin.1 claim]
  have quiet {st : Status} (hin : inRange) (h : s.laneRefusal n = some st) (hst : st = .laneBusy ∨ st = .tooSoon) :
      replyTo c (s.admitReply n.val name) = .next (answered s c st .empty) := by
    rw [refused hin (State.admission_ungranted h _), refuseAdmit_quiet hst]
    exact replyTo_refuse _ _ _
  have outside (out : ¬ inRange) : s.admitReply n.val name = s.refuse .badParameter := by
    by_cases ok : State.admitNameOk name = true
    · have mode : (s.lane n).mode ≠ .entry := fun mode => out ⟨mode, admitNameOk_iff.mp ok⟩
      rw [admitReply_lane (admitNameOk_iff.mp ok), State.admitAt, if_pos mode]
    · rw [State.admitReply, inRange_not (Bool.eq_false_of_not_eq_true ok)]
  refine ⟨fun out => by rw [outside out]; exact replyTo_refuse _ _ _, fun hin busy =>
      quiet hin (State.laneRefusal_busy busy) (.inl rfl),
    fun k hin idle hc => quiet hin (State.laneRefusal_soon idle hc) (.inr rfl), ?_, ?_, ?_⟩
  · intro tag st hin idle open' named fails
    have ht := admitTag_named named
    rw [refused hin (by rw [ht]; exact State.admission_fails idle open' fails), ht,
      refuseAdmit_loud fails.consumes]
    rfl
  · rintro k hin idle open' rfl unbooked st
    have ht := admitTag_unnamed unbooked
    refine ⟨Config.refusedTag s.free, ?_⟩
    have loud : ¬ (st = .laneBusy ∨ st = .tooSoon) := by
      cases hset : s.clock.isSet <;> simp [st, hset]
    rw [refused hin (by rw [ht]; exact State.admission_untagged idle open'), ht, refuseAdmit_loud loud]
    rfl
  · intro t ticket step answer
    have data := replyTo_answer step answer
    by_cases hin : inRange
    · cases hc : s.admission n (s.admitTag name) with
      | error st =>
        rw [refused hin hc, refuseAdmit_data] at data
        cases data
      | ok c =>
        exact Nat.not_le.mp fun full =>
          Bool.eq_false_iff.mp (State.admission_room hc) (State.occupancyFull_iff.mpr full)
    · rw [outside hin] at data
      cases data

end Sys2Proof.Machine
end

section
/-! O15: what a granted admission leaves, by ADMIT and by a TAG_READ tried at once. -/

namespace Sys2Proof.Machine

section

variable {s : State} {n : Fin 4} {tag : Tag} {index : Nat} {veh : Vehicle} {c : Candidate} {vehicles : Table Vehicle}
  {permits : Table Permit}

/-- R9, R10: the claim of a tag is granted to a candidate, and what it claims of the register and of the permits. -/
structure GrantReady (s : State) (n : Fin 4) (tag : Tag) (c : Candidate) (vehicles : Table Vehicle)
    (permits : Table Permit) : Prop where
  admission : s.admission n (some tag) = .ok c
  claims    : s.admissionClaims c = { s with vehicles := vehicles, permits := permits }

/-! ### What the claim changes (R10, R12) -/

/-- R10, R12: what a granted admission leaves, for the record `w` it writes to a slot. -/
def State.granted (s : State) (n : Fin 4) (slot : Nat) (w : Visit) (ticket : Nat) (vehicles : Table Vehicle)
    (permits : Table Permit) : State :=
  (({ s with
    vt := { s.vt with
      records := s.vt.records.put slot w
      changes := withChange s.vt.changes slot, nextTicket := ticketAfter ticket }
    vehicles := vehicles, permits := permits }.latch .admitted n.val).bindGrant n ticket w.tag false).followLevels

theorem State.granted_undelivered (s : State) (n : Fin 4) (slot : Nat) (w : Visit) (ticket : Nat)
    (vehicles : Table Vehicle) (permits : Table Permit) : s.undelivered.granted n slot w ticket vehicles permits =
      { s.granted n slot w ticket vehicles permits with
        loop := { (s.granted n slot w ticket vehicles permits).loop with delivery := none } } := rfl

theorem State.granted_rest (s : State) (n : Fin 4) (slot : Nat) (w : Visit) (ticket : Nat)
    (vehicles : Table Vehicle) (permits : Table Permit) : s.granted n slot w ticket vehicles permits = { s with
      vt := { s.vt with
        records := s.vt.records.put slot w
        changes := withChange s.vt.changes slot, nextTicket := ticketAfter ticket }
      vehicles := vehicles, permits := permits
      lanes := (s.granted n slot w ticket vehicles permits).lanes
      engines := (s.granted n slot w ticket vehicles permits).engines
      notices := (s.granted n slot w ticket vehicles permits).notices } := rfl

theorem State.granted_binds (s : State) (n : Fin 4) (slot : Nat) (w : Visit) (ticket : Nat)
    (vehicles : Table Vehicle) (permits : Table Permit) :
    Binds s (s.granted n slot w ticket vehicles permits) n ticket w.tag false := by
  have binds := (State.bindGrant_binds ({ s with
    vt := { s.vt with
      records := s.vt.records.put slot w
      changes := withChange s.vt.changes slot, nextTicket := ticketAfter ticket }
    vehicles := vehicles, permits := permits }.latch .admitted n.val) n ticket w.tag false).follow
  exact ⟨binds.lane, binds.engine⟩

theorem State.granted_others (s : State) (n : Fin 4) (slot : Nat) (w : Visit) (ticket : Nat)
    (vehicles : Table Vehicle) (permits : Table Permit) :
    OtherLanesKept s (s.granted n slot w ticket vehicles permits) n := by
  have claimed : OtherLanesKept s ({ s with
    vt := { s.vt with
      records := s.vt.records.put slot w
      changes := withChange s.vt.changes slot, nextTicket := ticketAfter ticket }
    vehicles := vehicles, permits := permits }.latch .admitted n.val) n := OtherLanesKept.of_blocks rfl rfl rfl rfl
  exact claimed.trans ((State.bindGrant_others _ _ _ _ _).trans (OtherLanesKept.followLevels _))

/-! ### The grant of a candidate -/

/-- R10, R12: what the admission of a candidate leaves. -/
def State.admittedState (s : State) (n : Fin 4) (c : Candidate) (vehicles : Table Vehicle) (permits : Table Permit) :
    State := s.granted n c.slot (s.admittedVisit n c s.issuedTicket) s.issuedTicket vehicles permits

theorem GrantReady.grant (r : GrantReady s n tag c vehicles permits) :
    s.grantAdmission n c = s.admittedState n c vehicles permits := by
  simp only [State.grantAdmission, r.claims, State.setVisit_touch, State.admittedState, State.granted]

theorem State.freeTicket_congr {s u : State} (h : s.vt = u.vt) (k t : Nat) : s.freeTicket k t = u.freeTicket k t := by
  induction k generalizing t with
  | zero => rfl
  | succ k ih => rw [freeTicket, freeTicket, ih, byTicket, byTicket, h]

theorem State.admittedState_undelivered (s : State) (n : Fin 4) (c : Candidate) (vehicles : Table Vehicle)
    (permits : Table Permit) : s.undelivered.admittedState n c vehicles permits =
      { s.admittedState n c vehicles permits with
        loop := { (s.admittedState n c vehicles permits).loop with delivery := none } } := by
  have issued : s.undelivered.issuedTicket = s.issuedTicket := State.freeTicket_congr rfl _ _
  rw [admittedState, issued]
  exact s.granted_undelivered n c.slot (s.admittedVisit n c s.issuedTicket) s.issuedTicket vehicles permits

theorem State.admittedState_binds (s : State) (n : Fin 4) (c : Candidate) (vehicles : Table Vehicle)
    (permits : Table Permit) : Binds s (s.admittedState n c vehicles permits) n s.issuedTicket c.record.tag false :=
  s.granted_binds n c.slot (s.admittedVisit n c s.issuedTicket) s.issuedTicket vehicles permits

theorem State.admittedState_admits (s : State) (n : Fin 4) (c : Candidate) (vehicles : Table Vehicle)
    (permits : Table Permit) (payload : c.payload = veh.payload) :
    Admits s (s.admittedState n c vehicles permits) n c.slot c.record veh := by
  have admitted : s.admittedVisit n c s.issuedTicket = { c.record with
      ticket := some s.issuedTicket, state := .admitting, lane := some n, bookingDay := none
      reservation := if c.record.kind = .tip then veh.payload else 0, admittedAt := some s.now
      bindMark := c.record.weighings.length } := by
    rw [State.admittedVisit, payload]
  constructor
  case record =>
    rw [← admitted, State.visit, State.admittedState, State.granted_rest]
    exact Table.get_put_self _ _ _
  case others =>
    intro k hk
    rw [State.visit, State.admittedState, State.granted_rest]
    exact Table.get_put_of_ne _ _ hk
  case rest =>
    have rest := s.granted_rest n c.slot (s.admittedVisit n c s.issuedTicket) s.issuedTicket vehicles permits
    rw [State.admittedState]
    simp only [State.ticketAfter, Config.maxTicket] at rest
    generalize s.granted n c.slot (s.admittedVisit n c s.issuedTicket) s.issuedTicket vehicles permits = t at *
    have records : t.vt.records = s.vt.records.put c.slot (s.admittedVisit n c s.issuedTicket) := by rw [rest]
    have register : t.vehicles = vehicles := by rw [rest]
    have accounts : t.permits = permits := by rw [rest]
    rw [records, register, accounts]
    exact rest
  case binds => exact s.admittedState_binds n c vehicles permits
  case lanes => exact s.granted_others n c.slot (s.admittedVisit n c s.issuedTicket) s.issuedTicket vehicles permits
  case notice =>
    rw [State.admittedState, State.granted]
    exact State.followLevels_isLatched _ (State.latched_latch _ _ _)

/-! ### Both ways to ask (R8, R56) -/

/-- R8, R56: the two ways to claim for a tag, and the state they both leave, but for the delivery taken. -/
def Asked (s : State) (n : Fin 4) (tag : Tag) (t : State) : Prop :=
  (∀ name, Accepts s (.admitVisit n.val name) →
    name = .tag tag ∨ (∃ h v, name = .handle h ∧ h < 192 ∧ s.visit h = some v ∧ v.state = .booked ∧ v.tag = tag) →
    exec (.admitVisit n.val name) s = .next (answered t (.admitVisit n.val name) .ok (.ticket s.issuedTicket))) ∧
  (∀ frame, s.rstLow = false → s.loop.delivery = some ⟨.tagRead n tag, frame⟩ → (s.lane n).autoTake = true →
    (s.lane n).boundTag ≠ some tag → (s.lane n).buffer = [] → 0 < s.tagWindow →
    exec (.tagRead n tag) s = .next { t with loop := { t.loop with delivery := none } })

theorem GrantReady.asked (r : GrantReady s n tag c vehicles permits)
    (r' : GrantReady s.undelivered n tag c vehicles permits) (mode : (s.lane n).mode = .entry)
    (idle : (s.lane n).state = .idle) : Asked s n tag (s.admittedState n c vehicles permits) := by
  refine ⟨fun name acc named => ?_, fun frame up waits auto fresh empty window => ?_⟩
  · have small : ∀ k, name = .handle k → k < 192 := by
      rintro k rfl
      rcases named with h | ⟨h, v, heq, hlt, -⟩
      · cases h
      · cases heq
        exact hlt
    have tagged : s.admitTag name = some tag :=
      admitTag_named (named.imp id fun ⟨h, v, heq, _, found, booked, ht⟩ => ⟨h, v, heq, found, booked, ht⟩)
    rw [exec_admit acc, admitReply_lane small, admitAt_granted mode (by rw [tagged]; exact r.admission), r.grant]
    rfl
  · have entry : (s.undelivered.lane n).mode = .entry := mode
    have claim : s.undelivered.tagClaim n tag = .ok (s.undelivered.admittedState n c vehicles permits) := by
      simp only [State.tagClaim, entry, r'.admission, r'.grant]
    rw [exec_tagRead_granted up waits idle auto fresh empty window claim
      (by rw [(s.undelivered.admittedState_binds n c vehicles permits).lane]; simp)]
    rw [State.admittedState_undelivered]

/-! ### The three candidates -/

theorem MayEnter.undelivered (may : MayEnter s tag index veh) : MayEnter s.undelivered tag index veh :=
  ⟨may.clock, may.known, may.allowed, may.outside⟩

theorem GrantReady.booking_tip {slot number : Nat} {v : Visit} {p : Permit} (idle : (s.lane n).state = .idle)
    (open' : (s.lane n).cycle = none) (may : MayEnter s tag index veh)
    (room : s.vt.occupancy + s.numAdmitting < occupancyLimit s.loader.image)
    (found : s.byTagBooked tag = some (slot, v)) (tip : v.kind = .tip) (hn : v.permit = some number)
    (hp : s.permits.get number = some p) (active : p.state = .active) (funds : veh.payload ≤ p.balance - p.reserved) :
    GrantReady s n tag ⟨slot, v, false, veh.payload⟩ s.vehicles
      (s.permits.put number { p with reserved := p.reserved + veh.payload }) where
  admission := by
    have hc := State.candidate_booking (n := n) (index := index) (State.tag_of_vehicleByTag may.known) found
    have open'' : s.occupancyFull = false := by
      rw [← Bool.not_eq_true, State.occupancyFull_iff]
      exact Nat.not_le.mpr room
    simp only [State.admission_of idle open' may, hc, State.permitRefusal_tip (c := ⟨slot, v, false,
        veh.payload⟩) tip hn
      hp active, not_lt.mpr funds, if_false, open'', Bool.false_eq_true]
  claims := by
    simp only [State.admissionClaims, Bool.false_eq_true, if_false, tip, hn, State.addReserved_of hp]

theorem GrantReady.booking_load {slot : Nat} {v : Visit} (idle : (s.lane n).state = .idle)
    (open' : (s.lane n).cycle = none) (may : MayEnter s tag index veh)
    (room : s.vt.occupancy + s.numAdmitting < occupancyLimit s.loader.image)
    (found : s.byTagBooked tag = some (slot, v)) (load : v.kind = .load) :
    GrantReady s n tag ⟨slot, v, false, veh.payload⟩ s.vehicles s.permits where
  admission := by
    have hc := State.candidate_booking (n := n) (index := index) (State.tag_of_vehicleByTag may.known) found
    have open'' : s.occupancyFull = false := by
      rw [← Bool.not_eq_true, State.occupancyFull_iff]
      exact Nat.not_le.mpr room
    simp only [State.admission_of idle open' may, hc,
      State.permitRefusal_load (c := ⟨slot, v, false, veh.payload⟩) load, open'', Bool.false_eq_true, if_false]
  claims := by
    simp only [State.admissionClaims, Bool.false_eq_true, if_false, load]

theorem GrantReady.walkIn {slot number : Nat} {p : Permit} (idle : (s.lane n).state = .idle)
    (open' : (s.lane n).cycle = none) (may : MayEnter s tag index veh) (tables : s.vehicles.wf)
    (room : s.vt.occupancy + s.numAdmitting < occupancyLimit s.loader.image) (unbooked : s.byTagBooked tag = none)
    (allowed : (s.lane n).walkIn = true) (free : s.vt.records.lowestFree 192 = some slot)
    (hn : veh.defaultPermit = some number) (hp : s.permits.get number = some p) (active : p.state = .active)
    (funds : veh.payload ≤ p.balance - p.reserved) :
    GrantReady s n tag ⟨slot, newVisit .tip tag index (some number) (s.lane n).walkTare none, true, veh.payload⟩
      (s.vehicles.put index { veh with live := veh.live + 1 })
      (s.permits.put number { p with live := p.live + 1, reserved := p.reserved + veh.payload }) where
  admission := by
    have hc := State.candidate_walkIn (index := index) (State.tag_of_vehicleByTag may.known) unbooked allowed free
    rw [hn] at hc
    have open'' : s.occupancyFull = false := by
      rw [← Bool.not_eq_true, State.occupancyFull_iff]
      exact Nat.not_le.mpr room
    simp only [State.admission_of idle open' may, hc, State.permitRefusal_tip (c := ⟨slot, newVisit .tip tag index
      (some number) (s.lane n).walkTare none, true, veh.payload⟩) rfl rfl hp active, not_lt.mpr funds, if_false, open'',
      Bool.false_eq_true]
  claims := by
    have hveh : s.vehicles.get index = some veh := (State.vehicleByTag_get tables may.known).1
    have added := State.addLive_of_some (s := s)
      (v := newVisit .tip tag index (some number) (s.lane n).walkTare none) hveh rfl hp 1
    have here : (s.permits.put number { p with live := p.live + 1 }).get number = some { p with live := p.live + 1 } :=
      Table.get_put_self _ _ _
    simp only [State.admissionClaims, if_true, added]
    have lives (k : Nat) : ((k : Int) + 1).toNat = k + 1 := by omega
    simp only [lives]
    show State.addReserved _ number veh.payload = _
    rw [State.addReserved_of here]
    simp only [Table.put_put]
    rfl

end

/-- Settles O15. -/
theorem admitGrantsABooking : Obligations.AdmitGrantsABooking := by
  unfold Obligations.AdmitGrantsABooking
  refine ⟨?_, fun s low high few => ?_⟩
  · intro s n tag index veh asked tables mode idle open' may room
    have admitted {slot : Nat} {v : Visit} {isNew : Bool} {vehicles : Table Vehicle} {permits : Table Permit}
        (r : GrantReady s n tag ⟨slot, v, isNew, veh.payload⟩ vehicles permits)
        (r' : GrantReady s.undelivered n tag ⟨slot, v, isNew, veh.payload⟩ vehicles permits) :
        ∃ t, asked t ∧ Admits s t n slot v veh ∧ t.vehicles = vehicles ∧ t.permits = permits :=
      ⟨s.admittedState n ⟨slot, v, isNew, veh.payload⟩ vehicles permits, r.asked r' mode idle,
        s.admittedState_admits n ⟨slot, v, isNew, veh.payload⟩ vehicles permits rfl, rfl, rfl⟩
    refine ⟨fun slot v found => ⟨fun number p tip hn hp active funds => ?_, fun load => ?_⟩,
      fun slot number p unbooked allowed free hn hp active funds => ?_⟩
    · exact admitted (.booking_tip idle open' may room found tip hn hp active funds)
        (.booking_tip idle open' may.undelivered room found tip hn hp active funds)
    · exact admitted (.booking_load idle open' may room found load)
        (.booking_load idle open' may.undelivered room found load)
    · exact admitted (.walkIn idle open' may tables.vehicles room unbooked allowed free hn hp active funds)
        (.walkIn (s := s.undelivered) idle open' may.undelivered tables.vehicles room unbooked allowed free hn hp active
          funds)
  · obtain ⟨unheld, k, issued, before⟩ := s.issuedTicket_first low high few
    exact ⟨fun e he ht => unheld ⟨e, he, ht⟩, k, issued, before⟩

end Sys2Proof.Machine
end

section
/-! O53: a LANE_STATUS that completes a passage (R61, R85), attended or not (R88, R173). -/

namespace Sys2Proof.Machine

section

variable {s w : State} {n : Fin 4} {r : LaneReport} {frame ticket slot : Nat} {v : Visit} {b : Barrier}

/-! ### The image (R75, R78, R84, R85) -/

/-- R75, R85: an image of an UP barrier that finds the vehicle past. -/
structure FindsPast (r : LaneReport) : Prop where
  up     : r.upClosed = true
  down   : r.downClosed = false
  gate   : r.gate = false
  beyond : r.beyond = false
  deck   : r.deck = false
  code   : r.code = .none

/-- R84, R85: an UP barrier that has judged such an image: only its image and the gate-clear timer have moved. -/
structure SeesPast (b b' : Barrier) (r : LaneReport) (frame : Nat) : Prop where
  rest : b' = { b with image := some ⟨r, frame⟩, gateClear := b'.gateClear }
  kept : b.order = .raise → b'.gateClear = b.gateClear

theorem Barrier.judge_up (h : FindsPast r) (up : b.state = .up) (seen : b.report = r) (travel gate : Nat) :
    b.judge travel gate = { b with gateClear := (b.judge travel gate).gateClear } ∧
      (b.order = .raise → (b.judge travel gate).gateClear = b.gateClear) := by
  unfold judge
  simp only [up, seen, h.up, h.down, h.gate, Bool.and_false, Bool.not_true, Bool.or_self, Bool.false_eq_true, if_false]
  by_cases lower : b.order = .lower
  · rw [if_pos lower]
    refine ⟨?_, fun raise => by rw [raise] at lower; cases lower⟩
    split
    · rw [← up]
    · rw [← up]
  · rw [if_neg lower]
    exact ⟨by rw [← up], fun _ => rfl⟩

theorem Barrier.judge_past (h : FindsPast r) (up : b.state = .up) (travel gate : Nat) :
    SeesPast b (({ b with image := some ⟨r, frame⟩ } : Barrier).judge travel gate) r frame := by
  obtain ⟨rest, kept⟩ := Barrier.judge_up (b := { b with image := some ⟨r, frame⟩ }) h up rfl travel gate
  exact ⟨rest, kept⟩

/-- R85: tracking that has seen BEYOND takes such an image as the end of the passage. -/
theorem SeesPast.passed {b' : Barrier} (h : SeesPast b b' r frame) (past : FindsPast r) (seen : b.beyondSeen = true) :
    b'.track = b' ∧ b'.passed = true := by
  have report : b'.report = r := by
    rw [h.rest]
    rfl
  have seen' : b'.beyondSeen = true := by
    rw [h.rest]
    exact seen
  simp [Barrier.track, Barrier.passed, report, seen', past.gate, past.beyond, past.deck]

/-- R75: an image that finds the vehicle past, up to the judgement of passage tracking. -/
theorem exec_laneStatus_past (up : s.rstLow = false) (waits : s.loop.delivery = some ⟨.laneStatusMessage n r, frame⟩)
    (idle : (s.engine n).run = none) (raised : (s.barrier n).state = .up) (past : FindsPast r) :
    ∃ b, SeesPast (s.barrier n) b r frame ∧ exec (.laneStatusMessage n r) s = .next
      ((((s.undelivered.setBarrier n b).trackPassage n).watchAbandoned n).tryOnIdle n s.undelivered) := by
  refine ⟨_, Barrier.judge_past past raised (s.frames .travel) (s.frames .gateClear), ?_⟩
  show execLaneStatusMessage n r s = _
  refine (deliver_taken _ up waits).trans (congrArg Host.Outcome.next ?_)
  show s.undelivered.takeImage n r frame = _
  have image : ((s.undelivered.setImage n r frame).barrier n) = { s.barrier n with image := some ⟨r, frame⟩ } := by
    rw [State.setImage, State.barrier_setBarrier_self]
    rfl
  have running : (s.undelivered.setImage n r frame).captureImage n r = s.undelivered.setImage n r frame := by
    have : ((s.undelivered.setImage n r frame).engine n).run = none := idle
    simp only [State.captureImage, this]
  have judged := Barrier.judge_past (frame := frame) past raised (s.frames .travel) (s.frames .gateClear)
  have state : (({ s.barrier n with image := some ⟨r, frame⟩ } : Barrier).judge (s.frames .travel)
      (s.frames .gateClear)).state = (s.barrier n).state := by
    rw [judged.rest]
  have same : (s.undelivered.setImage n r frame).judgeBarrier n = s.undelivered.setBarrier n
      (({ s.barrier n with image := some ⟨r, frame⟩ } : Barrier).judge (s.frames .travel) (s.frames .gateClear)) := by
    rw [State.judgeBarrier, image]
    simp only [if_pos state, show ∀ x, (s.undelivered.setImage n r frame).frames x = s.frames x from fun _ => rfl]
    rw [State.setImage, State.setBarrier_setBarrier]
  unfold State.takeImage
  rw [past.code]
  show (((((s.undelivered.setImage n r frame).captureImage n r).judgeBarrier n).trackPassage n).watchAbandoned
    n).tryOnIdle n s.undelivered = _
  rw [running, same]

/-! ### The bound visit moves on (R23, R61) -/

theorem State.passage_rest (s : State) (n : Fin 4) (slot : Nat) (v : Visit) : s.passage n slot v = { s with
    vt := { s.vt with
      records := (s.passage n slot v).vt.records, occupancy := (s.passage n slot v).vt.occupancy
      changes := (s.passage n slot v).vt.changes, completion := (s.passage n slot v).vt.completion }
    notices := (s.passage n slot v).notices } := by
  unfold passage
  split
  · rfl
  · simp only [complete_eq]
    split
    all_goals
      rw [addOccupancy, touch_eq]
      rfl

theorem State.passage_visits (s : State) (n : Fin 4) (slot : Nat) (v : Visit) :
    OtherVisitsKept s (s.passage n slot v) slot := by
  intro k hk
  unfold passage
  split
  · rfl
  · simp only [complete_eq]
    split
    all_goals
      rw [addOccupancy, touch_eq]
      exact Table.get_put_of_ne _ _ hk

/-- R23, R25: what a passage leaves of the record that moves. -/
structure Passes (s t : State) (n : Fin 4) (slot : Nat) (w : Visit) (d : Int) : Prop where
  record     : t.visit slot = some w
  occupancy  : t.vt.occupancy = (s.vt.occupancy + d).toNat
  completion : t.vt.completion = if w.finished then withChange s.vt.completion slot else s.vt.completion
  notice     : t.notices.isLatched .passed n.val = true

theorem State.passage_passes {w : Visit} {d : Int} (h : passedVisit v (s.lane n).mode s.now = some (w, d)) :
    Passes s (s.passage n slot v) n slot w d := by
  have latched := latched_latch (((s.setVisit slot w).addOccupancy d).touch slot) .passed n
  have vt : ((((s.setVisit slot w).addOccupancy d).touch slot).latch .passed n.val).vt = { s.vt with
      records := s.vt.records.put slot w, occupancy := (s.vt.occupancy + d).toNat
      changes := withChange s.vt.changes slot } := by
    rw [addOccupancy, touch_eq]
    rfl
  simp only [passage, h]
  generalize (((s.setVisit slot w).addOccupancy d).touch slot).latch .passed n.val = t at latched vt
  have written : (s.vt.records.put slot w).get slot = some w := Table.get_put_self _ _ _
  cases hf : w.finished with
  | true =>
    simp only [if_true, complete_eq]
    refine ⟨?_, ?_, ?_, followLevels_isLatched _ latched⟩
    · rw [State.visit, followLevels_vt, vt]
      exact written
    · rw [followLevels_vt, vt]
    · rw [followLevels_vt, vt, hf]
      rfl
  | false =>
    simp only [Bool.false_eq_true, if_false]
    refine ⟨?_, ?_, ?_, followLevels_isLatched _ latched⟩
    · rw [State.visit, followLevels_vt, vt]
      exact written
    · rw [followLevels_vt, vt]
    · rw [followLevels_vt, vt, hf]
      rfl

/-- R61, R84, R88: a lane at an UP barrier with order RAISE enters RELEASING with no held visit. -/
structure EndsPassing (s t : State) (n : Fin 4) : Prop where
  rest    : t = { s with lanes := t.lanes, barriers := t.barriers, notices := t.notices }
  lane    : t.lane n = releasingLane s n none
  barrier : (t.barrier n).state = .up ∧ (t.barrier n).order = .lower ∧ (t.barrier n).tracking = .inactive ∧
    (t.barrier n).gateClear = (if (s.barrier n).report.gate then none else some (s.frames .gateClear)) ∧
    (t.barrier n).image = (s.barrier n).image
  others  : OtherLanesKept s t n
  latched : ∀ src bit, s.notices.isLatched src bit = true → t.notices.isLatched src bit = true

theorem State.enterReleasing_up (up : (s.barrier n).state = .up) (raised : (s.barrier n).order = .raise) :
    EndsPassing s (s.enterReleasing n none) n := by
  have ordered : (s.barrier n).giveOrder .lower (s.frames .travel) (s.frames .gateClear) = { s.barrier n with
      order := .lower
      gateClear := if (s.barrier n).report.gate then none else some (s.frames .gateClear) } := by
    simp only [Barrier.giveOrder, up, raised, reduceCtorEq, if_false]
    rfl
  have barrier : (s.beginReleasing n none).barrier n = { s.barrier n with
      order := .lower, tracking := .inactive, abandon := none
      gateClear := if (s.barrier n).report.gate then none else some (s.frames .gateClear)
      beyondSeen := ((s.beginReleasing n none).barrier n).beyondSeen } := by
    unfold beginReleasing
    rw [barrier_followLevels, setTracking_barrier, orderBarrier_barrier]
    have keeps (x : Setting) : (s.setLane n (releasingLane s n none)).frames x = s.frames x := rfl
    have same : (s.setLane n (releasingLane s n none)).barrier n = s.barrier n := rfl
    simp only [same, keeps, ordered]
    rfl
  have still : ((s.beginReleasing n none).barrier n).state = .up := by
    rw [barrier]
    exact up
  have eq : s.enterReleasing n none = s.beginReleasing n none := by
    rw [enterReleasing_eq_end, endReleasing, if_neg]
    rw [still]
    simp
  rw [eq]
  refine ⟨s.beginReleasing_rest n none, s.beginReleasing_lane n none, ⟨still, ?_, ?_, ?_, ?_⟩,
    s.beginReleasing_others n none, fun src bit h => followLevels_isLatched _ h⟩
  all_goals rw [barrier]

end

end Sys2Proof.Machine
end

section
/-! O53: the two passages, attended and unattended. -/

namespace Sys2Proof.Machine

section

variable {s t w : State} {n : Fin 4} {r : LaneReport} {frame ticket slot : Nat} {v : Visit} {b : Barrier}

theorem State.watchAbandoned_eq (s : State) (n : Fin 4) : ∃ x, s.watchAbandoned n =
    s.setBarrier n { s.barrier n with abandon := x } := by
  unfold watchAbandoned Barrier.watchAbandon
  split
  · split
    · exact ⟨_, rfl⟩
    · exact ⟨(s.barrier n).abandon, rfl⟩
  · exact ⟨none, rfl⟩

/-- R56: a lane that is not IDLE makes no try. -/
theorem State.tryOnIdle_of_busy {before : State} (h : (t.lane n).state ≠ .idle) : t.tryOnIdle n before = t := by
  rw [tryOnIdle, if_neg fun idle => h idle.2]

theorem State.trackPassage_bound (track : b.track = b) (tracking : b.tracking = .boundVisit)
    (passed : b.passed = true) :
    (s.setBarrier n b).trackPassage n = (s.setBarrier n b).completePassage n := by
  simp only [trackPassage, barrier_setBarrier_self, setBarrier_setBarrier, track, tracking, passed, if_true]

theorem State.trackPassage_held (track : b.track = b) (tracking : b.tracking = .heldVisit) (passed : b.passed = true) :
    (s.setBarrier n b).trackPassage n = (s.setBarrier n b).completeUnattended n := by
  simp only [trackPassage, barrier_setBarrier_self, setBarrier_setBarrier, track, tracking, passed, if_true]

theorem State.completePassage_of (bound : (s.lane n).bound = some ticket) (found : s.byTicket ticket = some (slot, v)) :
    s.completePassage n = (s.passage n slot v).enterReleasing n none := by
  simp only [completePassage, boundRecord, bound, found]

/-- R23, R61, R75, R85: what the image leaves that completes the passage of the bound visit. -/
structure PassageEnds (s t : State) (n : Fin 4) (slot : Nat) (v : Visit) (r : LaneReport) (frame : Nat) : Prop where
  moves   : ∀ w d, State.passedVisit v (s.lane n).mode s.now = some (w, d) → Passes s t n slot w d
  visits  : OtherVisitsKept s t slot
  rest    : t.vehicles = s.vehicles ∧ t.permits = s.permits ∧ t.clock = s.clock ∧ t.loader = s.loader ∧
    t.units = s.units
  lane    : t.lane n = releasingLane s n none
  barrier : (t.barrier n).state = .up ∧ (t.barrier n).order = .lower ∧ (t.barrier n).tracking = .inactive ∧
    (t.barrier n).gateClear = some (s.frames .gateClear) ∧ (t.barrier n).image = some ⟨r, frame⟩
  others  : OtherLanesKept s t n

theorem exec_laneStatus_passes (up : s.rstLow = false)
    (waits : s.loop.delivery = some ⟨.laneStatusMessage n r, frame⟩) (idle : (s.engine n).run = none)
    (raised : (s.barrier n).state = .up) (past : FindsPast r) (bound : (s.lane n).bound = some ticket)
    (found : s.byTicket ticket = some (slot, v)) (order : (s.barrier n).order = .raise)
    (tracking : (s.barrier n).tracking = .boundVisit) (seen : (s.barrier n).beyondSeen = true) :
    ∃ t, exec (.laneStatusMessage n r) s = .next t ∧ PassageEnds s t n slot v r frame := by
  obtain ⟨b, sees, step⟩ := exec_laneStatus_past up waits idle raised past
  obtain ⟨track, passed⟩ := sees.passed past seen
  have tracks : b.tracking = .boundVisit := by
    rw [sees.rest]
    exact tracking
  rw [State.trackPassage_bound track tracks passed, State.completePassage_of (s := s.undelivered.setBarrier n b) bound found] at step
  generalize hw : s.undelivered.setBarrier n b = w at step
  have wlane (m : Fin 4) : w.lane m = s.lane m := by rw [← hw]; rfl
  have wbarrier : w.barrier n = b := by rw [← hw, State.barrier_setBarrier_self]
  have wframes (x : Setting) : w.frames x = s.frames x := by rw [← hw]; rfl
  have wothers : OtherLanesKept s w n := by
    rw [← hw]
    exact OtherLanesKept.setBarrier s.undelivered b
  have rest := w.passage_rest n slot v
  have visits := w.passage_visits n slot v
  have moves (x : Visit) (d : Int) (h : State.passedVisit v (s.lane n).mode s.now = some (x, d)) :
      Passes w (w.passage n slot v) n slot x d := State.passage_passes (by rw [wlane, ← hw]; exact h)
  generalize w.passage n slot v = p at step rest visits moves
  have plane (m : Fin 4) : p.lane m = s.lane m := by rw [← wlane, rest]; rfl
  have pbarrier : p.barrier n = b := by rw [← wbarrier, rest]; rfl
  have ends : EndsPassing p (p.enterReleasing n none) n := State.enterReleasing_up
    (by rw [pbarrier, sees.rest]; exact raised) (by rw [pbarrier, sees.rest]; exact order)
  generalize p.enterReleasing n none = e at step ends
  obtain ⟨x, watched⟩ := e.watchAbandoned_eq n
  rw [watched, State.tryOnIdle_of_busy (by
    show (e.lane n).state ≠ .idle
    rw [ends.lane]
    simp [releasingLane])] at step
  obtain ⟨state, ordered, inactive, gate, image⟩ := ends.barrier
  have pframes (x : Setting) : p.frames x = s.frames x := by rw [rest, ← wframes]; rfl
  have report : (p.barrier n).report = r := by
    rw [pbarrier, sees.rest]
    rfl
  rw [report, past.gate, if_neg (by simp), pframes] at gate
  rw [pbarrier, sees.rest] at image
  have blocks : e.vehicles = w.vehicles ∧ e.permits = w.permits ∧ e.clock = w.clock ∧ e.loader = w.loader ∧
      e.units = w.units ∧ e.vt = p.vt := by
    rw [ends.rest, rest]
    simp
  obtain ⟨vehicles, permits, clock, loader, units, vt⟩ := blocks
  subst hw
  refine ⟨_, step, ⟨fun x d h => ?_, fun k hk => ?_, ⟨vehicles, permits, clock, loader, units⟩, ?_, ?_, ?_⟩⟩
  · obtain ⟨record, occupancy, completion, notice⟩ := moves x d h
    refine ⟨?_, ?_, ?_, ends.latched _ _ notice⟩
    · exact (congrArg (fun t : VisitTable => t.records.get slot) vt).trans record
    · exact (congrArg VisitTable.occupancy vt).trans occupancy
    · exact (congrArg VisitTable.completion vt).trans completion
  · exact (congrArg (fun t : VisitTable => t.records.get k) vt).trans (visits k hk)
  · refine ends.lane.trans ?_
    rw [releasingLane, plane, pframes]
    rfl
  · rw [State.barrier_setBarrier_self]
    exact ⟨state, ordered, inactive, gate, image⟩
  · refine wothers.trans (.trans ?_ (ends.others.trans (OtherLanesKept.setBarrier _ _)))
    rw [rest]
    exact OtherLanesKept.of_blocks rfl rfl rfl rfl

end

end Sys2Proof.Machine
end

section
/-! O53: the passage of a held visit is credited to it (R88, R173). -/

namespace Sys2Proof.Machine

section

variable {s t w : State} {n : Fin 4} {r : LaneReport} {frame ticket slot : Nat} {v : Visit} {b : Barrier}

theorem passedVisit_entry (hv : v.state = .admitting) (now : Stamp) : State.passedVisit v .entry now =
    some ({ v with state := .inYard, inYard := true, lane := none, stopMark := v.weighings.length }, 1) := by
  simp only [State.passedVisit, hv]

theorem passedVisit_internal (hv : v.state = .reweighing) (now : Stamp) : State.passedVisit v .internal now =
    some ({ v with state := .inYard, lane := none, stopMark := v.weighings.length }, 0) := by
  simp only [State.passedVisit, hv]

theorem passedVisit_exit (hv : v.state = .cleared) (now : Stamp) : State.passedVisit v .exit now =
    some ({ v with
      state := if v.voidMark then .void else .done, inYard := false, passedAt := some now
      lane := none, stopMark := v.weighings.length }, -1) := by
  simp only [State.passedVisit, hv]

/-- R173: the prior state of a held record as a credit moves it on. -/
theorem creditedPrior {prior : VisitState} (h : v.prior = some prior) (old new : VisitState) :
    (if v.prior = some old then some new else v.prior) = some (if prior = old then new else prior) := by
  simp only [h, Option.some.injEq]
  split <;> rfl

/-- R171, R173: a held record to whose later reasons UNATTENDED_PASSAGE has been added. -/
def withUnattended (v : Visit) : Visit :=
  { v with later := if v.reason = some .unattendedPassage ∨ HoldReason.unattendedPassage ∈ v.later then v.later
      else v.later ++ [.unattendedPassage] }

/-- R173: what a credited passage leaves. -/
structure Credited (s t : State) (n : Fin 4) (slot : Nat) (v : Visit) : Prop where
  rest   : t = { s with vt := t.vt, notices := t.notices }
  vt     : t.vt = { s.vt with
    records := s.vt.records.put slot (withUnattended (State.creditedVisit v (s.lane n).mode s.now).1)
    occupancy := (s.vt.occupancy + (State.creditedVisit v (s.lane n).mode s.now).2).toNat
    changes := withChange s.vt.changes slot }
  notice : t.notices.isLatched .passed n.val = true

theorem State.creditPassage_credits (found : s.byTicket ticket = some (slot, v)) (held : v.state = .held) :
    Credited s (s.creditPassage n ticket) n slot v := by
  rcases hc : State.creditedVisit v (s.lane n).mode s.now with ⟨x, d⟩
  simp only [creditPassage, found, held, if_true, hc]
  have vt : ((((s.setVisit slot x).addOccupancy d).addLater slot x .unattendedPassage).touch slot) = { s with
      vt := { s.vt with
        records := s.vt.records.put slot (withUnattended x), occupancy := (s.vt.occupancy + d).toNat
        changes := withChange s.vt.changes slot } } := by
    unfold addLater withUnattended
    split
    · rw [touch_eq]
      rfl
    · simp only [touch_eq, setVisit, addOccupancy, Table.put_put, withChange_withChange]
  simp only [vt]
  exact ⟨rfl, by rw [hc]; rfl, followLevels_isLatched _ (latched_latch _ _ _)⟩

theorem State.completeUnattended_of (held : (s.lane n).heldVisit = some ticket) : s.completeUnattended n =
    ((s.creditPassage n ticket).setTracking n .inactive ((s.creditPassage n ticket).barrier n).beyondSeen).setLane n
      { (s.creditPassage n ticket).lane n with heldVisit := none } := by
  simp only [completeUnattended, held]

/-- R75, R88, R173: what the image leaves that completes the passage of a held visit. -/
structure UnattendedEnds (s t : State) (n : Fin 4) (slot : Nat) (v : Visit) (r : LaneReport) (frame : Nat) : Prop where
  rest    : t = { s with
    vt := t.vt, lanes := t.lanes, barriers := t.barriers, notices := t.notices
    loop := { s.loop with delivery := none } }
  vt      : t.vt = { s.vt with
    records := s.vt.records.put slot (withUnattended (State.creditedVisit v (s.lane n).mode s.now).1)
    occupancy := (s.vt.occupancy + (State.creditedVisit v (s.lane n).mode s.now).2).toNat
    changes := withChange s.vt.changes slot }
  notice  : t.notices.isLatched .passed n.val = true
  lane    : t.lane n = { s.lane n with heldVisit := none }
  barrier : (t.barrier n).state = .up ∧ (t.barrier n).order = (s.barrier n).order ∧
    (t.barrier n).tracking = .inactive ∧ (t.barrier n).beyondSeen = true ∧ (t.barrier n).image = some ⟨r, frame⟩
  others  : OtherLanesKept s t n

theorem exec_laneStatus_credits (up : s.rstLow = false)
    (waits : s.loop.delivery = some ⟨.laneStatusMessage n r, frame⟩) (idle : (s.engine n).run = none)
    (raised : (s.barrier n).state = .up) (past : FindsPast r) (releasing : (s.lane n).state = .releasing)
    (watched : (s.lane n).heldVisit = some ticket) (found : s.byTicket ticket = some (slot, v))
    (held : v.state = .held) (tracking : (s.barrier n).tracking = .heldVisit)
    (seen : (s.barrier n).beyondSeen = true) :
    ∃ t, exec (.laneStatusMessage n r) s = .next t ∧ UnattendedEnds s t n slot v r frame := by
  obtain ⟨b, sees, step⟩ := exec_laneStatus_past up waits idle raised past
  obtain ⟨track, passed⟩ := sees.passed past seen
  have tracks : b.tracking = .heldVisit := by
    rw [sees.rest]
    exact tracking
  rw [State.trackPassage_held track tracks passed,
    State.completeUnattended_of (s := s.undelivered.setBarrier n b) watched] at step
  have credited := State.creditPassage_credits (s := s.undelivered.setBarrier n b) (n := n) found held
  generalize (s.undelivered.setBarrier n b).creditPassage n ticket = p at step credited
  obtain ⟨rest, vt, notice⟩ := credited
  have plane : p.lane n = s.lane n := by
    rw [rest]
    rfl
  have pbarrier : p.barrier n = b := by
    rw [rest]
    exact State.barrier_setBarrier_self _ _ _
  rw [plane, pbarrier] at step
  generalize he : (p.setTracking n .inactive b.beyondSeen).setLane n { s.lane n with heldVisit := none } = e at step
  have elane : e.lane n = { s.lane n with heldVisit := none } := by
    rw [← he, State.lane_setLane_self]
  have ebarrier : e.barrier n = { b with tracking := .inactive, abandon := none } := by
    rw [← he]
    show (p.setTracking n .inactive b.beyondSeen).barrier n = _
    rw [State.setTracking_barrier, pbarrier]
  have erest : e = { s with
      vt := p.vt, lanes := e.lanes, barriers := e.barriers, notices := p.notices
      loop := { s.loop with delivery := none } } := by
    rw [← he, State.setLane, State.setTracking, rest]
    rfl
  have eothers : OtherLanesKept s e n := by
    rw [← he]
    refine .trans (OtherLanesKept.setBarrier s.undelivered b) (.trans ?_ <|
      (OtherLanesKept.setTracking p _ _).trans (OtherLanesKept.setLane _ _))
    rw [rest]
    exact OtherLanesKept.of_blocks rfl rfl rfl rfl
  obtain ⟨x, abandoned⟩ := e.watchAbandoned_eq n
  rw [abandoned, State.tryOnIdle_of_busy (by
    show (e.lane n).state ≠ .idle
    rw [elane, releasing]
    simp)] at step
  refine ⟨_, step, ⟨?_, ?_, ?_, elane, ?_, eothers.trans (OtherLanesKept.setBarrier _ _)⟩⟩
  · rw [State.setBarrier, erest]
  · exact (congrArg State.vt erest).trans vt
  · exact (congrArg (fun t : State => t.notices.isLatched .passed n.val) erest).trans notice
  · rw [State.barrier_setBarrier_self, ebarrier, sees.rest]
    exact ⟨raised, rfl, rfl, seen, rfl⟩

end

/-- Settles O53. -/
theorem laneStatusCompletesThePassage : Obligations.LaneStatusCompletesThePassage := by
  unfold Obligations.LaneStatusCompletesThePassage
  intro s n r frame ticket slot v up waits tables found idle raised hup hdown hgate hbeyond hdeck hcode
  have past : FindsPast r := ⟨hup, hdown, hgate, hbeyond, hdeck, hcode⟩
  have visit := (State.byTicket_visit tables.records found).1
  refine ⟨fun passing bound hlane order tracking seen => ?_, fun prior releasing watched tracking seen held hprior =>
      ?_⟩
  · obtain ⟨t, step, ends⟩ := exec_laneStatus_passes up waits idle raised past bound found order tracking seen
    obtain ⟨vehicles, permits, clock, loader, units⟩ := ends.rest
    obtain ⟨state, ordered, inactive, gate, image⟩ := ends.barrier
    refine ⟨t, step, fun mode hv => ?_, fun mode hv => ?_, fun mode hv absent => ?_, ends.visits, vehicles, permits,
      by rw [ends.lane]; rfl, by rw [ends.lane]; rfl, by rw [ends.lane]; rfl, by rw [ends.lane]; rfl,
      by rw [ends.lane]; rfl, state, ordered, inactive, gate, image, ends.others, clock, loader, units⟩
    · obtain ⟨record, occupancy, completion, notice⟩ := ends.moves _ _ (by rw [mode]; exact passedVisit_entry hv _)
      exact ⟨record, by omega, completion, notice⟩
    · obtain ⟨record, occupancy, completion, notice⟩ := ends.moves _ _ (by rw [mode]; exact passedVisit_internal hv _)
      exact ⟨record, by omega, completion, notice⟩
    · obtain ⟨record, occupancy, completion, notice⟩ := ends.moves _ _ (by rw [mode]; exact passedVisit_exit hv _)
      refine ⟨record, by omega, ?_, notice⟩
      rw [completion, if_pos (by cases v.voidMark <;> simp [Visit.finished]), withChange, if_neg absent]
  · intro kept
    obtain ⟨t, step, ends⟩ := exec_laneStatus_credits up waits idle raised past releasing watched found held tracking seen
    have written := Table.get_put_self s.vt.records slot
      (withUnattended (State.creditedVisit v (s.lane n).mode s.now).1)
    have record : t.visit slot = some (withUnattended (State.creditedVisit v (s.lane n).mode s.now).1) := by
      rw [State.visit, ends.vt]
      exact written
    have occupancy : t.vt.occupancy = (s.vt.occupancy + (State.creditedVisit v (s.lane n).mode s.now).2).toNat := by
      rw [ends.vt]
    obtain ⟨state, order, inactive, beyond, image⟩ := ends.barrier
    refine ⟨t, step, ?_, fun mode => ?_, fun mode => ?_, fun mode => ?_, fun k hk => ?_, ends.notice, ends.lane, state,
      order, inactive, beyond, image, ends.others⟩
    · have vt : t.vt = { s.vt with
          records := t.vt.records, occupancy := t.vt.occupancy, changes := withChange s.vt.changes slot } := by
        rw [ends.vt]
      rw [← vt]
      exact ends.rest
    · rw [record, occupancy, mode]
      simp only [State.creditedVisit, creditedPrior hprior]
      exact ⟨by omega, rfl⟩
    · rw [record, occupancy, mode]
      simp only [State.creditedVisit, creditedPrior hprior]
      exact ⟨by omega, rfl⟩
    · rw [record, occupancy, mode]
      exact ⟨by simp only [State.creditedVisit]; omega, rfl⟩
    · rw [State.visit, ends.vt]
      exact Table.get_put_of_ne _ _ hk

end Sys2Proof.Machine
end

section
/-! O52: the Yard Clock, and the bookings that lapse at a day change (R17, R44, R188, R189). -/

namespace Sys2Proof.Machine

section

variable {s t : State} {gone : List (Nat × Visit)}

/-! ### Records removed one after the other (R17, R25, R34) -/

/-- Every record of a list removed. -/
def State.removeAll (s : State) (gone : List (Nat × Visit)) : State := gone.foldl (fun s e => s.removeVisit e.1 e.2) s

theorem State.removeAll_cons (s : State) (e : Nat × Visit) (gone : List (Nat × Visit)) :
    s.removeAll (e :: gone) = (s.removeVisit e.1 e.2).removeAll gone := rfl

theorem State.addLive_rest (s : State) (v : Visit) (d : Int) : s.addLive v d = { s with
    vehicles := (s.addLive v d).vehicles, permits := (s.addLive v d).permits } := by
  have vehicle (k : Nat) : s.addVehicleLive k d = { s with vehicles := (s.addVehicleLive k d).vehicles } := by
    unfold addVehicleLive
    split <;> rfl
  have permit (u : State) (k : Nat) : u.addPermitLive k d = { u with permits := (u.addPermitLive k d).permits } := by
    unfold addPermitLive
    split <;> rfl
  unfold addLive
  split
  · rw [vehicle]
  · rw [permit, vehicle]

theorem State.removeVisit_rest (s : State) (slot : Nat) (v : Visit) : s.removeVisit slot v = { s with
    vt := { s.vt with
      records := s.vt.records.drop slot
      changes := s.vt.changes.filter (· ≠ slot), completion := s.vt.completion.filter (· ≠ slot) }
    vehicles := (s.removeVisit slot v).vehicles, permits := (s.removeVisit slot v).permits } := by
  unfold removeVisit
  exact addLive_rest _ _ _

theorem filter_keys (l ks : List Nat) (a : Nat) :
    (l.filter (fun k => decide (k ≠ a))).filter (fun k => decide (k ∉ ks)) =
      l.filter (fun k => decide (k ∉ a :: ks)) := by
  rw [List.filter_filter]
  refine List.filter_congr fun k _ => ?_
  by_cases h : k = a <;> simp [h]

/-- A count lowered once more for an entry that a test marks. -/
theorem sub_countP_cons {α : Type} (q : α → Bool) (a : α) (l : List α) (n : Nat) :
    n - (a :: l).countP q = (if q a then ((n : Int) + -1).toNat else n) - l.countP q := by
  rw [List.countP_cons]
  split <;> omega

/-- What the removal of several records leaves. -/
structure RemovesAll (s t : State) (gone : List (Nat × Visit)) : Prop where
  rest       : t = { s with
    vt := { s.vt with
      records := t.vt.records
      changes := s.vt.changes.filter (fun k => decide (k ∉ gone.map Prod.fst))
      completion := s.vt.completion.filter (fun k => decide (k ∉ gone.map Prod.fst)) }
    vehicles := t.vehicles, permits := t.permits }
  records    : ∀ k, t.visit k = if k ∈ gone.map Prod.fst then none else s.visit k
  vehicles   : ∀ i, t.vehicles.get i = (s.vehicles.get i).map (fun veh => { veh with
    live := veh.live - gone.countP (fun e => decide (e.2.vehicle = i)) })
  permits    : ∀ k, t.permits.get k = (s.permits.get k).map (fun p => { p with
    live := p.live - gone.countP (fun e => decide (e.2.permit = some k)) })

theorem State.removeAll_removes (s : State) (gone : List (Nat × Visit)) : RemovesAll s (s.removeAll gone) gone := by
  induction gone generalizing s with
  | nil => refine ⟨?_, fun k => ?_, fun i => ?_, fun k => ?_⟩ <;> simp [removeAll]
  | cons e gone ih =>
    have first := s.removeVisit_rest e.1 e.2
    have later := ih (s.removeVisit e.1 e.2)
    rw [removeAll_cons]
    generalize (s.removeVisit e.1 e.2).removeAll gone = t at later
    obtain ⟨rest, records, vehicles, permits⟩ := later
    refine ⟨?_, fun k => ?_, fun i => ?_, fun k => ?_⟩
    · rw [rest, first]
      simp only [filter_keys, List.map_cons]
    · rw [records, State.visit, first, Table.get_drop, List.map_cons]
      by_cases h : e.1 = k
      · simp [h]
      · have away : k ≠ e.1 := Ne.symm h
        simp only [if_neg h, List.mem_cons, away, false_or]
        rfl
    · rw [vehicles, removeVisit, addLive_vehicle_get]
      simp only [sub_countP_cons, decide_eq_true_eq]
      split
      · rw [Option.map_map]
        rfl
      · rfl
    · rw [permits, removeVisit, addLive_permit_get]
      simp only [sub_countP_cons, decide_eq_true_eq]
      split
      · rw [Option.map_map]
        rfl
      · rfl

/-! ### Booking lapse and the expiry judgement -/

theorem Table.get_map {α : Type} (f : α → α) (t : Table α) (k : Nat) :
    Table.get (t.map (fun e => (e.1, f e.2))) k = (t.get k).map f := by
  induction t with
  | nil => rfl
  | cons e rest ih =>
    simp only [List.map_cons, Table.get]
    split
    · rfl
    · exact ih

/-- R17: what booking lapse leaves. -/
structure Lapses (s t : State) : Prop where
  rest       : t = { s with
    vt := { s.vt with
      records := t.vt.records
      changes := s.vt.changes.filter (fun k => decide (k ∉ s.lapsing.map Prod.fst))
      completion := s.vt.completion.filter (fun k => decide (k ∉ s.lapsing.map Prod.fst)) }
    vehicles := t.vehicles, permits := t.permits, notices := t.notices }
  records    : ∀ k, t.visit k = if k ∈ s.lapsing.map Prod.fst then none else s.visit k
  vehicles   : ∀ i, t.vehicles.get i = (s.vehicles.get i).map (fun veh => { veh with
    live := veh.live - s.lapsing.countP (fun e => decide (e.2.vehicle = i)) })
  permits    : ∀ k, t.permits.get k = (s.permits.get k).map (fun p => { p with
    live := p.live - s.lapsing.countP (fun e => decide (e.2.permit = some k)) })
  notice     : s.lapsing ≠ [] → t.notices.isLatched .bookingLapsed 0 = true

theorem State.lapseBookings_lapses (s : State) : Lapses s s.lapseBookings := by
  obtain ⟨rest, records, vehicles, permits⟩ := s.removeAll_removes s.lapsing
  have eq : s.lapseBookings = if s.lapsing.isEmpty then s.removeAll s.lapsing
      else (s.removeAll s.lapsing).latch .bookingLapsed 0 := rfl
  rw [eq]
  generalize s.removeAll s.lapsing = u at *
  cases hgone : s.lapsing.isEmpty with
  | true =>
    rw [if_pos rfl]
    refine ⟨?_, records, vehicles, permits, fun h => absurd (List.isEmpty_iff.mp hgone) h⟩
    conv_lhs => rw [rest]
    rw [rest]
  | false =>
    rw [if_neg (by simp)]
    refine ⟨?_, records, vehicles, permits, fun _ => latched_latch _ _ (0 : Fin 4)⟩
    rw [latch, rest]

/-- R17: the records that lapse, by slot. -/
theorem State.mem_lapsing_iff (tables : s.vt.records.wf) {slot : Nat} {v : Visit} (hv : s.visit slot = some v) :
    slot ∈ s.lapsing.map Prod.fst ↔ lapses v s.clock.day = true := by
  simp only [lapsing, List.mem_map, List.mem_filter]
  constructor
  · rintro ⟨⟨k, w⟩, ⟨mem, hw⟩, rfl⟩
    have := Table.get_of_mem tables mem
    rw [State.visit, this] at hv
    cases hv
    exact hw
  · exact fun h => ⟨(slot, v), ⟨Table.mem_of_get hv, h⟩, rfl⟩

theorem State.not_mem_lapsing (tables : s.vt.records.wf) {slot : Nat} (hv : s.visit slot = none) :
    slot ∉ s.lapsing.map Prod.fst := by
  simp only [lapsing, List.mem_map, List.mem_filter]
  rintro ⟨⟨k, w⟩, ⟨mem, -⟩, rfl⟩
  rw [State.visit, Table.get_of_mem tables mem] at hv
  cases hv

/-- R17, R25: the Completion List names no record that lapses. -/
theorem State.completion_lapsing (tables : s.vt.records.wf)
    (done : ∀ slot ∈ s.vt.completion, ∃ v, s.visit slot = some v ∧ v.finished = true) :
    s.vt.completion.filter (fun k => decide (k ∉ s.lapsing.map Prod.fst)) = s.vt.completion := by
  refine List.filter_eq_self.mpr fun k hk => ?_
  obtain ⟨v, hv, hf⟩ := done k hk
  have : ¬ lapses v s.clock.day = true := by
    rintro h
    simp only [lapses, Bool.and_eq_true, decide_eq_true_eq] at h
    rw [Visit.finished, h.1] at hf
    simp at hf
  simpa [mem_lapsing_iff tables hv] using this

theorem countP_lapsing (s : State) (q : Nat × Visit → Bool) : s.lapsing.countP q =
    s.vt.records.countP (fun e => State.lapses e.2 s.clock.day && q e) := by
  rw [State.lapsing, List.countP_filter]
  exact List.countP_congr fun e _ => by rw [Bool.and_comm]

end

/-- Settles O52. -/
theorem clockRunsAndDaysChange : Obligations.ClockRunsAndDaysChange := by
  unfold Obligations.ClockRunsAndDaysChange
  intro s expired
  refine ⟨fun day minute acc => ⟨fun out => ?_, fun hd hm => ?_⟩, fun up => ⟨fun unset => ?_, fun set hs => ?_,
    fun set hs hm => ?_, fun set hs hm => ?_⟩⟩
  · show execClockSet day minute s = _
    refine (request_replies _ acc).trans ?_
    rw [inRange_not, replyTo_refuse]
    rw [← Bool.not_eq_true, Bool.and_eq_true, dayOk_iff, decide_eq_true_eq]
    omega
  · show execClockSet day minute s = _
    refine (request_replies _ acc).trans ?_
    rw [inRange_of, replyTo_done]
    · rfl
    · rw [Bool.and_eq_true, dayOk_iff, decide_eq_true_eq]
      exact ⟨hd, hm⟩
  · show execYardClockSecond s = _
    simp [execYardClockSecond, whileUp_high _ up, State.clockSecond, State.dayEnds, unset]
  · show execYardClockSecond s = _
    have : s.clock.second ≠ 59 := by omega
    simp [execYardClockSecond, whileUp_high _ up, State.clockSecond, State.dayEnds, set, this, State.nextSecond, hs]
  · show execYardClockSecond s = _
    simp [execYardClockSecond, whileUp_high _ up, State.clockSecond, State.dayEnds, set, hm, State.nextSecond, hs]
  · have ends : s.dayEnds = true := by simp [State.dayEnds, set, hs, hm]
    have step : exec .dayChange s = .next s.changeDay := by
      show execDayChange s = _
      exact when_holds _ up ends
    refine ⟨?_, fun last => ?_, fun more tables done => ?_⟩
    · rw [step]
      show execYardClockSecond s = _
      simp [execYardClockSecond, whileUp_high _ up, State.clockSecond, ends]
    · rw [step, State.changeDay, if_neg (by omega)]
    · have eq : s.changeDay = ({ s with clock := ⟨s.clock.day + 1, 0, 0, true⟩ } :
        State).lapseBookings.judgeExpiry := by
        rw [State.changeDay, if_pos more]
        exact congrArg
          (fun b => ({ s with clock := ⟨s.clock.day + 1, 0, 0, b⟩ } : State).lapseBookings.judgeExpiry) set
      have lapses := ({ s with clock := ⟨s.clock.day + 1, 0, 0, true⟩ } : State).lapseBookings_lapses
      generalize hw : ({ s with clock := ⟨s.clock.day + 1, 0, 0, true⟩ } : State) = w at eq lapses
      have wvisit (k : Nat) : w.visit k = s.visit k := by rw [← hw]; rfl
      have wtables : w.vt.records.wf := by rw [← hw]; exact tables.records
      have wday : w.clock.day = s.clock.day + 1 := by rw [← hw]
      have wcompletion := State.completion_lapsing wtables (by rw [← hw]; exact done)
      obtain ⟨rest, records, vehicles, permits, notice⟩ := lapses
      have uclock : w.lapseBookings.clock = w.clock := by rw [rest]
      rw [wcompletion] at rest
      generalize w.lapseBookings = u at *
      have uchanges : u.vt.changes = w.vt.changes.filter (fun k => decide (k ∉ w.lapsing.map Prod.fst)) := by rw [rest]
      have judged : s.changeDay = { u with
          permits := u.permits.map (fun e => (e.1, e.2.judgeExpiry (s.clock.day + 1))) } := by
        rw [eq, State.judgeExpiry, uclock, wday]
      refine ⟨s.changeDay, ?_⟩
      intro lapsed
      have same (v : Visit) : State.lapses v w.clock.day = lapsed v := by
        cases h : v.bookingDay <;> simp [State.lapses, lapsed, h, wday]
      have count (q : Nat × Visit → Bool) : w.lapsing.countP q = s.vt.records.countP (fun e => lapsed e.2 && q e) := by
        rw [countP_lapsing]
        simp only [same]
        rw [← hw]
      refine ⟨step, ?_, fun slot v hv hl => ?_, fun slot v hv hl => ?_, fun slot hv => ?_, fun index veh hveh => ?_,
        fun number p hp => ?_⟩
      · rw [judged, rest, ← hw]
      · have gone := (State.mem_lapsing_iff wtables ((wvisit slot).trans hv)).mpr ((same v).trans hl)
        rw [judged]
        refine ⟨?_, ?_, notice fun h => by simp [h] at gone⟩
        · exact (records slot).trans (if_pos gone)
        · show slot ∉ u.vt.changes
          rw [uchanges, List.mem_filter]
          simp only [gone, not_true_eq_false, decide_false, Bool.false_eq_true, and_false, not_false_eq_true]
      · have stays : slot ∉ w.lapsing.map Prod.fst := by
          rw [State.mem_lapsing_iff wtables ((wvisit slot).trans hv), same, hl]
          simp
        rw [judged]
        refine ⟨(records slot).trans ((if_neg stays).trans ((wvisit slot).trans hv)), ?_⟩
        show slot ∈ u.vt.changes ↔ _
        rw [uchanges, List.mem_filter, show w.vt.changes = s.vt.changes by rw [← hw]]
        simp only [stays, not_false_eq_true, decide_true, and_true]
      · have stays := State.not_mem_lapsing wtables ((wvisit slot).trans hv)
        rw [judged]
        exact (records slot).trans ((if_neg stays).trans ((wvisit slot).trans hv))
      · rw [judged]
        show u.vehicles.get index = _
        rw [vehicles, count, ← hw]
        simp [hveh]
      · rw [judged]
        show Table.get (u.permits.map (fun e => (e.1, e.2.judgeExpiry (s.clock.day + 1)))) number = _
        rw [Table.get_map (fun p : Permit => p.judgeExpiry (s.clock.day + 1)), permits, count, ← hw]
        simp only [hp, Option.map_some, Permit.judgeExpiry]
        split <;> rfl

end Sys2Proof.Machine
end

section
/-! The loop words of an image (R138, R153, R181), by the terms of the statements. -/

namespace Sys2Proof.Machine

/-! ### Library facts about lists -/

theorem mapM_eq_some_iff {α β : Type} {f : α → Option β} {l : List α} {r : List β} :
    l.mapM f = some r ↔ r.length = l.length ∧ ∀ (k : Nat) (a : α) (b : β),
        l[k]? = some a → r[k]? = some b → f a = some b := by
  induction l generalizing r with
  | nil =>
    rw [List.mapM_nil]
    constructor
    · rintro ⟨⟩
      simp
    · rintro ⟨hl, -⟩
      rw [List.length_eq_zero_iff.mp hl]
      rfl
  | cons a l ih =>
    cases r with
    | nil => simp [Option.bind_eq_some_iff]
    | cons b r =>
      have step : (a :: l).mapM f = some (b :: r) ↔ f a = some b ∧ l.mapM f = some r := by
        rw [List.mapM_cons]
        cases f a <;> cases l.mapM f <;> simp
      rw [step, ih]
      constructor
      · rintro ⟨here, hl, later⟩
        refine ⟨by simp [hl], fun k x y hx hy => ?_⟩
        cases k with
        | zero =>
          cases hx
          cases hy
          exact here
        | succ k => exact later k x y hx hy
      · rintro ⟨hl, all⟩
        exact ⟨all 0 a b rfl rfl, by simpa using hl, fun k x y hx hy => all (k + 1) x y hx hy⟩

theorem distinct_iff (l : List Nat) : distinct l = true ↔ l.Nodup := by
  have pairs : distinct l = true ↔ ∀ i, ∀ h : i < l.length, ∀ j, ∀ hj : j < i, l[j] ≠ l[i] := by
    simp only [distinct, List.all_eq_true, decide_eq_true_eq]
    constructor
    · intro all i h j hj
      refine all (l[i], i) ?_ _ ?_
      · exact List.mk_mem_zipIdx_iff_getElem?.mpr (List.getElem?_eq_getElem h)
      · rw [List.mem_take_iff_getElem]
        exact ⟨j, by omega, rfl⟩
    · rintro all ⟨a, i⟩ mem b hb
      have here := List.mk_mem_zipIdx_iff_getElem?.mp mem
      obtain ⟨h, rfl⟩ := List.getElem?_eq_some_iff.mp here
      obtain ⟨j, hj, rfl⟩ := List.mem_take_iff_getElem.mp hb
      exact all i h j (by omega)
  rw [pairs, List.nodup_iff_injective_getElem]
  constructor
  · rintro all ⟨i, hi⟩ ⟨j, hj⟩ heq
    rcases Nat.lt_trichotomy i j with h | h | h
    · exact absurd heq (all j hj i h)
    · exact Fin.ext h
    · exact absurd heq.symm (all i hi j h)
  · intro inj i h j hj heq
    have := congrArg Fin.val (@inj ⟨j, by omega⟩ ⟨i, h⟩ heq)
    simp only at this
    omega

/-! ### The conditions on a table (R138) -/

theorem served_laneUnit (n : Fin 4) : served (laneUnit n) = .lane n := by
  revert n
  decide

theorem served_digitizer (n : Fin 4) : served (digitizer n) = .deck n := by
  revert n
  decide

theorem unit_cases (u : Fin 8) : ∃ n, u = laneUnit n ∨ u = digitizer n := by
  revert u
  decide

theorem slotsOk_iff (len : Nat) (slots : List SlotEntry) : slotsOk len slots = true ↔ SlotsSuitUnits len slots := by
  unfold slotsOk SlotsSuitUnits
  have all (q : Fin 8 → Bool) : allUnits.all q = true ↔ ∀ u, q u = true := by
    rw [List.all_eq_true]
    exact ⟨fun h u => h u (by revert u; decide), fun h u _ => h u⟩
  rw [Bool.and_eq_true, decide_eq_true_eq, all]
  refine and_congr_right fun _ => ?_
  have lane (n : Fin 4) : directionsOk (laneUnit n) (ownedDirections len slots (laneUnit n)) = true ↔
      ((slots.take len).filter (fun e => decide (e.unit = some (laneUnit n))) = [] ∨
        (((slots.take len).filter (fun e => decide (e.unit = some (laneUnit n)))).countP (fun e =>
            decide (e.dir = .out))
            = 1 ∧
          1 ≤ ((slots.take len).filter (fun e => decide (e.unit = some (laneUnit n)))).countP
            (fun e => decide (e.dir = .inward)))) := by
    have count (d : Direction) (l : List SlotEntry) :
        (l.map (·.dir)).count d = l.countP (fun e => decide (e.dir = d)) := by
      rw [List.count, List.countP_map]
      exact List.countP_congr fun e _ => by simp
    rw [directionsOk, served_laneUnit, ownedDirections]
    simp only [count, Bool.or_eq_true, Bool.and_eq_true, List.isEmpty_iff, List.map_eq_nil_iff, beq_iff_eq,
      decide_eq_true_eq]
  have deck (n : Fin 4) : directionsOk (digitizer n) (ownedDirections len slots (digitizer n)) = true ↔
      ∀ e ∈ (slots.take len).filter (fun e => decide (e.unit = some (digitizer n))), e.dir = .inward := by
    rw [directionsOk, served_digitizer, ownedDirections]
    simp only [List.all_map, List.all_eq_true, Function.comp, decide_eq_true_eq]
  constructor
  · exact fun h => ⟨fun n => (deck n).mp (h _), fun n => (lane n).mp (h _)⟩
  · rintro ⟨decks, lanes⟩ u
    obtain ⟨n, rfl | rfl⟩ := unit_cases u
    · exact (lane n).mpr (lanes n)
    · exact (deck n).mpr (decks n)

theorem addressesOk_iff (addresses : Vector Nat 8) : addressesOk addresses.toList = true ↔
    (∀ u : Fin 8, 1 ≤ addresses.get u ∧ addresses.get u ≤ 30) ∧
      ∀ u v : Fin 8, u ≠ v → addresses.get u ≠ addresses.get v := by
  have spelled : addresses.toList = List.ofFn (fun u => addresses.get u) := by
    apply List.ext_getElem
    · simp
    · intro k h1 h2
      rw [List.getElem_ofFn, Vector.getElem_toList]
      rfl
  rw [addressesOk, Bool.and_eq_true, distinct_iff, spelled, List.nodup_ofFn]
  refine and_congr ?_ ⟨fun inj u v huv h => huv (inj h), fun differ u v h => by
    by_contra huv
    exact differ u v huv h⟩
  simp only [List.all_eq_true, List.forall_mem_ofFn_iff, Bool.and_eq_true, decide_eq_true_eq]

/-! ### The words of an image -/

theorem slotEntry_iff (w : Nat) (e : SlotEntry) : slotEntry? w = some e ↔
    ((w % 16 = 15 ∧ e.unit = none) ∨ ∃ u : Fin 8, w % 16 = u.val ∧ e.unit = some u) ∧
      e.dir = if w / 16 % 2 = 0 then .out else .inward := by
  obtain ⟨unit, dir⟩ := e
  unfold slotEntry? unit?
  by_cases h15 : w % 16 = 15
  · have away (u : Fin 8) : w % 16 ≠ u.val := by omega
    simp only [h15, if_true, Option.some.injEq, SlotEntry.mk.injEq, true_and]
    constructor
    · rintro ⟨rfl, rfl⟩
      exact ⟨.inl rfl, rfl⟩
    · rintro ⟨rfl | ⟨u, hu, -⟩, rfl⟩
      · exact ⟨rfl, rfl⟩
      · exact absurd (h15.trans hu) (h15 ▸ away u)
  · simp only [h15, if_false, false_and, false_or]
    by_cases h8 : w % 16 < 8
    · simp only [h8, dif_pos, Option.map_some, Option.some.injEq, SlotEntry.mk.injEq]
      constructor
      · rintro ⟨rfl, rfl⟩
        exact ⟨⟨_, rfl, rfl⟩, rfl⟩
      · rintro ⟨⟨u, hu, rfl⟩, rfl⟩
        exact ⟨congrArg some (Fin.ext hu), rfl⟩
    · have away (u : Fin 8) : w % 16 ≠ u.val := by omega
      simp [h8, away]

theorem imageSlots_iff (image : List Word) (slots : List SlotEntry) : imageSlots image = some slots ↔
    slots.length = 22 ∧ ∀ k e, slots[k]? = some e → slotEntry? (wordAt image (60 + k)) = some e := by
  rw [imageSlots, mapM_eq_some_iff, List.length_range]
  refine and_congr_right fun len => ⟨fun h k e he => ?_, fun h k a b ha hb => ?_⟩
  · have lt : k < 22 := by
      obtain ⟨hk, -⟩ := List.getElem?_eq_some_iff.mp he
      omega
    exact h k k e (by simp [lt]) he
  · obtain ⟨hk, rfl⟩ := List.getElem?_eq_some_iff.mp ha
    rw [List.getElem_range]
    exact h k b hb

theorem holdsLoopWords_iff (image : List Word) (slots : List SlotEntry) (addresses : Vector Nat 8) :
    HoldsLoopWords image slots addresses ↔ imageSlots image = some slots ∧
      slotsOk (imageWord image 59) slots = true ∧ addresses = imageAddresses image ∧
      addressesOk (imageAddresses image).toList = true := by
  have spelled (u : Fin 8) : (imageAddresses image).get u = wordAt image (82 + u.val) := by
    simp [imageAddresses, Vector.get_eq_getElem, imageWord, wordAt]
  rw [imageSlots_iff, slotsOk_iff, addressesOk_iff]
  simp only [slotEntry_iff]
  constructor
  · rintro ⟨count, units, dirs, suit, given, differ⟩
    have same : addresses = imageAddresses image := by
      apply Vector.ext
      intro k hk
      have := (given ⟨k, hk⟩).1
      rw [← spelled] at this
      simpa [Vector.get_eq_getElem] using this
    subst same
    exact ⟨⟨count, fun k e he => ⟨units k e he, dirs k e he⟩⟩, suit, rfl, fun u => (given u).2, differ⟩
  · rintro ⟨⟨count, entries⟩, suit, rfl, range, differ⟩
    exact ⟨count, fun k e he => (entries k e he).1, fun k e he => (entries k e he).2, suit,
      fun u => ⟨spelled u, range u⟩, differ⟩

/-- R153: the loop words that the part takes. -/
theorem Loop.reloadFrom_takes (l : Loop) (status : LoadStatus) (image : List Word) :
    TakesLoopWords status image (l.reloadFrom status image) := by
  constructor
  · rintro slots addresses loaded holds
    obtain ⟨hs, suit, rfl, ok⟩ := (holdsLoopWords_iff _ _ _).mp holds
    simp only [reloadFrom, takeWords, hs, loaded, suit, ok, and_self, if_true]
    exact ⟨rfl, trivial, trivial, by simp [imageWord, wordAt]⟩
  · intro bad
    have dflt : l.takeWords status image = { l with
        frameLength := 0, slots := List.replicate 22 SlotEntry.unused, addresses := #v[1, 2, 3, 4, 5, 6, 7, 8]
        autoStart := false } := by
      unfold takeWords
      simp only
      split
      · rfl
      · rename_i slots hs
        rw [if_neg]
        rintro ⟨loaded, suit, ok⟩
        exact bad.elim (fun h => h loaded) fun h =>
          h slots _ ((holdsLoopWords_iff _ _ _).mpr ⟨hs, suit, rfl, ok⟩)
    rw [reloadFrom, dflt]
    exact ⟨rfl, rfl, rfl, rfl⟩

theorem Loop.reloadFrom_rest (l : Loop) (status : LoadStatus) (image : List Word) : l.reloadFrom status image = { l with
    frameLength := (l.reloadFrom status image).frameLength, slots := (l.reloadFrom status image).slots
    addresses := (l.reloadFrom status image).addresses, autoStart := (l.reloadFrom status image).autoStart
    period := (l.reloadFrom status image).frameLength + 1, position := none, begun := none, shown := 0
    pauseShown := false, working := [], tableChanged := false } := by
  unfold reloadFrom takeWords
  simp only
  split
  · rfl
  · split <;> rfl

end Sys2Proof.Machine
end

section
/-! The loop that starts by itself (R90, R146, R153), and the levels the Notice Unit follows (R196). -/

namespace Sys2Proof.Machine

variable {s t : State}

/-- R196: blocks whose marks of the frame alone have been cleared drive the levels they drove. -/
theorem FrameMarksCleared.drivenLevels (h : FrameMarksCleared s t) (lanes : t.lanes = s.lanes) (vt : t.vt = s.vt)
    (loader : t.loader = s.loader) : t.drivenLevels = s.drivenLevels := by
  have full : t.occupancyFull = s.occupancyFull := by
    simp only [State.occupancyFull, State.numAdmitting, vt, loader]
    rfl
  simp only [State.drivenLevels, State.lane, lanes, h.decks, h.units, full]
  rfl

/-- R90, R146, R153: what the loop's own start leaves, where auto-start is set. -/
structure AutoStarts (s t : State) : Prop where
  rest    : t = { s with loop := t.loop, barriers := t.barriers, units := t.units, decks := t.decks }
  loop    : t.loop = if s.loop.autoStart then startedLoop s.loop else s.loop
  barrier : ∀ n, t.barrier n = if s.loop.autoStart then travelStarted (s.barrier n) (t.frames .travel) else s.barrier n
  marks   : (s.loop.autoStart = true ∧ FrameMarksCleared s t) ∨ (t.units = s.units ∧ t.decks = s.decks)
  levels  : t.drivenLevels = s.drivenLevels

theorem State.autoStartLoop_starts (s : State) : AutoStarts s s.autoStartLoop := by
  unfold autoStartLoop
  cases h : s.loop.autoStart with
  | true =>
    rw [if_pos rfl]
    refine ⟨s.startLoop_eq, ?_, fun n => ?_, .inl ⟨h, s.startLoop_clears⟩,
      s.startLoop_clears.drivenLevels rfl rfl rfl⟩
    · rw [h, if_pos rfl]
      rfl
    · rw [h, if_pos rfl, startLoop_barrier]
      rfl
  | false =>
    rw [if_neg (by simp)]
    exact ⟨rfl, by rw [h]; rfl, fun n => by rw [h]; rfl, .inr ⟨rfl, rfl⟩, rfl⟩

/-- R159, R166: a unit whose marks of the frame are clear already is as it was when the loop starts. -/
theorem AutoStarts.unit_of_clear (h : AutoStarts s t) {u : Fin 8} (seen : (s.unit u).alarmSeen = false)
    (act : (s.unit u).activate = Detector.cleared) (deact : (s.unit u).deactivate = Detector.cleared) :
    t.unit u = s.unit u := by
  rcases h.marks with ⟨-, marks⟩ | ⟨units, -⟩
  · rw [marks.units u]
    generalize s.unit u = r at seen act deact
    cases r
    simp only at seen act deact
    subst seen act deact
    rfl
  · exact congrArg (fun x => x.get u) units

theorem AutoStarts.deck_of_clear (h : AutoStarts s t) {n : Fin 4} (clear : (s.deck n).sampled = false) :
    t.deck n = s.deck n := by
  rcases h.marks with ⟨-, marks⟩ | ⟨-, decks⟩
  · rw [marks.decks n, ← clear]
  · exact congrArg (fun x => x.get n) decks

end Sys2Proof.Machine
end

section
/-! O31: what a load gives each block (R73, R90 to R93, R133, R168, R180, R181, R199). -/

namespace Sys2Proof.Machine

/-! ### The deck words (R91, R92, R93, R110) -/

theorem imageParams_ok_iff (image : List Word) (n : Fin 4) : (imageParams image n).ok = true ↔
    doubleAt image (2 + 9 * n.val + 1) ≤ 16777215 ∧
    1 ≤ doubleAt image (2 + 9 * n.val + 3) ∧ doubleAt image (2 + 9 * n.val + 3) ≤ 1048576 ∧
    500 ≤ doubleAt image (2 + 9 * n.val + 5) ∧ doubleAt image (2 + 9 * n.val + 5) ≤ 100000 ∧
    (wordAt image (2 + 9 * n.val + 7) = 5 ∨ wordAt image (2 + 9 * n.val + 7) = 10 ∨
      wordAt image (2 + 9 * n.val + 7) = 20 ∨ wordAt image (2 + 9 * n.val + 7) = 50) ∧
    20 ≤ wordAt image (2 + 9 * n.val + 8) ∧ wordAt image (2 + 9 * n.val + 8) ≤ 2000 := by
  have spelled : imageParams image n = ⟨doubleAt image (2 + 9 * n.val + 1), doubleAt image (2 + 9 * n.val + 3),
      doubleAt image (2 + 9 * n.val + 5), wordAt image (2 + 9 * n.val + 7), wordAt image (2 + 9 * n.val + 8)⟩ := rfl
  rw [spelled]
  simp only [DeckParams.ok, Bool.and_eq_true, decide_eq_true_eq, List.mem_cons, List.not_mem_nil, or_false, and_assoc]

theorem deckFromImage_of_none {status : LoadStatus} {image : List Word} {n : Fin 4}
    (h : loadedDeck status image n = (.none, none)) : deckFromImage status image n = Deck.reset := by
  rw [deckFromImage, h]
  rfl

theorem deckFromImage_takes (status : LoadStatus) (image : List Word) (n : Fin 4) :
    TakesDeckWords status image n (deckFromImage status image n) := by
  constructor
  · rintro rfl ⟨method, range⟩
    have ok := (imageParams_ok_iff image n).mpr range
    rcases method with method | method
    · have loaded : loadedDeck .loaded image n = (.whole, some (imageParams image n)) := by
        have : imageWord image (deckBase n) = 1 := method
        simp only [loadedDeck, this, DeckMethod.ofCode?, ok, if_true]
      rw [deckFromImage, loaded, if_pos method]
      rfl
    · have loaded : loadedDeck .loaded image n = (.axle, some (imageParams image n)) := by
        have : imageWord image (deckBase n) = 2 := method
        simp only [loadedDeck, this, DeckMethod.ofCode?, ok, if_true]
      rw [deckFromImage, loaded, if_neg (by omega)]
      rfl
  · intro bad
    refine deckFromImage_of_none ?_
    unfold loadedDeck
    have fails (loaded : status = .loaded) (method : wordAt image (2 + 9 * n.val) = 1 ∨ wordAt image (2 + 9 * n.val) = 2) :
        ¬ (imageParams image n).ok = true := fun ok =>
      bad.elim (fun h => h loaded) fun h => h ⟨method, (imageParams_ok_iff image n).mp ok⟩
    have code (k : Nat) (m : DeckMethod) (hm : DeckMethod.ofCode? k = some m) (whole : m = .whole ∨ m = .axle) :
        k = 1 ∨ k = 2 := by
      unfold DeckMethod.ofCode? at hm
      split at hm
      · cases hm
        simp at whole
      · exact .inl rfl
      · exact .inr rfl
      · cases hm
        simp at whole
    split
    · rename_i whole
      rw [if_neg (fails rfl (code _ _ whole (.inl rfl)))]
    · rename_i axle
      rw [if_neg (fails rfl (code _ _ axle (.inr rfl)))]
    · rfl

/-! ### The lane words (R73, R168) -/

/-- R73, R181: a mode of a lane word. -/
theorem laneMode_ofCode_iff (k : Nat) : (∃ m, LaneMode.ofCode? k = some m) ↔ k ≤ 3 := by
  unfold LaneMode.ofCode?
  split <;> simp_all
  omega

theorem laneMode_listed {k : Nat} {m : LaneMode} (h : LaneMode.ofCode? k = some m) :
    [LaneMode.closed, .entry, .exit, .internal][k]? = some m := by
  unfold LaneMode.ofCode? at h
  split at h <;> simp_all

theorem fromImage_takes (l : Lane) (status : LoadStatus) (image : List Word) (n : Fin 4) (down : Bool) (r : UnitRec)
    (auto : r.autoSwitch = imageAutoSwitch status image (laneUnit n)) :
    TakesLaneWords status image n (l.fromImage status image n down) r := by
  have base : imageWord image (laneBase n) = wordAt image (51 + 2 * n.val) := rfl
  have flags : laneBase n + 1 = 52 + 2 * n.val := by
    unfold laneBase
    omega
  unfold TakesLaneWords
  rw [auto, imageAutoSwitch, served_laneUnit]
  simp only [Lane.fromImage, imageMode, imageFlag, base, flags]
  constructor
  · rintro rfl low
    obtain ⟨m, hm⟩ := (laneMode_ofCode_iff _).mpr low
    simp only [if_true, hm, Option.getD_some, Option.isSome_some, decide_true, Bool.true_and, Bool.and_self, and_true]
    exact laneMode_listed hm
  · intro bad
    by_cases loaded : status = .loaded
    · have none : LaneMode.ofCode? (wordAt image (51 + 2 * n.val)) = none := by
        by_contra some
        have := (laneMode_ofCode_iff _).mp (Option.ne_none_iff_exists'.mp some)
        rcases bad with h | h
        · exact h loaded
        · omega
      simp [none]
    · simp [loaded]

/-- R71, R73: the lane record at the end of LOADING, by the terms of the statements. -/
theorem fromImage_eq (l : Lane) (status : LoadStatus) (image : List Word) (n : Fin 4) (down : Bool) :
    let m := l.fromImage status image n down
    let st : LaneState := if m.mode = .closed then .closed else if down then .fault else .idle
    m = { Lane.reset with
      mode := m.mode, autoTake := m.autoTake, walkIn := m.walkIn, walkTare := m.walkTare, autoCapture := m.autoCapture
      state := st
      display := ⟨if st = .idle then .welcome else if st = .fault then .seeOffice else .closed, 0⟩
      cycle := l.cycle, lastRefusal := l.lastRefusal, testResult := l.testResult } := by
  simp only [Lane.fromImage, loadedState]
  by_cases closed : imageMode status image n = .closed
  · simp [closed, restDisplay]
  · cases down <;> simp [closed, restDisplay]

end Sys2Proof.Machine
end

section
/-! O31: LOAD_END and RELOAD (R180, R185). -/

namespace Sys2Proof.Machine

variable {s t : State} {read : Option (List Word)}

/-! ### The state the loop's own start is judged in -/

/-- R179, R180: the blocks as a load has set them, before the loop starts by itself. -/
def State.loadedAll (s : State) (read : Option (List Word)) : State :=
  ((s.judgeLoad read).loadTicket.loadBlocks.recallLevels).followLevels

theorem State.endLoad_eq (s : State) (read : Option (List Word)) :
    s.endLoad read = (s.loadedAll read).autoStartLoop := rfl

theorem State.loadTicket_eq (s : State) : s.loadTicket = { s with vt := { s.vt with
    nextTicket := if s.loader.afterReset = false then s.vt.nextTicket
      else if s.loader.status = .loaded then initialTicket s.loader.image else 1 } } := by
  unfold loadTicket
  cases s.loader.afterReset <;> rfl

/-- R180: what the loader and the blocks hold, field by field. -/
theorem State.loadedAll_eq (s : State) (read : Option (List Word)) :
    let loader := { s.loader with
      status := loadOutcome read, image := loadedImage read, lockBoundary := loadedBoundary read }
    let loop := s.loop.reloadFrom (loadOutcome read) (loadedImage read)
    s.loadedAll read = { s with
      vt := { s.vt with nextTicket := if s.loader.afterReset = false then s.vt.nextTicket
        else if loadOutcome read = .loaded then initialTicket (loadedImage read) else 1 }
      loader := loader, loop := loop
      lanes := Vector.ofFn (fun n => (s.lane n).fromImage (loadOutcome read) (loadedImage read) n
        (decide ((s.barrier n).state = .fault)))
      barriers := mapEach Barrier.afterLoad s.barriers
      decks := Vector.ofFn (fun n => deckFromImage (loadOutcome read) (loadedImage read) n)
      engines := mapEach Engine.afterLoad s.engines
      units := Vector.ofFn (fun u => (s.unit u).afterLoad (loop.ownsSlot u)
        (imageAutoSwitch (loadOutcome read) (loadedImage read) u) s.loader.afterReset)
      notices := (s.loadedAll read).notices } := by
  simp only [loadedAll, loadTicket_eq]
  rfl

/-! ### The notices of a load (R181, R196, R199) -/

theorem Notices.takeLevels_latched_low (x : Notices) (new : Vector Word 7) {k : Fin 20} (h : k.val < 13) :
    (x.takeLevels new).latched.get k = x.latched.get k := by
  simp [takeLevels, Vector.get_eq_getElem, Nat.not_le.mpr h]

theorem Notices.takeLevels_latched_level (x : Notices) (new : Vector Word 7) (j : Fin 7) :
    (x.takeLevels new).latched.get ⟨13 + j.val, by omega⟩ =
      x.latched.get ⟨13 + j.val, by omega⟩ ||| edgeLatches (x.levels.get j) (new.get j) (x.edges.get j) := by
  simp [takeLevels, Vector.get_eq_getElem]

/-- R181, R196, R199: the notices after a load, before the loop starts by itself. -/
structure NoticesLoaded (s x : State) (image : List Word) : Prop where
  words  : TakesNoticeWords image x.notices
  levels : LevelsFollow x
  before : x.notices.beforeLoad = none
  low    : ∀ k : Fin 20, k.val < 13 → x.notices.latched.get k = s.notices.latched.get k
  edges  : ∀ j : Fin 7, x.notices.latched.get ⟨13 + j.val, by omega⟩ =
    s.notices.latched.get ⟨13 + j.val, by omega⟩ |||
      edgeLatches ((s.notices.beforeLoad.getD s.notices.levels).get j) (x.notices.levels.get j) (x.notices.edges.get j)

theorem State.loadedAll_notices (s : State) (read : Option (List Word)) :
    NoticesLoaded s (s.loadedAll read) (loadedImage read) := by
  have base : ((s.judgeLoad read).loadTicket.loadBlocks.recallLevels).notices = { s.notices with
      mask := imageMask (loadedImage read), edges := imageEdges (loadedImage read)
      levels := s.notices.beforeLoad.getD s.notices.levels, beforeLoad := none } := by
    simp only [loadTicket_eq, recallLevels, loadBlocks, judgeLoad]
  have notices : (s.loadedAll read).notices = ((s.judgeLoad read).loadTicket.loadBlocks.recallLevels).notices.takeLevels
      ((s.judgeLoad read).loadTicket.loadBlocks.recallLevels).drivenLevels := rfl
  generalize ((s.judgeLoad read).loadTicket.loadBlocks.recallLevels).drivenLevels = driven at notices
  rw [base] at notices
  have levels : LevelsFollow (s.loadedAll read) := LevelsFollow.follow _
  refine ⟨?_, levels, ?_, fun k hk => ?_, fun j => ?_⟩
  · rw [notices]
    exact ⟨fun k => by simp [Notices.takeLevels, imageMask, Vector.get_eq_getElem],
      fun k => by simp [Notices.takeLevels, imageEdges, Vector.get_eq_getElem]⟩
  · rw [notices]
    rfl
  · rw [notices]
    exact Notices.takeLevels_latched_low _ _ hk
  · rw [notices]
    exact Notices.takeLevels_latched_level _ _ j

/-! ### LOAD_END -/

theorem TakesLoopWords.congr {status : LoadStatus} {image : List Word} {l m : Loop}
    (h : TakesLoopWords status image l) (frameLength : m.frameLength = l.frameLength) (slots : m.slots = l.slots)
    (addresses : m.addresses = l.addresses) (autoStart : m.autoStart = l.autoStart) :
    TakesLoopWords status image m := by
  unfold TakesLoopWords at *
  rw [frameLength, slots, addresses, autoStart]
  exact h

theorem ownsSlot_congr {l m : Loop} (frameLength : m.frameLength = l.frameLength) (slots : m.slots = l.slots)
    (u : Fin 8) : m.ownsSlot u = l.ownsSlot u := by
  simp only [Loop.ownsSlot, Loop.ownedBy, Loop.owner, frameLength, slots]

theorem startedLoop_words (l : Loop) (started : Bool) :
    let m := if started then startedLoop l else l
    m.frameLength = l.frameLength ∧ m.slots = l.slots ∧ m.addresses = l.addresses ∧ m.autoStart = l.autoStart := by
  cases started <;> exact ⟨rfl, rfl, rfl, rfl⟩

/-- R179, R180: what the loader holds after a load. -/
theorem loadedLoader (read : Option (List Word)) (l : Loader) :
    let m := { l with
      status := loadOutcome read, image := loadedImage read, lockBoundary := loadedBoundary read }
    (∀ ws, read = some ws → ws.getD 0 0 = 0x4B59 → ws.foldl (· + ·) 0 = 0x6C3E →
      m = { l with status := .loaded, image := ws, lockBoundary := min 255 (wordAt ws 1) }) ∧
    ∀ st, (read = none ∧ st = .absent) ∨ (∃ ws, read = some ws ∧ ws.getD 0 0 ≠ 0x4B59 ∧ st = .defaults) ∨
        (∃ ws, read = some ws ∧ ws.getD 0 0 = 0x4B59 ∧ ws.foldl (· + ·) 0 ≠ 0x6C3E ∧ st = .sumBad) →
      m = { l with status := st, image := defaultImage, lockBoundary := 255 } := by
  constructor
  · rintro ws rfl signature sum
    have outcome : loadOutcome (some ws) = .loaded := by
      have sum : imageSum ws = Config.imageSum := sum
      have signature : ws.getD 0 0 = Config.signature := signature
      simp only [loadOutcome, signature, sum, ne_eq, not_true_eq_false, if_false]
    simp only [loadedImage, loadedBoundary, outcome, if_true]
    rfl
  · have failed {st : LoadStatus} (outcome : loadOutcome read = st) (bad : st ≠ .loaded) :
        ({ l with status := loadOutcome read, image := loadedImage read, lockBoundary := loadedBoundary read } :
            Loader) =
          { l with status := st, image := defaultImage, lockBoundary := 255 } := by
      have image : loadedImage read = defaultImage := by
        unfold loadedImage
        split
        · rfl
        · rw [outcome, if_neg bad]
      rw [image, outcome, loadedBoundary, outcome, if_neg bad]
    rintro st (⟨rfl, rfl⟩ | ⟨ws, rfl, signature, rfl⟩ | ⟨ws, rfl, signature, sum, rfl⟩)
    · exact failed rfl (by decide)
    · have signature : ws.getD 0 0 ≠ Config.signature := signature
      exact failed (by rw [loadOutcome, if_pos signature]) (by decide)
    · have sum : imageSum ws ≠ Config.imageSum := sum
      have signature : ¬ ws.getD 0 0 ≠ Config.signature := fun h => h signature
      exact failed (by rw [loadOutcome, if_neg signature, if_pos sum]) (by decide)

end Sys2Proof.Machine
end

section
/-! O31: what LOAD_END and RELOAD leave. -/

namespace Sys2Proof.Machine

section

variable {s t : State} {read : Option (List Word)}

/-! ### The blocks of a load, one by one -/

section Loaded

variable (s : State) (read : Option (List Word))

theorem loadedAll_loader : (s.loadedAll read).loader = { s.loader with
    status := loadOutcome read, image := loadedImage read, lockBoundary := loadedBoundary read } := by
  rw [s.loadedAll_eq read]

theorem loadedAll_loop : (s.loadedAll read).loop = s.loop.reloadFrom (loadOutcome read) (loadedImage read) := by
  rw [s.loadedAll_eq read]

theorem loadedAll_lane (n : Fin 4) : (s.loadedAll read).lane n = (s.lane n).fromImage (loadOutcome read)
    (loadedImage read) n (decide ((s.barrier n).state = .fault)) := by
  rw [s.loadedAll_eq read]
  simp [State.lane, Vector.get_eq_getElem]

theorem loadedAll_barrier (n : Fin 4) : (s.loadedAll read).barrier n = (s.barrier n).afterLoad := by
  rw [s.loadedAll_eq read]
  exact mapEach_get _ _ n

theorem loadedAll_deck (n : Fin 4) :
    (s.loadedAll read).deck n = deckFromImage (loadOutcome read) (loadedImage read) n := by
  rw [s.loadedAll_eq read]
  simp [State.deck, Vector.get_eq_getElem]

theorem loadedAll_engine (n : Fin 4) :
    (s.loadedAll read).engine n = { s.engine n with run := none, failures := 0 } := by
  rw [s.loadedAll_eq read]
  exact mapEach_get _ _ n

theorem loadedAll_unit (u : Fin 8) : (s.loadedAll read).unit u = (s.unit u).afterLoad
    ((s.loadedAll read).loop.ownsSlot u) (imageAutoSwitch (loadOutcome read) (loadedImage read) u)
    s.loader.afterReset := by
  rw [loadedAll_loop, s.loadedAll_eq read]
  simp [State.unit, Vector.get_eq_getElem]

theorem loadedAll_ticket : (s.loadedAll read).vt = { s.vt with
    nextTicket := if s.loader.afterReset = false then s.vt.nextTicket
      else if loadOutcome read = .loaded then initialTicket (loadedImage read) else 1 } := by
  rw [s.loadedAll_eq read]

end Loaded

/-- R7, R181: the ticket counter after a load. -/
theorem initialTicket_eq (status : LoadStatus) (image : List Word) :
    (if status = .loaded then initialTicket image else 1) =
      if status = .loaded ∧ 1 ≤ doubleAt image 39 ∧ doubleAt image 39 ≤ 99999999 then doubleAt image 39 else 1 := by
  have spelled : initialTicket image =
      if 1 ≤ doubleAt image 39 ∧ doubleAt image 39 ≤ 99999999 then doubleAt image 39 else 1 := rfl
  by_cases loaded : status = .loaded
  · simp [loaded, spelled]
  · simp [loaded]

/-! ### The loop's own start after a load -/

/-- R90, R110, R153, R159, R168: what the loop's own start keeps of the blocks as the load has set them. -/
structure StartsLoaded (x t : State) : Prop where
  lanes    : ∀ n, t.lane n = x.lane n
  decks    : ∀ n, t.deck n = x.deck n
  units    : ∀ u, t.unit u = x.unit u
  engines  : ∀ n, t.engine n = x.engine n
  notices  : t.notices = x.notices
  loader   : t.loader = x.loader
  vt       : t.vt = x.vt

theorem deckFromImage_sampled (status : LoadStatus) (image : List Word) (n : Fin 4) :
    (deckFromImage status image n).sampled = false := rfl

theorem startsLoaded (s : State) (read : Option (List Word)) : StartsLoaded (s.loadedAll read) (s.endLoad read) := by
  have starts := (s.loadedAll read).autoStartLoop_starts
  rw [← State.endLoad_eq] at starts
  have rest := starts.rest
  refine ⟨fun n => ?_, fun n => starts.deck_of_clear ?_, fun u => starts.unit_of_clear ?_ ?_ ?_, fun n => ?_, ?_, ?_,
      ?_⟩
  · exact congrArg (fun x => x.lane n) rest
  · rw [loadedAll_deck]
    rfl
  · rw [loadedAll_unit]
    rfl
  · rw [loadedAll_unit]
    rfl
  · rw [loadedAll_unit]
    rfl
  · exact congrArg (fun x => x.engine n) rest
  · rw [rest]
  · rw [rest]
  · rw [rest]

theorem endLoad_rest (s : State) (read : Option (List Word)) : s.endLoad read = { s with
    vt := { s.vt with nextTicket := (s.endLoad read).vt.nextTicket }, lanes := (s.endLoad read).lanes
    barriers := (s.endLoad read).barriers, decks := (s.endLoad read).decks
    engines := (s.endLoad read).engines, loop := (s.endLoad read).loop, units := (s.endLoad read).units
    loader := (s.endLoad read).loader, notices := (s.endLoad read).notices } := by
  have starts := (s.loadedAll read).autoStartLoop_starts.rest
  rw [← State.endLoad_eq] at starts
  have rest : s.loadedAll read = { s with
      vt := { s.vt with nextTicket := (s.loadedAll read).vt.nextTicket }, lanes := (s.loadedAll read).lanes
      barriers := (s.loadedAll read).barriers, decks := (s.loadedAll read).decks
      engines := (s.loadedAll read).engines, loop := (s.loadedAll read).loop, units := (s.loadedAll read).units
      loader := (s.loadedAll read).loader, notices := (s.loadedAll read).notices } := by
    rw [s.loadedAll_eq read]
  generalize s.loadedAll read = x at *
  generalize s.endLoad read = t at *
  rw [starts]
  conv_lhs => rw [rest]

/-! ### RELOAD (R185) -/

theorem reloadBlocked_iff : s.reloadBlocked = true ↔
    (∃ n : Fin 4, (s.lane n).state ≠ .idle ∧ (s.lane n).state ≠ .closed) ∨ s.loop.state ≠ .stopped := by
  have all (n : Fin 4) : n ∈ allLanes := by
    revert n
    decide
  simp [State.reloadBlocked, all]

theorem reloadOpen (free : ∀ n : Fin 4, (s.lane n).state = .idle ∨ (s.lane n).state = .closed)
    (stopped : s.loop.state = .stopped) : ¬ s.reloadBlocked = true := by
  rw [reloadBlocked_iff]
  rintro (⟨n, idle, closed⟩ | turning)
  · exact (free n).elim idle closed
  · exact turning stopped

theorem exec_reload (h : Accepts s .reload) : exec .reload s = replyTo .reload s.reload :=
  show execReload s = _ from request_replies _ h

/-- R185: a RELOAD that is taken. -/
def State.reloading (s : State) : State :=
  { s.closeForLoad.setLevelsAside with loader := { s.loader with status := .loading, afterReset := false } }

theorem reload_taken (free : s.reloadBlocked = false) (quiet : s.loader.writing = none) :
    s.reload = s.reloading.done := by
  simp [State.reload, free, quiet, State.reloading]

/-- R13, R196: of the loader the levels rest on the image alone. -/
theorem drivenLevels_loader {l : Loader} (h : l.image = s.loader.image) :
    ({ s with loader := l } : State).drivenLevels = s.drivenLevels := by
  have full : ({ s with loader := l } : State).occupancyFull = s.occupancyFull := by
    simp only [State.occupancyFull, h]
    rfl
  simp only [State.drivenLevels, full]
  rfl

theorem levelsFollow_reloading (s : State) : LevelsFollow s.reloading :=
  (drivenLevels_loader (s := s.closeForLoad.setLevelsAside)
    (l := { s.loader with status := .loading, afterReset := false }) rfl).symm

end

/-- Settles O31. -/
theorem loadsJudgeAndTakeTheImage : Obligations.LoadsJudgeAndTakeTheImage := by
  unfold Obligations.LoadsJudgeAndTakeTheImage
  refine ⟨fun s read up loading => ?_, fun s acc => ⟨fun blocked => ?_, fun free stopped => ⟨fun writing => ?_,
    fun quiet => ?_⟩⟩⟩
  · have step : exec (.loadEnd read) s = .next (s.endLoad read) := by
      show execLoadEnd read s = _
      exact when_holds _ up (decide_eq_true loading)
    have starts := (s.loadedAll read).autoStartLoop_starts
    rw [← State.endLoad_eq] at starts
    have kept := startsLoaded s read
    have loaded := s.loadedAll_notices read
    have loader := kept.loader.trans (loadedAll_loader s read)
    have outcome : (s.endLoad read).loader.status = loadOutcome read := by rw [loader]
    have image : (s.endLoad read).loader.image = loadedImage read := by rw [loader]
    have loop := starts.loop
    rw [loadedAll_loop] at loop
    have words := startedLoop_words (s.loop.reloadFrom (loadOutcome read) (loadedImage read))
      (s.loop.reloadFrom (loadOutcome read) (loadedImage read)).autoStart
    have whole := endLoad_rest s read
    generalize s.endLoad read = t at *
    simp only [← loop] at words
    obtain ⟨frameLength, slots, addresses, autoStart⟩ := words
    have mask := loaded.words
    rw [← kept.notices] at mask
    refine ⟨t, step, whole, ?_, ?_, ?_, ?_, ?_, fun n => ⟨?_, ?_, ?_, ?_, ?_, ?_⟩, fun u => ?_, ?_, ?_, ?_,
        fun k hk => ?_,
      fun j => ?_⟩
    · rw [loader]
      exact (loadedLoader read s.loader).1
    · rw [loader]
      exact (loadedLoader read s.loader).2
    · rw [kept.vt, loadedAll_ticket, outcome, image, ← initialTicket_eq]
    · rw [outcome, image]
      exact (s.loop.reloadFrom_takes _ _).congr frameLength slots addresses autoStart
    · intro taken
      have same : taken = s.loop.reloadFrom (loadOutcome read) (loadedImage read) := by
        simp only [taken, frameLength, slots, addresses, autoStart]
        exact (s.loop.reloadFrom_rest _ _).symm
      rw [same, autoStart]
      exact loop
    · rw [kept.decks, loadedAll_deck, outcome, image]
      exact deckFromImage_takes _ _ _
    · rw [kept.lanes, loadedAll_lane, outcome, image]
      exact fromImage_takes _ _ _ _ _ _ (by rw [kept.units, loadedAll_unit]; rfl)
    · rw [kept.units, loadedAll_unit]
      simp only [UnitRec.afterLoad, imageAutoSwitch, served_digitizer]
    · rw [kept.lanes, loadedAll_lane]
      have := fromImage_eq (s.lane n) (loadOutcome read) (loadedImage read) n (decide ((s.barrier n).state = .fault))
      simp only [decide_eq_true_eq] at this
      exact this
    · have barrier := starts.barrier n
      rw [loadedAll_loop, loadedAll_barrier, ← autoStart] at barrier
      exact barrier
    · rw [kept.engines, loadedAll_engine]
    · rw [kept.units, loadedAll_unit]
      have owns : (s.loadedAll read).loop.ownsSlot u = t.loop.ownsSlot u := by
        rw [loadedAll_loop]
        exact (ownsSlot_congr frameLength slots u).symm
      rw [owns]
      rfl
    · rw [image]
      exact mask
    · unfold LevelsFollow
      rw [kept.notices, starts.levels]
      exact loaded.levels
    · rw [kept.notices]
      exact loaded.before
    · rw [kept.notices]
      exact loaded.low k hk
    · rw [kept.notices]
      exact loaded.edges j
  · rw [exec_reload acc, State.reload, if_pos (reloadBlocked_iff.mpr blocked)]
    exact replyTo_refuse _ _ _
  · rw [exec_reload acc, State.reload, if_neg (reloadOpen free stopped), if_pos writing]
    exact replyTo_refuse _ _ _
  · refine ⟨s.reloading, ?_, rfl, levelsFollow_reloading s, fun n => mapEach_get _ _ n, fun u => mapEach_get _ _ u⟩
    rw [exec_reload acc, reload_taken (Bool.eq_false_iff.mpr (reloadOpen free stopped)) quiet]
    exact replyTo_done _ _

end Sys2Proof.Machine
end

section
/-! O3: the visits that a RESTART holds (R27, R62, R169, R178). -/

namespace Sys2Proof.Machine

/-! ### The tickets that the records hold -/

/-- R7: the tickets the records of a table hold, by slot. -/
def State.ticketsOf (s : State) : List (Nat × Option Nat) := s.vt.records.map (fun e => (e.1, e.2.ticket))

/-- R53: the record that a lane is bound to. -/
def BoundTo (s : State) (n : Fin 4) (slot : Nat) (v : Visit) : Prop :=
  ∃ ticket, (s.lane n).bound = some ticket ∧ s.byTicket ticket = some (slot, v)

section

variable {s t u : State} {n : Fin 4} {slot : Nat} {v : Visit} {r : HoldReason} {ls : List (Fin 4)}

/-- R1: the slot that a ticket names rests on the tickets alone. -/
theorem State.byTicket_slot (s : State) (ticket : Nat) : (s.byTicket ticket).map Prod.fst =
    (s.ticketsOf.find? (fun e => decide (e.2 = some ticket))).map Prod.fst := by
  rw [byTicket, Table.find, ticketsOf, List.find?_map, Option.map_map]
  rfl

theorem State.byTicket_of_tickets {ticket : Nat} (same : t.ticketsOf = s.ticketsOf)
    (h : t.byTicket ticket = some (slot, v)) : ∃ w, s.byTicket ticket = some (slot, w) := by
  have slots : (s.byTicket ticket).map Prod.fst = some slot := by
    rw [byTicket_slot, ← same, ← byTicket_slot, h]
    rfl
  obtain ⟨⟨k, w⟩, found, rfl⟩ := Option.map_eq_some_iff.mp slots
  exact ⟨w, found⟩

theorem Table.map_put {α β : Type} {t : Table α} {k : Nat} {a b : α} (g : Nat × α → β) (hw : t.wf)
    (h : t.get k = some a) (same : g (k, b) = g (k, a)) : (t.put k b).map g = t.map g := by
  induction t with
  | nil => cases h
  | cons e rest ih =>
    obtain ⟨j, c⟩ := e
    obtain ⟨above, hw⟩ := List.pairwise_cons.mp hw
    by_cases hk : j = k
    · subst hk
      rw [get, if_pos rfl] at h
      cases h
      simp [put, same]
    · rw [get, if_neg hk] at h
      have lt : j < k := above _ (mem_of_get h)
      simp only [put, Nat.not_lt.mpr lt.le, if_false, Ne.symm hk, List.map_cons, ih hw h]

/-! ### One hold claim (R169, R171) -/

/-- R169, R171: what a hold claim changes. -/
structure HoldClaims (s t : State) (slot : Nat) (v : Visit) (r : HoldReason) : Prop where
  rest    : t = { s with
    vt := { s.vt with records := t.vt.records, changes := t.vt.changes }, notices := t.notices }
  tables  : t.vt.records.wf
  tickets : t.ticketsOf = s.ticketsOf
  others  : OtherVisitsKept s t slot
  fresh   : v.state ≠ .held → t.visit slot = some (State.heldVisit v r) ∧ t.vt.changes = withChange s.vt.changes slot
  again   : v.state = .held → v.reason = some r → t = s
  changes : t.vt.changes = s.vt.changes ∨ t.vt.changes = withChange s.vt.changes slot

theorem HoldClaims.of_same (tables : s.vt.records.wf) (held : v.state = .held) : HoldClaims s s slot v r :=
  ⟨rfl, tables, rfl, fun _ _ => rfl, fun h => absurd held h, fun _ _ => rfl, .inl rfl⟩

theorem State.holdClaim_claims (tables : s.vt.records.wf) (hv : s.visit slot = some v) (r : HoldReason) :
    HoldClaims s (s.holdClaim slot r) slot v r := by
  have written (w : Visit) (same : w.ticket = v.ticket) :
      (s.vt.records.put slot w).map (fun e => (e.1, e.2.ticket)) = s.ticketsOf :=
    Table.map_put _ tables hv (by rw [same])
  by_cases held : v.state = .held
  · have eq : s.holdClaim slot r = s.addLater slot v r := by
      simp only [holdClaim, hv, held, if_true]
    rw [eq, addLater]
    split
    · exact .of_same tables held
    · rename_i lacks
      rw [setVisit_touch]
      exact ⟨rfl, Table.put_wf _ _ tables, written _ rfl, fun k hk => Table.get_put_of_ne _ _ hk,
        fun h => absurd held h, fun _ hr => absurd (.inl hr) lacks, .inr rfl⟩
  · rw [holdClaim_eq hv held, setVisit_touch]
    exact ⟨rfl, Table.put_wf _ _ tables, written _ rfl, fun k hk => Table.get_put_of_ne _ _ hk,
      fun _ => ⟨Table.get_put_self _ _ _, rfl⟩, fun h => absurd h held, .inr rfl⟩

/-! ### The holds, lane by lane -/

/-- R27, R178: what the holds of some of the lanes leave. -/
structure HeldSoFar (s u : State) (ls : List (Fin 4)) : Prop where
  rest    : u = { s with
    vt := { s.vt with records := u.vt.records, changes := u.vt.changes }, notices := u.notices }
  tables  : u.vt.records.wf
  tickets : u.ticketsOf = s.ticketsOf
  held    : ∀ n ∈ ls, ∀ slot v, BoundTo s n slot v → v.state ≠ .held →
    u.visit slot = some (State.heldVisit v .restart) ∧ slot ∈ u.vt.changes
  kept    : ∀ slot, (∀ n ∈ ls, ∀ v, ¬ BoundTo s n slot v) → u.visit slot = s.visit slot
  added   : ∃ added, u.vt.changes = s.vt.changes ++ added ∧ added.Nodup ∧
    ∀ slot ∈ added, slot ∉ s.vt.changes ∧ ∃ n ∈ ls, ∃ v, BoundTo s n slot v

theorem BoundTo.visit (tables : s.vt.records.wf) (h : BoundTo s n slot v) : s.visit slot = some v := by
  obtain ⟨ticket, -, found⟩ := h
  exact (State.byTicket_visit tables found).1

/-- R178: a lane that is bound to no record holds none. -/
theorem HeldSoFar.unbound (h : HeldSoFar s u ls) (free : ∀ slot v, ¬ BoundTo s n slot v) :
    HeldSoFar s u (ls ++ [n]) := by
  obtain ⟨rest, tables, tickets, held, kept, added, changes, once, new⟩ := h
  refine ⟨rest, tables, tickets, fun m hm slot v bound => ?_, fun slot none => ?_, added, changes, once,
      fun slot hs => ?_⟩
  · rcases List.mem_append.mp hm with hm | hm
    · exact held m hm slot v bound
    · rw [List.mem_singleton] at hm
      subst hm
      exact absurd bound (free _ _)
  · exact kept slot fun m hm => none m (List.mem_append_left _ hm)
  · obtain ⟨fresh, m, hm, v, bound⟩ := new slot hs
    exact ⟨fresh, m, List.mem_append_left _ hm, v, bound⟩

theorem HeldSoFar.changes_step (h : ∃ added, u.vt.changes = s.vt.changes ++ added ∧ added.Nodup ∧
      ∀ slot ∈ added, slot ∉ s.vt.changes ∧ ∃ n ∈ ls, ∃ v, BoundTo s n slot v) (bound : BoundTo s n slot v)
    (step : t.vt.changes = u.vt.changes ∨ t.vt.changes = withChange u.vt.changes slot) :
    ∃ added, t.vt.changes = s.vt.changes ++ added ∧ added.Nodup ∧
      ∀ slot ∈ added, slot ∉ s.vt.changes ∧ ∃ m ∈ ls ++ [n], ∃ v, BoundTo s m slot v := by
  obtain ⟨added, changes, once, new⟩ := h
  have later : ∀ k ∈ added, k ∉ s.vt.changes ∧ ∃ m ∈ ls ++ [n], ∃ v, BoundTo s m k v := fun k hk => by
    obtain ⟨fresh, m, hm, w, hw⟩ := new k hk
    exact ⟨fresh, m, List.mem_append_left _ hm, w, hw⟩
  rcases step with same | listed
  · exact ⟨added, same.trans changes, once, later⟩
  · by_cases mem : slot ∈ u.vt.changes
    · exact ⟨added, by rw [listed, withChange, if_pos mem, changes], once, later⟩
    · have absent : slot ∉ s.vt.changes ∧ slot ∉ added := by
        rw [changes, List.mem_append] at mem
        exact not_or.mp mem
      refine ⟨added ++ [slot], by rw [listed, withChange, if_neg mem, changes, List.append_assoc], ?_, fun k hk => ?_⟩
      · exact List.nodup_append.mpr ⟨once, List.nodup_singleton _, fun a ha b hb => by
          rw [List.mem_singleton] at hb
          subst hb
          exact fun e => absent.2 (e ▸ ha)⟩
      · rcases List.mem_append.mp hk with hk | hk
        · exact later k hk
        · rw [List.mem_singleton] at hk
          subst hk
          exact ⟨absent.1, n, by simp, v, bound⟩

/-- R62, R178: the lane's visit is held. -/
theorem HeldSoFar.bound (h : HeldSoFar s u ls) (tables : s.vt.records.wf) (bound : BoundTo s n slot v) {w : Visit}
    (hw : u.visit slot = some w) : HeldSoFar s (u.holdClaim slot .restart) (ls ++ [n]) := by
  have visit := bound.visit tables
  have claim := State.holdClaim_claims h.tables hw .restart
  generalize u.holdClaim slot .restart = t at claim
  have before : w = v ∨ (v.state ≠ .held → w = State.heldVisit v .restart ∧ slot ∈ u.vt.changes) := by
    by_cases seen : ∃ m ∈ ls, ∃ x, BoundTo s m slot x
    · obtain ⟨m, hm, x, hx⟩ := seen
      have same := hx.visit tables
      rw [visit] at same
      cases same
      refine .inr fun hv => ?_
      obtain ⟨heldNow, listed⟩ := h.held m hm slot v hx hv
      rw [hw] at heldNow
      exact ⟨Option.some.inj heldNow, listed⟩
    · have := h.kept slot fun m hm x hx => seen ⟨m, hm, x, hx⟩
      rw [hw, visit] at this
      exact .inl (Option.some.inj this)
  have here (hv : v.state ≠ .held) : t.visit slot = some (State.heldVisit v .restart) ∧ slot ∈ t.vt.changes := by
    rcases before with rfl | before
    · obtain ⟨written, listed⟩ := claim.fresh hv
      exact ⟨written, by rw [listed]; exact mem_withChange.mpr (.inr rfl)⟩
    · obtain ⟨rfl, listed⟩ := before hv
      rw [claim.again rfl rfl]
      exact ⟨hw, listed⟩
  refine ⟨?_, claim.tables, claim.tickets.trans h.tickets, fun m hm k x hx hs => ?_, fun k none => ?_,
    HeldSoFar.changes_step h.added bound claim.changes⟩
  · conv_lhs => rw [claim.rest, h.rest]
  · by_cases hk : k = slot
    · subst hk
      have same := hx.visit tables
      rw [visit] at same
      cases same
      exact here hs
    · rcases List.mem_append.mp hm with hm | hm
      · obtain ⟨heldNow, listed⟩ := h.held m hm k x hx hs
        refine ⟨(claim.others k hk).trans heldNow, ?_⟩
        rcases claim.changes with same | more
        · rw [same]
          exact listed
        · rw [more]
          exact mem_withChange.mpr (.inl listed)
      · rw [List.mem_singleton] at hm
        subst hm
        obtain ⟨ticket, lane, found⟩ := bound
        obtain ⟨ticket', lane', found'⟩ := hx
        rw [lane] at lane'
        cases lane'
        rw [found] at found'
        cases found'
        exact absurd rfl hk
  · have hk : k ≠ slot := by
      rintro rfl
      exact none n (by simp) v bound
    exact (claim.others k hk).trans (h.kept k fun m hm => none m (List.mem_append_left _ hm))

theorem HeldSoFar.step (h : HeldSoFar s u ls) (tables : s.vt.records.wf) (n : Fin 4) :
    HeldSoFar s (u.holdBound n .restart) (ls ++ [n]) := by
  have lane : u.lane n = s.lane n := congrArg (fun x => x.lane n) h.rest
  unfold State.holdBound
  cases found : u.boundRecord n with
  | none =>
    refine h.unbound fun slot v ⟨ticket, bound, here⟩ => ?_
    rw [State.boundRecord, lane, bound] at found
    obtain ⟨w, hw⟩ := State.byTicket_of_tickets h.tickets.symm here
    simp only [hw, reduceCtorEq] at found
  | some e =>
    obtain ⟨slot, w⟩ := e
    rw [State.boundRecord, lane] at found
    cases hb : (s.lane n).bound with
    | none => simp [hb] at found
    | some ticket =>
      simp only [hb] at found
      obtain ⟨v, hv⟩ := State.byTicket_of_tickets h.tickets found
      exact h.bound tables ⟨ticket, hb, hv⟩ (State.byTicket_visit h.tables found).1

theorem State.restartHolds_holds (tables : s.vt.records.wf) : HeldSoFar s s.restartHolds allLanes := by
  have start : HeldSoFar s s [] := ⟨rfl, tables, rfl, by simp, fun _ _ => rfl, [], by simp⟩
  exact (((start.step tables 0).step tables 1).step tables 2).step tables 3

end

end Sys2Proof.Machine
end

section
/-! O3: what RST_N_LOW, HARD_RESET, RESTART and RESTART_END leave (R186, R187). -/

namespace Sys2Proof.Machine

variable {s t y : State}

/-! ### The hard reset (R186) -/

theorem State.reset_deck (n : Fin 4) : State.reset.deck n = Deck.reset := by fin_cases n <;> rfl
theorem State.reset_engine (n : Fin 4) : State.reset.engine n = Engine.reset := by fin_cases n <;> rfl
theorem State.reset_unit (u : Fin 8) : State.reset.unit u = UnitRec.reset := by fin_cases u <;> rfl

/-! ### The blocks at a RESTART, one by one (R187) -/

/-- R62, R187: the state whose bound visits are held: its loop is reloaded and its captures have ended. -/
def State.holding (s : State) : State := s.restartLoop.restartEngines

/-- R187: what a restart sets after the holds. -/
def State.restartBlocks (y : State) : State :=
  { y.restartLanes.restartOthers.followLevels with restarting := true }

theorem State.restart_eq (s : State) : s.restart = s.holding.restartHolds.restartBlocks := rfl

section Blocks

variable (y : State) (n : Fin 4)

theorem restartBlocks_lane : y.restartBlocks.lane n =
    State.restartLane (y.lane n) (Timer.load (y.restartBlocks.frames .recovery)) := by
  have lane : y.restartBlocks.lane n =
    (mapEach (fun l => State.restartLane l (Timer.load (y.frames .recovery))) y.lanes).get n := rfl
  rw [lane, mapEach_get]
  rfl

theorem restartBlocks_barrier : y.restartBlocks.barrier n = { Barrier.reset with
    tracking := if (State.restartHeld (y.lane n)).isSome then .heldVisit else .inactive } := by
  simp only [State.barrier, State.restartBlocks, State.restartOthers, State.restartLanes, State.followLevels_barriers]
  simp [Vector.get_eq_getElem]

theorem restartBlocks_deck : y.restartBlocks.deck n = State.restartDeck (y.deck n) := by
  have deck : y.restartBlocks.deck n = (mapEach State.restartDeck y.decks).get n := rfl
  rw [deck, mapEach_get]
  rfl

theorem restartBlocks_unit (u : Fin 8) :
    y.restartBlocks.unit u = State.restartUnit (y.unit u) (y.restartBlocks.loop.ownsSlot u) := by
  have loop : y.restartBlocks.loop = y.loop := rfl
  rw [loop]
  simp only [State.unit, State.restartBlocks, State.restartOthers, State.restartLanes, State.followLevels_units]
  simp [Vector.get_eq_getElem]

theorem restartBlocks_words : TakesNoticeWords y.loader.image y.restartBlocks.notices := by
  have notices : y.restartBlocks.notices = y.restartLanes.restartOthers.notices.takeLevels
    y.restartLanes.restartOthers.drivenLevels := rfl
  rw [notices]
  exact ⟨fun k => by simp [Notices.takeLevels, State.restartOthers, State.restartLanes, imageMask,
      Vector.get_eq_getElem],
    fun k => by simp [Notices.takeLevels, State.restartOthers, State.restartLanes, imageEdges, Vector.get_eq_getElem]⟩

theorem levelsFollow_restartBlocks : LevelsFollow y.restartBlocks := LevelsFollow.follow y.restartLanes.restartOthers

theorem restartBlocks_rest : y.restartBlocks = { y with
    restarting := true, lanes := y.restartBlocks.lanes, barriers := y.restartBlocks.barriers
    decks := y.restartBlocks.decks, units := y.restartBlocks.units, notices := y.restartBlocks.notices } := rfl

end Blocks

theorem restartLoop_takes (s : State) : TakesLoopWords s.loader.status s.loader.image s.holding.loop :=
  (Loop.reloadFrom_takes s.loop _ _).congr rfl rfl rfl rfl

theorem restartLoop_rest (s : State) : s.holding.loop = { s.loop with
    frameLength := s.holding.loop.frameLength, slots := s.holding.loop.slots
    addresses := s.holding.loop.addresses, autoStart := s.holding.loop.autoStart
    period := s.holding.loop.frameLength + 1, state := .stopped, frameNo := 0, position := none, begun := none
    shown := 0, pauseShown := false, working := [], published := none, tableChanged := false, markerOpen := false
    polled := none, slotDone := false, inject := Vector.replicate 8 false, delivery := none } := by
  have rest := s.loop.reloadFrom_rest s.loader.status s.loader.image
  unfold State.holding State.restartEngines State.restartLoop
  generalize s.loop.reloadFrom s.loader.status s.loader.image = l at rest
  simp only
  rw [rest]

theorem holding_rest (s : State) :
    s.holding = { s with loop := s.holding.loop, engines := Vector.replicate 4 Engine.reset } := rfl

theorem HeldSoFar.lane {ls : List (Fin 4)} (h : HeldSoFar s t ls) (n : Fin 4) : t.lane n = s.lane n :=
  congrArg (fun x => x.lane n) h.rest

theorem restart_engine (h : HeldSoFar s.holding y allLanes) (n : Fin 4) : y.restartBlocks.engine n = Engine.reset := by
  have kept : y.restartBlocks.engine n = s.holding.engine n := congrArg (fun x => x.engine n) h.rest
  rw [kept]
  fin_cases n <;> rfl

theorem restart_rest (h : HeldSoFar s.holding y allLanes) : y.restartBlocks = { s with
    restarting := true, vt := { s.vt with records := y.restartBlocks.vt.records, changes := y.restartBlocks.vt.changes }
    lanes := y.restartBlocks.lanes, barriers := y.restartBlocks.barriers, decks := y.restartBlocks.decks
    engines := y.restartBlocks.engines, loop := y.restartBlocks.loop, units := y.restartBlocks.units
    notices := y.restartBlocks.notices } := by
  have rest := restartBlocks_rest y
  have held := h.rest
  rw [holding_rest s] at held
  generalize y.restartBlocks = t at *
  rw [rest]
  conv_lhs => rw [held]
  conv_rhs => rw [held]

/-! ### RESTART and RESTART_END -/

theorem exec_restart (h : Accepts s .restart) : exec .restart s = .next (answered s.restart .restart .ok .empty) := by
  show execRestart s = _
  exact request_replies _ h

theorem exec_restartEnd (low : s.rstLow = false) (restarting : s.restarting = true) : exec .restartEnd s =
    .next { s with restarting := false, notices := { s.notices with latched := Vector.replicate 20 0 } }.autoStartLoop :=
  when_holds _ low restarting

/-- R186: what a hard reset leaves of a lane and of a unit. -/
theorem hardReset_lane (s : State) (n : Fin 4) : s.hardReset.lane n = Lane.reset ∧
    s.hardReset.barrier n = Barrier.reset ∧ s.hardReset.deck n = Deck.reset ∧ s.hardReset.engine n = Engine.reset :=
  ⟨State.reset_lane n, State.reset_barrier n, State.reset_deck n, State.reset_engine n⟩

theorem hardReset_unit (s : State) (u : Fin 8) : s.hardReset.unit u = UnitRec.reset := State.reset_unit u

/-- R186: the record of a bound visit and the others after the holds, and the lanes that hold one. -/
theorem restart_leaves (held : HeldSoFar s.holding y allLanes) :
    (∀ n slot v, BoundTo s n slot v → v.state ≠ .held → slot ∈ y.vt.changes ∧ y.visit slot =
      some { v with state := .held, prior := some v.state, reason := some .restart, later := [], lane := none }) ∧
    (∀ slot, (∀ n v, ¬ BoundTo s n slot v) → y.visit slot = s.visit slot) ∧
    ∃ added, y.vt.changes = s.vt.changes ++ added ∧ added.Nodup ∧
      ∀ slot ∈ added, slot ∉ s.vt.changes ∧ ∃ n v, BoundTo s n slot v := by
  have every (n : Fin 4) : n ∈ allLanes := by fin_cases n <;> simp [allLanes]
  obtain ⟨added, changes, once, new⟩ := held.added
  refine ⟨fun n slot v bound fresh => ?_, fun slot none => held.kept slot fun n _ v => none n v, added, changes, once,
    fun slot hs => ?_⟩
  · obtain ⟨visit, listed⟩ := held.held n (every n) slot v bound fresh
    exact ⟨listed, visit⟩
  · obtain ⟨absent, n, -, v, bound⟩ := new slot hs
    exact ⟨absent, n, v, bound⟩

/-- Settles O3: the blocks are set one by one, after the holds have run over the lanes. -/
theorem resetsLeaveEachBlock : Obligations.ResetsLeaveEachBlock := by
  have attn : State.reset.notices.attn = false := by decide
  refine ⟨fun s => rfl, fun s => ⟨s.hardReset, rfl, rfl, rfl, rfl, rfl, rfl, rfl, rfl, rfl, fun n => ?_, rfl, rfl, rfl,
    fun u => ?_, rfl, rfl, rfl, rfl, rfl, rfl, attn⟩, fun s h tables => ?_, fun s low restarting => ?_⟩
  · obtain ⟨lane, barrier, deck, engine⟩ := hardReset_lane s n
    rw [lane, barrier, deck, engine]
    exact ⟨rfl, rfl, rfl, rfl, rfl, rfl, rfl, rfl, rfl⟩
  · rw [hardReset_unit]
    exact ⟨rfl, rfl, rfl⟩
  · have held : HeldSoFar s.holding s.holding.restartHolds allLanes := State.restartHolds_holds tables.records
    have exec := exec_restart h
    rw [s.restart_eq] at exec
    generalize s.holding.restartHolds = y at held exec
    obtain ⟨bound, kept, added, changes, once, new⟩ := restart_leaves held
    have lane (n : Fin 4) : y.lane n = s.lane n := held.lane n
    have deck (n : Fin 4) : y.deck n = s.deck n := congrArg (fun x => x.deck n) held.rest
    have unit (u : Fin 8) : y.unit u = s.unit u := congrArg (fun x => x.unit u) held.rest
    have loop : y.restartBlocks.loop = s.holding.loop := (congrArg State.loop held.rest :)
    have loader : y.loader = s.loader := (congrArg State.loader held.rest :)
    have words := restartBlocks_words y
    rw [loader] at words
    refine ⟨y.restartBlocks, added, exec, ?_, bound, kept, once, new, ?_, ?_, fun n =>
        ⟨?_, ?_, ?_, restart_engine held n⟩,
      fun u => ?_, words, levelsFollow_restartBlocks y⟩
    · rw [← changes]
      exact restart_rest held
    · rw [loop]
      exact restartLoop_takes s
    · rw [loop]
      exact restartLoop_rest s
    · rw [restartBlocks_lane, lane]
      rfl
    · rw [restartBlocks_barrier, lane]
      rfl
    · rw [restartBlocks_deck, deck]
      rfl
    · rw [restartBlocks_unit, unit]
      rfl
  · have exec := exec_restartEnd low restarting
    have starts := State.autoStartLoop_starts
      { s with restarting := false, notices := { s.notices with latched := Vector.replicate 20 0 } }
    refine ⟨fun off => ?_, fun on => ⟨_, exec, ?_, ?_, fun n => ?_⟩⟩
    · rw [exec]
      congr 1
      simp [State.autoStartLoop, off]
    · have rest := starts.rest
      rw [starts.loop, if_pos on] at rest
      exact rest
    · rw [State.autoStartLoop, if_pos on]
      obtain ⟨units, decks⟩ := State.startLoop_clears
        { s with restarting := false, notices := { s.notices with latched := Vector.replicate 20 0 } }
      exact ⟨units, decks⟩
    · have barrier := starts.barrier n
      rw [if_pos on] at barrier
      exact barrier

end Sys2Proof.Machine
end

section
/-! The laws lane by lane (R5, R60, R73, R77, R85, R88): what each lane's law reads, and the states in which every law
holds but that of one lane, whose visit has just left it. -/

namespace Sys2Proof.Machine

/-! ### What the laws read -/

/-- R5, R172: what a lane's law reads of a record. -/
def Visit.tie (v : Visit) : VisitState × Option (Fin 4) × Option Nat × Option VisitState × Bool :=
  (v.state, v.lane, v.ticket, v.prior, v.inYard)

/-- R5, R60: what a lane's law reads of the lane. -/
def Lane.tie (l : Lane) : LaneState × Option Nat × Option Nat × LaneMode × Bool :=
  (l.state, l.bound, l.heldVisit, l.mode, l.eligible)

/-- R77, R85, R88: what a lane's law, and the law of its orders, read of its barrier. -/
def Barrier.tie (b : Barrier) : BarrierOrder × Tracking × BarrierState × Option LoopImage :=
  (b.order, b.tracking, b.state, b.image)

theorem Visit.tie_eq {v w : Visit} (h : w.tie = v.tie) :
    w.state = v.state ∧ w.lane = v.lane ∧ w.ticket = v.ticket ∧ w.prior = v.prior ∧ w.inYard = v.inYard := by
  simpa [tie] using h

theorem Lane.tie_eq {l m : Lane} (h : m.tie = l.tie) :
    m.state = l.state ∧ m.bound = l.bound ∧ m.heldVisit = l.heldVisit ∧ m.mode = l.mode ∧ m.eligible = l.eligible := by
  simpa [tie] using h

theorem Barrier.tie_eq {b c : Barrier} (h : c.tie = b.tie) :
    c.order = b.order ∧ c.tracking = b.tracking ∧ c.state = b.state ∧ c.image = b.image := by
  simpa [tie] using h

/-- R88, R173: a record that a lane of a mode may watch for: HELD by its ticket, its prior state fit for the mode. -/
structure Awaited (f : Nat → Option Visit) (mode : LaneMode) (ticket slot : Nat) (v : Visit) : Prop where
  stands : f slot = some v
  ticket : v.ticket = some ticket
  held   : v.state = .held
  fits   : ∃ prior, v.prior = some prior ∧ State.modeFits prior mode = true
  mark   : v.inYard = decide (mode ≠ .entry)

/-- R5, R60, R73, R77, R85, R88: the law of one lane: its own record, its barrier, and the records it speaks of. -/
structure LaneLaw (f : Nat → Option Visit) (n : Fin 4) (l : Lane) (b : Barrier) : Prop where
  visit   : ∀ slot v, f slot = some v → v.lane = some n →
    l.state.hasVisit = true ∧ l.bound = v.ticket ∧ State.modeFits v.state l.mode = true
  passes  : ∀ slot v, f slot = some v → v.lane = some n →
    l.state = .passing ∨ (l.state = .settling ∧ l.eligible = true) → v.state ≠ .exiting
  lane    : l.state.hasVisit = true → ∃ slot v, f slot = some v ∧ v.lane = some n
  free    : l.state.hasVisit = false → l.bound = none
  watched : ∀ t, l.heldVisit = some t → l.state = .releasing ∧ ∃ slot v, Awaited f l.mode t slot v
  passing : l.state = .passing → b.order = .raise ∧ b.tracking = .boundVisit
  raised  : b.order = .raise → l.state = .passing ∨ l.state = .maintenance
  bound   : b.tracking = .boundVisit → l.state = .passing
  held    : b.tracking = .heldVisit ↔ l.heldVisit.isSome = true

/-- R5, R60, R73, R77, R85, R88: the laws, but for the lane `x`, if any, which no record is bound to. -/
structure LawfulBut (x : Option (Fin 4)) (s : State) : Prop where
  books   : BooksLawful s
  lanes   : ∀ n, x ≠ some n → LaneLaw s.visit n (s.lane n) (s.barrier n)
  vacant  : ∀ n, x = some n → ∀ slot v, s.visit slot = some v → v.lane ≠ some n
  once    : ∀ m n t, x ≠ some m → x ≠ some n → (s.lane m).heldVisit = some t → (s.lane n).heldVisit = some t → m = n
  loading : s.loader.status = .loading → ∀ n, (s.lane n).state = .closed

theorem lawful_iff (s : State) : Lawful s ↔ LawfulBut none s := by
  constructor
  · rintro ⟨tables, visits, occupancy, ⟨visit, passes, lane, free, watched, once, loading⟩,
      ⟨passing, raised, bound, held⟩, reservations, retention⟩
    refine ⟨⟨tables, visits, occupancy, reservations, retention⟩, fun n _ => ?_, by simp, fun m n t _ _ => once m n t,
      loading⟩
    refine ⟨fun slot v => visit slot v n, fun slot v => passes slot v n, lane n, free n, fun t ht => ?_, passing n,
      raised n, bound n, held n⟩
    obtain ⟨releasing, slot, v, prior, stands, ticket, isHeld, hp, fits, mark⟩ := watched n t ht
    exact ⟨releasing, slot, v, stands, ticket, isHeld, ⟨prior, hp, fits⟩, mark⟩
  · rintro ⟨⟨tables, visits, occupancy, reservations, retention⟩, lanes, -, once, loading⟩
    have law (n : Fin 4) := lanes n (by simp)
    refine ⟨tables, visits, occupancy, ⟨fun slot v n => (law n).visit slot v, fun slot v n => (law n).passes slot v,
      fun n => (law n).lane, fun n => (law n).free, fun n t ht => ?_,
      fun m n t => once m n t (by simp) (by simp), loading⟩,
      ⟨fun n => (law n).passing, fun n => (law n).raised, fun n => (law n).bound, fun n => (law n).held⟩,
      reservations, retention⟩
    obtain ⟨releasing, slot, v, stands, ticket, isHeld, ⟨prior, hp, fits⟩, mark⟩ := (law n).watched t ht
    exact ⟨releasing, slot, v, prior, stands, ticket, isHeld, hp, fits, mark⟩

/-! ### When a lane's law stands -/

/-- R5, R88: the records a lane's law speaks of are the same in two tables, as far as it reads them. -/
structure SameFor (f g : Nat → Option Visit) (n : Fin 4) (held : Option Nat) : Prop where
  back  : ∀ slot w, g slot = some w → w.lane = some n → ∃ v, f slot = some v ∧ w.tie = v.tie
  forth : ∀ slot v, f slot = some v → (v.lane = some n ∨ ∃ t, held = some t ∧ v.ticket = some t ∧ v.state = .held) →
    ∃ w, g slot = some w ∧ w.tie = v.tie

variable {f g : Nat → Option Visit} {n : Fin 4} {l m : Lane} {b c : Barrier}

theorem Awaited.of_tie {mode : LaneMode} {t slot : Nat} {v w : Visit} (h : Awaited f mode t slot v)
    (hw : g slot = some w) (e : w.tie = v.tie) : Awaited g mode t slot w := by
  obtain ⟨state, -, ticket, prior, mark⟩ := Visit.tie_eq e
  exact ⟨hw, ticket.trans h.ticket, state.trans h.held, by rw [prior]; exact h.fits, mark.trans h.mark⟩

/-- R5, R88: a lane's law stands where all that it reads stands. -/
theorem LaneLaw.transport (h : LaneLaw f n l b) (same : SameFor f g n l.heldVisit) (hl : m.tie = l.tie)
    (order : c.order = b.order) (tracking : c.tracking = b.tracking) : LaneLaw g n m c := by
  obtain ⟨state, bound, heldVisit, mode, eligible⟩ := Lane.tie_eq hl
  constructor
  case visit =>
    intro slot w hw lane
    obtain ⟨v, hv, e⟩ := same.back slot w hw lane
    obtain ⟨vs, vl, vt, -, -⟩ := Visit.tie_eq e
    rw [state, bound, mode, vs, vt]
    exact h.visit slot v hv (vl ▸ lane)
  case passes =>
    intro slot w hw lane
    obtain ⟨v, hv, e⟩ := same.back slot w hw lane
    obtain ⟨vs, vl, -, -, -⟩ := Visit.tie_eq e
    rw [state, eligible, vs]
    exact h.passes slot v hv (vl ▸ lane)
  case lane =>
    rw [state]
    intro has
    obtain ⟨slot, v, hv, lane⟩ := h.lane has
    obtain ⟨w, hw, e⟩ := same.forth slot v hv (.inl lane)
    exact ⟨slot, w, hw, (Visit.tie_eq e).2.1.trans lane⟩
  case free =>
    rw [state, bound]
    exact h.free
  case watched =>
    rw [state, heldVisit, mode]
    intro t ht
    obtain ⟨releasing, slot, v, awaited⟩ := h.watched t ht
    obtain ⟨w, hw, e⟩ := same.forth slot v awaited.stands (.inr ⟨t, ht, awaited.ticket, awaited.held⟩)
    exact ⟨releasing, slot, w, awaited.of_tie hw e⟩
  case passing =>
    rw [state, order, tracking]
    exact h.passing
  case raised =>
    rw [state, order]
    exact h.raised
  case bound =>
    rw [state, tracking]
    exact h.bound
  case held =>
    rw [tracking, heldVisit]
    exact h.held

theorem SameFor.refl (f : Nat → Option Visit) (n : Fin 4) (held : Option Nat) : SameFor f f n held :=
  ⟨fun _ w hw _ => ⟨w, hw, rfl⟩, fun _ v hv _ => ⟨v, hv, rfl⟩⟩

/-- R5: a lane's law reads nothing of a record that is not bound to it, nor watched for. -/
theorem SameFor.of_elsewhere {slot : Nat} {held : Option Nat} (others : ∀ k, k ≠ slot → g k = f k)
    (before : ∀ v, f slot = some v → v.lane ≠ some n ∧ ∀ t, held = some t → v.ticket = some t → v.state ≠ .held)
    (after : ∀ w, g slot = some w → w.lane ≠ some n) : SameFor f g n held where
  back k w hw lane := by
    have hk : k ≠ slot := fun e => after w (e ▸ hw) lane
    exact ⟨w, others k hk ▸ hw, rfl⟩
  forth k v hv reads := by
    have hk : k ≠ slot := by
      rintro rfl
      obtain ⟨lane, unwatched⟩ := before v hv
      rcases reads with here | ⟨t, ht, ticket, isHeld⟩
      · exact lane here
      · exact unwatched t ht ticket isHeld
    exact ⟨v, (others k hk).trans hv, rfl⟩

/-- R5, R88: records that differ in what no lane's law reads. -/
theorem SameFor.of_ties {held : Option Nat} (ties : ∀ slot, (g slot).map Visit.tie = (f slot).map Visit.tie) :
    SameFor f g n held := by
  have find {p q : Nat → Option Visit} (h : ∀ slot, (p slot).map Visit.tie = (q slot).map Visit.tie) {slot : Nat}
      {v : Visit} (hv : p slot = some v) : ∃ w, q slot = some w ∧ w.tie = v.tie := by
    have := h slot
    rw [hv] at this
    exact Option.map_eq_some_iff.mp this.symm
  constructor
  · intro slot w hw _
    obtain ⟨v, hv, e⟩ := find ties hw
    exact ⟨v, hv, e.symm⟩
  · intro slot v hv _
    exact find (fun k => (ties k).symm) hv

/-- R5, R60: the law of a lane that has no visit and watches for none. -/
theorem LaneLaw.of_free (state : l.state.hasVisit = false) (bound : l.bound = none) (heldVisit : l.heldVisit = none)
    (none : ∀ slot v, f slot = some v → v.lane ≠ some n) (order : b.order = .raise → l.state = .maintenance)
    (tracking : b.tracking = .inactive) : LaneLaw f n l b where
  visit slot v hv lane := absurd lane (none slot v hv)
  passes slot v hv lane := absurd lane (none slot v hv)
  lane has := by rw [state] at has; cases has
  free _ := bound
  watched t ht := by rw [heldVisit] at ht; cases ht
  passing isPassing := by rw [isPassing] at state; cases state
  raised h := .inr (order h)
  bound h := by rw [tracking] at h; cases h
  held := by simp [tracking, heldVisit]

/-- R62, R63, R88: the law of a lane in RELEASING that watches for a held visit. -/
theorem LaneLaw.of_watch {t slot : Nat} {v : Visit} (state : l.state = .releasing) (bound : l.bound = none)
    (heldVisit : l.heldVisit = some t) (awaited : Awaited f l.mode t slot v)
    (none : ∀ slot v, f slot = some v → v.lane ≠ some n) (order : b.order = .lower)
    (tracking : b.tracking = .heldVisit) : LaneLaw f n l b where
  visit slot v hv lane := absurd lane (none slot v hv)
  passes slot v hv lane := absurd lane (none slot v hv)
  lane has := by rw [state] at has; cases has
  free _ := bound
  watched x hx := by
    rw [heldVisit] at hx
    cases hx
    exact ⟨state, slot, v, awaited⟩
  passing isPassing := by rw [state] at isPassing; cases isPassing
  raised h := by rw [order] at h; cases h
  bound h := by rw [tracking] at h; cases h
  held := by simp [tracking, heldVisit]

end Sys2Proof.Machine
end

section
/-! What keeps the laws: a change that they do not read, a change of one lane, a change of one record. -/

namespace Sys2Proof.Machine

variable {s t u : State} {n : Fin 4} {x y : Option (Fin 4)}

/-! ### Changes that the laws do not read -/

/-- R77, R83: no barrier is ordered anew to RAISE, and none turns to RAISING; the images stand. -/
structure CalmAt (s t : State) (n : Fin 4) : Prop where
  order : (t.barrier n).order = .raise → (s.barrier n).order = .raise
  state : (t.barrier n).state = .raising → (s.barrier n).state = .raising
  image : (t.barrier n).image = (s.barrier n).image

def Calm (s t : State) : Prop := ∀ n, CalmAt s t n

theorem CalmAt.of_tie (h : (t.barrier n).tie = (s.barrier n).tie) : CalmAt s t n := by
  obtain ⟨order, -, state, image⟩ := Barrier.tie_eq h
  exact ⟨fun e => order ▸ e, fun e => state ▸ e, image⟩

theorem Calm.refl (s : State) : Calm s s := fun _ => ⟨id, id, rfl⟩

theorem Calm.trans (h : Calm s t) (h' : Calm t u) : Calm s u := fun n =>
  ⟨(h n).order ∘ (h' n).order, (h n).state ∘ (h' n).state, (h' n).image.trans (h n).image⟩

/-- The laws read nothing that differs. -/
structure Quiet (s t : State) : Prop where
  books    : BooksLawful s → BooksLawful t
  visits   : ∀ slot, (t.visit slot).map Visit.tie = (s.visit slot).map Visit.tie
  lanes    : ∀ n, (t.lane n).tie = (s.lane n).tie
  barriers : ∀ n, (t.barrier n).tie = (s.barrier n).tie
  status   : t.loader.status = s.loader.status

namespace Quiet

@[refl, simp] theorem refl (s : State) : Quiet s s := ⟨id, fun _ => rfl, fun _ => rfl, fun _ => rfl, rfl⟩

theorem trans (h : Quiet s t) (h' : Quiet t u) : Quiet s u :=
  ⟨h'.books ∘ h.books, fun k => (h'.visits k).trans (h.visits k), fun n => (h'.lanes n).trans (h.lanes n),
    fun n => (h'.barriers n).trans (h.barriers n), h'.status.trans h.status⟩

/-- The tables and the loader stand, and no lane or barrier moves. -/
theorem of_books (books : t.books = s.books) (lanes : ∀ n, (t.lane n).tie = (s.lane n).tie)
    (barriers : ∀ n, (t.barrier n).tie = (s.barrier n).tie) (status : t.loader.status = s.loader.status) :
    Quiet s t := by
  obtain ⟨vt, -, -⟩ := State.books_eq books
  exact ⟨fun h => h.of_books books, fun slot => by rw [State.visit, vt, State.visit], lanes, barriers, status⟩

/-- Only blocks that the laws do not read differ. -/
theorem of_frame (books : t.books = s.books) (lanes : t.lanes = s.lanes) (barriers : t.barriers = s.barriers)
    (loader : t.loader = s.loader) : Quiet s t :=
  of_books books (fun n => by rw [State.lane, lanes, State.lane])
      (fun n => by rw [State.barrier, barriers, State.barrier])
    (by rw [loader])

theorem calm (h : Quiet s t) : Calm s t := fun n => .of_tie (h.barriers n)

theorem visit_of (h : Quiet s t) {slot : Nat} {w : Visit} (hw : t.visit slot = some w) :
    ∃ v, s.visit slot = some v ∧ w.tie = v.tie := by
  have := h.visits slot
  rw [hw] at this
  obtain ⟨v, hv, e⟩ := Option.map_eq_some_iff.mp this.symm
  exact ⟨v, hv, e.symm⟩

theorem of_visit (h : Quiet s t) {slot : Nat} {v : Visit} (hv : s.visit slot = some v) :
    ∃ w, t.visit slot = some w ∧ w.tie = v.tie := by
  have := h.visits slot
  rw [hv] at this
  exact Option.map_eq_some_iff.mp this

end Quiet

/-! ### One lane moves, and a record with it -/

/-- R5, R60, R73, R88: the laws after one lane, its barrier and its record have moved. -/
theorem LawfulBut.at_lane (h : LawfulBut x s) (hx : ∀ m, x = some m → m = n) (books : BooksLawful t)
    (others : ∀ m, m ≠ n → (t.lane m).tie = (s.lane m).tie ∧ (t.barrier m).order = (s.barrier m).order ∧
      (t.barrier m).tracking = (s.barrier m).tracking)
    (same : ∀ m, m ≠ n → SameFor s.visit t.visit m (s.lane m).heldVisit)
    (law : LaneLaw t.visit n (t.lane n) (t.barrier n))
    (once : ∀ k, (t.lane n).heldVisit = some k → ∀ m, m ≠ n → (s.lane m).heldVisit ≠ some k)
    (status : t.loader.status = s.loader.status)
    (closed : s.loader.status = .loading → (t.lane n).state = .closed) : LawfulBut none t where
  books := books
  lanes m _ := by
    by_cases hm : m = n
    · exact hm ▸ law
    · obtain ⟨lane, order, tracking⟩ := others m hm
      exact (h.lanes m fun e => hm (hx m e)).transport (same m hm) lane order tracking
  vacant _ hm := by cases hm
  once m k t' _ _ hm hk := by
    have heldVisit {j : Fin 4} (hj : j ≠ n) : (t.lane j).heldVisit = (s.lane j).heldVisit :=
      (Lane.tie_eq (others j hj).1).2.2.1
    by_cases em : m = n
    · by_cases ek : k = n
      · rw [em, ek]
      · rw [em] at hm
        rw [heldVisit ek] at hk
        exact absurd hk (once t' hm k ek)
    · rw [heldVisit em] at hm
      by_cases ek : k = n
      · rw [ek] at hk
        exact absurd hm (once t' hk m em)
      · rw [heldVisit ek] at hk
        exact h.once m k t' (fun e => em (hx m e)) (fun e => ek (hx k e)) hm hk
  loading hs m := by
    rw [status] at hs
    by_cases hm : m = n
    · exact hm ▸ closed hs
    · exact (Lane.tie_eq (others m hm).1).1.trans (h.loading hs m)

/-- R1, R5, R88: the laws after the records have moved under lanes that stand; where `y` names a lane its record has
left it. -/
theorem LawfulBut.records (h : LawfulBut x s) (books : BooksLawful t) (wider : ∀ m, x = some m → y = some m)
    (lanes : ∀ m, (t.lane m).tie = (s.lane m).tie)
    (barriers : ∀ m, (t.barrier m).order = (s.barrier m).order ∧ (t.barrier m).tracking = (s.barrier m).tracking)
    (same : ∀ m, y ≠ some m → SameFor s.visit t.visit m (s.lane m).heldVisit)
    (vacant : ∀ m, y = some m → ∀ slot v, t.visit slot = some v → v.lane ≠ some m)
    (status : t.loader.status = s.loader.status) : LawfulBut y t where
  books := books
  lanes m hm := (h.lanes m fun e => hm (wider m e)).transport (same m hm) (lanes m) (barriers m).1 (barriers m).2
  vacant := vacant
  once m k t' hm hk em ek := by
    rw [(Lane.tie_eq (lanes m)).2.2.1] at em
    rw [(Lane.tie_eq (lanes k)).2.2.1] at ek
    exact h.once m k t' (fun e => hm (wider m e)) (fun e => hk (wider k e)) em ek
  loading hs m := (Lane.tie_eq (lanes m)).1.trans (h.loading (status ▸ hs) m)

/-- R5: where no record is bound to a lane, the laws hold but for that lane. -/
theorem LawfulBut.leave (h : LawfulBut none s) (none : ∀ slot v, s.visit slot = some v → v.lane ≠ some n) :
    LawfulBut (some n) s :=
  h.records h.books (by simp) (fun _ => rfl) (fun _ => ⟨rfl, rfl⟩) (fun m _ => .refl _ _ _)
    (fun m e => by cases e; exact none) rfl

/-- R5: no record is bound to a lane whose state names none. -/
theorem LawfulBut.unbound (h : LawfulBut x s) (hx : x ≠ some n) (has : (s.lane n).state.hasVisit = false) (slot : Nat)
    (v : Visit) (hv : s.visit slot = some v) : v.lane ≠ some n := by
  intro lane
  have := ((h.lanes n hx).visit slot v hv lane).1
  rw [has] at this
  cases this

theorem LawfulBut.of_quiet (h : LawfulBut x s) (q : Quiet s t) : LawfulBut x t := by
  refine h.records (q.books h.books) (fun m e => e) q.lanes (fun m => ?_) (fun m _ => .of_ties q.visits) ?_ q.status
  · obtain ⟨order, tracking, -, -⟩ := Barrier.tie_eq (q.barriers m)
    exact ⟨order, tracking⟩
  · intro m e slot w hw lane
    obtain ⟨v, hv, tie⟩ := q.visit_of hw
    exact h.vacant m e slot v hv ((Visit.tie_eq tie).2.1 ▸ lane)

/-! ### What a chain of operations keeps -/

/-- The laws hold (but for the lane `x`, if any), and since `s` no barrier has been ordered to RAISE anew, nor turned to
RAISING. -/
structure Kept (x : Option (Fin 4)) (s u : State) : Prop where
  law  : LawfulBut x u
  calm : Calm s u

theorem Kept.refl (h : LawfulBut x s) : Kept x s s := ⟨h, .refl s⟩

theorem Kept.quiet (h : Kept x s u) (q : Quiet u t) : Kept x s t := ⟨h.law.of_quiet q, h.calm.trans q.calm⟩

theorem Kept.then (h : Kept x s u) (h' : Kept y u t) : Kept y s t := ⟨h'.law, h.calm.trans h'.calm⟩

end Sys2Proof.Machine
end

section
/-! Operations that the laws do not read: the frames, and records revised in what no law's counts speak of. -/

namespace Sys2Proof.Machine

/-! ### A record revised in what no lane's law reads -/

section

variable {s t u : State} {n : Fin 4} {slot : Nat} {v w : Visit}

theorem Visit.standsAs_eq (h : w.tie = v.tie) : w.standsAs = v.standsAs := by
  obtain ⟨state, -, -, prior, -⟩ := Visit.tie_eq h
  rw [standsAs, standsAs, state, prior]

theorem Visit.finished_eq (h : w.tie = v.tie) : w.finished = v.finished := by
  obtain ⟨state, -, -, -, mark⟩ := Visit.tie_eq h
  rw [finished, finished, state, mark]

theorem Visit.inProgress_iff (h : w.tie = v.tie) : w.InProgress ↔ v.InProgress := by
  rw [InProgress, InProgress, Visit.finished_eq h, (Visit.tie_eq h).1]

/-- R12, R26: what a revision of a record that no lane's law reads leaves of it. -/
structure Retouches (v w : Visit) : Prop where
  tie         : w.tie = v.tie
  reason      : w.reason = v.reason
  later       : v.state ≠ .held → w.later = v.later
  kind        : w.kind = v.kind
  permit      : w.permit = v.permit
  reservation : w.reservation = v.reservation
  tag         : w.tag = v.tag
  vehicle     : w.vehicle = v.vehicle
  places      : v.weighings.length ≤ 6 → w.weighings.length ≤ 6
  legal       : (∀ x ∈ v.weighings, x.legal = true → x.result = .complete) →
    ∀ x ∈ w.weighings, x.legal = true → x.result = .complete

theorem Retouches.lawful (r : Retouches v w) (h : VisitLawful v) : VisitLawful w := by
  obtain ⟨state, lane, ticket, prior, mark⟩ := Visit.tie_eq r.tie
  have stands := Visit.standsAs_eq r.tie
  constructor
  · rw [stands, ticket]
    exact h.named
  · rw [ticket]
    exact h.ticket
  · rw [lane, state]
    exact h.bound
  · rw [stands, state, r.reason]
    exact h.held
  · rw [state]
    intro hs
    rw [prior, r.reason, r.later hs]
    exact h.free hs
  · rw [stands, mark]
    exact h.outside
  · rw [stands, state, mark]
    exact h.inside
  · rw [r.permit, r.kind]
    exact h.permit
  · rw [stands, r.kind, r.reservation]
    exact h.reserved
  · exact r.places h.places
  · exact r.legal h.legal

theorem Retouches.revises (r : Retouches v w) (h : BooksLawful s) (hv : s.visit slot = some v) :
    Revises s slot v w where
  stands := hv
  lawful := r.lawful (h.visits.each slot v hv).2
  tag := r.tag
  vehicle := r.vehicle
  permit := r.permit
  ticket := .inl (Visit.tie_eq r.tie).2.2.1
  booked hb := .inl ((Visit.tie_eq r.tie).1 ▸ hb)
  progress hp := .inl ((Visit.inProgress_iff r.tie).mp hp)
  finished hf := (Visit.finished_eq r.tie).trans hf

/-- R1: the tables stay canonical where a record is written and the registers stand. -/
theorem TablesCanonical.write (h : TablesCanonical s) (records : t.vt.records = s.vt.records.put slot w)
    (vehicles : t.vehicles = s.vehicles) (permits : t.permits = s.permits) : TablesCanonical t :=
  ⟨records ▸ Table.put_wf _ _ h.records, vehicles ▸ h.vehicles, permits ▸ h.permits⟩

/-- R25: a record that is finished already stands on the Completion List. -/
theorem BooksLawful.completion_eq (h : BooksLawful s) (hv : s.visit slot = some v)
    (hf : w.finished = true → v.finished = true) :
    s.vt.completion = if w.finished = true then withChange s.vt.completion slot else s.vt.completion := by
  split
  · rename_i finished
    rw [withChange, if_pos ((h.visits.finished slot).mpr ⟨v, hv, hf finished⟩)]
  · rfl

/-- R26: a record is revised in what no lane's law reads. -/
theorem Quiet.retouch (h : Quiet s u) (hv : u.visit slot = some v) (r : Retouches v w) :
    Quiet s ((u.setVisit slot w).touch slot) := by
  refine h.trans ⟨fun books => ?_, fun k => ?_, fun n => ?_, fun n => ?_, ?_⟩
  · refine books.revise_record (r.revises books hv) (books.tables.write (slot := slot) (w := w) (by simp) (by simp)
      (by simp))
      (by simp) ?_ (by rw [State.touch_nextTicket]; rfl) ?_ (by simp) (by simp) r.reservation
    · rw [(Visit.tie_eq r.tie).2.2.2.2]
      simp
    · rw [State.touch_completion]
      exact books.completion_eq hv fun hf => (Visit.finished_eq r.tie) ▸ hf
  · rw [State.visit_touch, State.visit_setVisit]
    split
    · rename_i hk
      rw [← hk, hv, Option.map_some, Option.map_some, r.tie]
    · rfl
  · rw [State.lane_touch, State.lane_setVisit]
  · rw [State.barrier_touch, State.barrier_setVisit]
  · rw [State.touch_loader, State.setVisit_loader]

/-- R128: the entries' standings alone differ, or entries are added where there is room. -/
theorem Retouches.of_weighings {ws : List Weighing} (places : v.weighings.length ≤ 6 → ws.length ≤ 6)
    (legal : (∀ x ∈ v.weighings, x.legal = true → x.result = .complete) →
      ∀ x ∈ ws, x.legal = true → x.result = .complete) : Retouches v { v with weighings := ws } :=
  ⟨rfl, rfl, fun _ => rfl, rfl, rfl, rfl, rfl, rfl, places, legal⟩

end

/-! ### The frames -/

namespace Quiet

variable {s u : State} {n : Fin 4}

theorem frame (h : Quiet s u) {v : State} (books : v.books = u.books) (lanes : v.lanes = u.lanes)
    (barriers : v.barriers = u.barriers) (loader : v.loader = u.loader) : Quiet s v :=
  h.trans (of_frame books lanes barriers loader)

theorem setLane (h : Quiet s u) {l : Lane} (tie : l.tie = (u.lane n).tie) : Quiet s (u.setLane n l) :=
  h.trans <| of_books rfl (fun m => by
    rw [State.lane_setLane]
    split
    · rename_i e
      rw [tie, e]
    · rfl) (fun _ => rfl) rfl

theorem setBarrier (h : Quiet s u) {b : Barrier} (tie : b.tie = (u.barrier n).tie) : Quiet s (u.setBarrier n b) :=
  h.trans <| of_books rfl (fun _ => rfl) (fun m => by
    rw [State.barrier_setBarrier]
    split
    · rename_i e
      rw [tie, e]
    · rfl) rfl

theorem setDeck (h : Quiet s u) {d : Deck} : Quiet s (u.setDeck n d) := h.frame rfl rfl rfl rfl
theorem setEngine (h : Quiet s u) {e : Engine} : Quiet s (u.setEngine n e) := h.frame rfl rfl rfl rfl
theorem setUnit (h : Quiet s u) {k : Fin 8} {r : UnitRec} : Quiet s (u.setUnit k r) := h.frame rfl rfl rfl rfl
theorem setDetector (h : Quiet s u) {k : DetectorKind} {d : Detector} : Quiet s (u.setDetector n k d) := by
  cases k <;> exact h.setUnit
theorem setLoop (h : Quiet s u) {l : Loop} : Quiet s { u with loop := l } := h.frame rfl rfl rfl rfl
theorem setClock (h : Quiet s u) {c : Clock} : Quiet s { u with clock := c } := h.frame rfl rfl rfl rfl
theorem setPort (h : Quiet s u) {p : Port} : Quiet s { u with port := p } := h.frame rfl rfl rfl rfl
theorem spend (h : Quiet s u) {k : Nat} : Quiet s { u with free := k } := h.frame rfl rfl rfl rfl
theorem latch (h : Quiet s u) {src : Source} {bit : Nat} : Quiet s (u.latch src bit) := h.frame rfl rfl rfl rfl
theorem followLevels (h : Quiet s u) : Quiet s u.followLevels := h.frame (by simp) (by simp) (by simp) (by simp)
theorem recordOutcome (h : Quiet s u) {o : LastOutcome} : Quiet s (u.recordOutcome n o) := h.setEngine.latch
theorem goOn (h : Quiet s u) {c : Capture} : Quiet s (u.goOn n c) := h.setEngine
theorem endUnreported (h : Quiet s u) : Quiet s (u.endUnreported n) := h.setEngine
theorem captureImage (h : Quiet s u) {r : LaneReport} : Quiet s (u.captureImage n r) := by
  unfold State.captureImage
  split
  · exact h
  · exact h.goOn

theorem dropFront (h : Quiet s u) : Quiet s (u.dropFront n) := h.setLane rfl
theorem refuseAtLane (h : Quiet s u) {st : Status} {tag : Tag} : Quiet s (u.refuseAtLane n st tag) := by
  unfold State.refuseAtLane
  exact (h.setLane (by rfl)).latch

theorem trackIfDue (h : Quiet s u) {p : DeckParams} {raw : Nat} {kg : Int} : Quiet s (u.trackIfDue n p raw kg) := by
  unfold State.trackIfDue
  split
  · unfold State.trackZero
    dsimp only
    split
    · exact h.setDeck.latch
    · exact h.setDeck
  · exact h

/-! ### Captures that end without letting a visit pass (R112, R124, R125) -/

theorem addLater (h : Quiet s u) {slot : Nat} {v : Visit} {r : HoldReason} (hv : u.visit slot = some v)
    (held : v.state = .held) : Quiet s (u.addLater slot v r) := by
  unfold State.addLater
  split
  · exact h
  · exact h.retouch hv ⟨rfl, rfl, fun hs => absurd held hs, rfl, rfl, rfl, rfl, rfl, id, id⟩

end Quiet

end Sys2Proof.Machine
end

section
/-! Captures that end without letting a visit pass: the laws read nothing of them (R112, R124 to R128). -/

namespace Sys2Proof.Machine

variable {s t : State} {n : Fin 4} {slot : Nat} {v : Visit}

/-! ### Entries -/

/-- R127, R128: an entry is added to a list that has room. -/
theorem Retouches.append (room : v.listFull = false) {w : Weighing} (legal : w.legal = true → w.result = .complete) :
    Retouches v { v with weighings := v.weighings ++ [w] } := by
  have room : v.weighings.length < 6 := Nat.not_le.mp fun h =>
      by simp [Visit.listFull, Config.weighingPlaces, h] at room
  refine .of_weighings (fun _ => by simpa using room) fun before x hx => ?_
  rcases List.mem_append.mp hx with hx | hx
  · exact before x hx
  · rw [List.mem_singleton] at hx
    exact hx ▸ legal

theorem mem_withdrawEarlier {role : Role} {x : Weighing} (h : x ∈ withdrawEarlier v role) :
    ∃ y ∈ v.weighings, x.legal = y.legal ∧ x.result = y.result := by
  obtain ⟨⟨y, k⟩, hy, rfl⟩ := List.mem_map.mp h
  refine ⟨y, List.fst_mem_of_mem_zipIdx hy, ?_⟩
  by_cases withdrawn : withdrawnBy v role k y = true <;> simp [withdrawn]

theorem length_withdrawEarlier (role : Role) : (withdrawEarlier v role).length = v.weighings.length := by
  simp [withdrawEarlier]

/-- R128: a VALID COMPLETE entry is added and the earlier ones of its role are withdrawn. -/
theorem Retouches.supersede (room : v.listFull = false) {w : Weighing} {role : Role}
    (legal : w.legal = true → w.result = .complete) :
    Retouches v { v with weighings := withdrawEarlier v role ++ [w] } := by
  have room : v.weighings.length < 6 := Nat.not_le.mp fun h =>
      by simp [Visit.listFull, Config.weighingPlaces, h] at room
  refine .of_weighings (fun _ => by simpa [length_withdrawEarlier] using room) fun before x hx => ?_
  rcases List.mem_append.mp hx with hx | hx
  · obtain ⟨y, hy, hl, hr⟩ := mem_withdrawEarlier hx
    rw [hl, hr]
    exact before y hy
  · rw [List.mem_singleton] at hx
    exact hx ▸ legal

/-- R128: what an entry that reaches the Visit Table may come to. -/
inductive Arrives (s : State) (n : Fin 4) (ticket : Nat) (w : Weighing) : State → Prop
  | quiet {t : State} : Quiet s t → Arrives s n ticket w t
  | counts {slot : Nat} {v : Visit} {t : State} : s.byTicket ticket = some (slot, v) → v.lane = some n →
      roleOf v.state = some w.role → w.result = .complete → Quiet s t →
      t.visit slot = some { v with weighings := withdrawEarlier v w.role ++ [{ w with standing := .valid }] } →
      (∀ k, t.lane k = s.lane k) → (∀ k, t.barrier k = s.barrier k) →
      Arrives s n ticket w (t.entryEffect n slot w.role)

theorem State.weighingArrives_arrives (tables : s.vt.records.wf) (n : Fin 4) (ticket : Nat) {w : Weighing}
    (legal : w.legal = true → w.result = .complete) : Arrives s n ticket w (s.weighingArrives n ticket w) := by
  unfold weighingArrives
  split
  · exact .quiet (.refl s)
  · rename_i slot v found
    have visit := (byTicket_visit tables found).1
    split
    · exact .quiet (.refl s)
    · rename_i room
      have room : v.listFull = false := by simpa using room
      split
      · rename_i bound
        split
        · rename_i complete
          exact .counts found bound.1 bound.2 complete
            ((Quiet.refl s).retouch visit (.supersede room (w := { w with standing := .valid }) legal)) (by simp)
                (by simp)
            (by simp)
        · exact .quiet ((Quiet.refl s).retouch visit (.append room (w := { w with standing := .valid }) legal))
      · exact .quiet ((Quiet.refl s).retouch visit (.append room (w := { w with standing := .withdrawn }) legal))

/-- R128: a PARTIAL entry changes the list alone. -/
theorem weighingArrives_quiet (tables : s.vt.records.wf) (n : Fin 4) (ticket : Nat) {w : Weighing}
    (result : w.result = .part) (illegal : w.legal = false) : Quiet s (s.weighingArrives n ticket w) := by
  have arrives := s.weighingArrives_arrives tables n ticket (w := w) (by simp [illegal])
  generalize s.weighingArrives n ticket w = t at arrives
  cases arrives with
  | quiet h => exact h
  | counts _ _ _ complete => rw [result] at complete; cases complete

/-! ### Captures that end -/

theorem settleGathered_part_quiet (tables : s.vt.records.wf) (n : Fin 4) (c : Capture) (g : Gathered) :
    Quiet s (s.settleGathered n c true g) := by
  have ended : Quiet s (s.setEngine n { s.engine n with run := none }) := (Quiet.refl s).setEngine
  unfold State.settleGathered
  dsimp only
  split
  · exact (ended.trans (weighingArrives_quiet (by simpa using tables) n _ rfl rfl)).recordOutcome
  · exact (ended.setLane (by rfl)).recordOutcome

theorem settleGathered_test_quiet {c : Capture} (test : c.purpose = .test) (n : Fin 4) (p : Bool) (g : Gathered) :
    Quiet s (s.settleGathered n c p g) := by
  unfold State.settleGathered
  simp only [test]
  exact ((Quiet.refl s).setEngine.setLane (by rfl)).recordOutcome

theorem settleFailed_test_quiet {c : Capture} (test : c.purpose = .test) (n : Fin 4) (r : FailReason) :
    Quiet s (s.settleFailed n c r) := by
  unfold State.settleFailed
  simp only [test]
  exact ((Quiet.refl s).setEngine.setLane (by rfl)).recordOutcome

theorem abortCapture_quiet (tables : s.vt.records.wf) (n : Fin 4) : Quiet s (s.abortCapture n) := by
  unfold State.abortCapture
  split
  · rfl
  · split
    · exact settleGathered_part_quiet tables n _ _
    · split
      · exact (Quiet.refl s).endUnreported
      · rename_i test
        exact settleFailed_test_quiet test n _

theorem truncateCapture_quiet (tables : s.vt.records.wf) (n : Fin 4) : Quiet s (s.truncateCapture n) := by
  unfold State.truncateCapture
  split
  · rfl
  · split
    · exact settleGathered_part_quiet tables n _ _
    · exact (Quiet.refl s).endUnreported

/-- R113, R115: a capture that starts on a deck that weighs. -/
theorem goOn_image_quiet (c : Capture) (r : LaneReport) : Quiet s ((s.goOn n c).captureImage n r) :=
  (Quiet.refl s).goOn.captureImage

end Sys2Proof.Machine
end

section
/-! A lane that lets go of its visit (R62, R63, R66, R68): the hold of the bound visit, and the entries to RELEASING,
FAULT and MAINTENANCE. -/

namespace Sys2Proof.Machine

variable {s t u : State} {n : Fin 4} {x : Option (Fin 4)} {slot : Nat} {v : Visit}

/-! ### Records by their tickets -/

/-- R1, R7: a ticket names the one record that holds it. -/
theorem BooksLawful.byTicket (h : BooksLawful s) {ticket : Nat} (hv : s.visit slot = some v)
    (ht : v.ticket = some ticket) : s.byTicket ticket = some (slot, v) := by
  obtain ⟨⟨k, w⟩, found⟩ := Option.isSome_iff_exists.mp (State.byTicket_isSome_iff.mpr
    ⟨_, Table.mem_of_get hv, by simpa using ht⟩)
  obtain ⟨hw, hticket⟩ := State.byTicket_visit h.tables.records found
  have same := h.visits.tickets k slot w v ticket hw hv hticket ht
  subst same
  rw [hv] at hw
  cases hw
  exact found

theorem VisitLawful.standsAs_of_bound (_ : VisitLawful v) (bound : v.state.isBound = true) : v.standsAs = v.state := by
  rw [Visit.standsAs, if_neg]
  intro e
  rw [e] at bound
  cases bound

/-- R7: a bound record holds a ticket. -/
theorem VisitLawful.ticket_of_bound (h : VisitLawful v) (bound : v.state.isBound = true) : ∃ ticket,
    v.ticket = some ticket := by
  cases ht : v.ticket with
  | some ticket => exact ⟨ticket, rfl⟩
  | none =>
    have booked := h.named.mp ht
    rw [h.standsAs_of_bound bound] at booked
    rw [booked] at bound
    cases bound

/-- R5: a record on a lane is in one of the bound states. -/
theorem VisitLawful.isBound_of_lane (h : VisitLawful v) (lane : v.lane = some n) : v.state.isBound = true := by
  rw [← h.bound, lane]
  rfl

/-- R5, R53: what the record bound to a lane satisfies. -/
structure BoundHere (s : State) (n : Fin 4) (slot : Nat) (v : Visit) (ticket : Nat) : Prop where
  stands : s.visit slot = some v
  lane   : v.lane = some n
  bound  : (s.lane n).bound = some ticket
  state  : v.state.isBound = true
  found  : s.byTicket ticket = some (slot, v)
  named  : v.ticket = some ticket

theorem LawfulBut.boundHere (h : LawfulBut x s) (hx : x ≠ some n) (hv : s.visit slot = some v)
    (lane : v.lane = some n) :
    ∃ ticket, BoundHere s n slot v ticket := by
  have lawful := (h.books.visits.each slot v hv).2
  have isBound := lawful.isBound_of_lane lane
  obtain ⟨ticket, ht⟩ := lawful.ticket_of_bound isBound
  have bound := ((h.lanes n hx).visit slot v hv lane).2.1
  exact ⟨ticket, hv, lane, bound.trans ht, isBound, h.books.byTicket hv ht, ht⟩

/-- R5: a lane whose state names a visit has it. -/
theorem LawfulBut.boundHere_of_hasVisit (h : LawfulBut x s) (hx : x ≠ some n) (has : (s.lane n).state.hasVisit = true) :
    ∃ slot v ticket, BoundHere s n slot v ticket := by
  obtain ⟨slot, v, hv, lane⟩ := (h.lanes n hx).lane has
  obtain ⟨ticket, here⟩ := h.boundHere hx hv lane
  exact ⟨slot, v, ticket, here⟩

theorem LawfulBut.hasVisit_of_bound (h : LawfulBut x s) (hx : x ≠ some n) {ticket : Nat}
    (bound : (s.lane n).bound = some ticket) : (s.lane n).state.hasVisit = true := by
  by_contra has
  have := (h.lanes n hx).free (by simpa using has)
  rw [bound] at this
  cases this

theorem LawfulBut.boundHere_of_bound (h : LawfulBut x s) (hx : x ≠ some n) {ticket : Nat}
    (bound : (s.lane n).bound = some ticket) : ∃ slot v, BoundHere s n slot v ticket := by
  obtain ⟨slot, v, t, here⟩ := h.boundHere_of_hasVisit hx (h.hasVisit_of_bound hx bound)
  have := here.bound
  rw [bound] at this
  cases this
  exact ⟨slot, v, here⟩

/-- R5: the record that a lane's ticket finds is bound to the lane. -/
theorem LawfulBut.boundRecord (h : LawfulBut x s) (hx : x ≠ some n) (found : s.boundRecord n = some (slot, v)) :
    ∃ ticket, BoundHere s n slot v ticket := by
  unfold State.boundRecord at found
  split at found
  · cases found
  · rename_i ticket bound
    obtain ⟨k, w, here⟩ := h.boundHere_of_bound hx bound
    have := here.found
    rw [found] at this
    cases this
    exact ⟨ticket, here⟩

theorem LawfulBut.boundRecord_none (h : LawfulBut x s) (hx : x ≠ some n) (found : s.boundRecord n = none) :
    (s.lane n).state.hasVisit = false := by
  by_contra has
  obtain ⟨slot, v, ticket, here⟩ := h.boundHere_of_hasVisit hx (by simpa using has)
  rw [State.boundRecord, here.bound] at found
  simp only [here.found, reduceCtorEq] at found

/-- R73: no load is under way where a lane is not CLOSED. -/
theorem LawfulBut.awake (h : LawfulBut x s) (hs : (s.lane n).state ≠ .closed) : s.loader.status ≠ .loading :=
  fun loading => hs (h.loading loading n)

/-! ### One lane and its barrier move -/

theorem SameFor.of_books (books : t.books = s.books) (m : Fin 4) (held : Option Nat) :
    SameFor s.visit t.visit m held := by
  obtain ⟨vt, -, -⟩ := State.books_eq books
  have : t.visit = s.visit := by
    funext k
    rw [State.visit, vt, State.visit]
  rw [this]
  exact .refl _ _ _

theorem Calm.of_others (others : OtherLanesKept s t n) (here : CalmAt s t n) : Calm s t := fun m => by
  by_cases hm : m = n
  · exact hm ▸ here
  · obtain ⟨-, barrier, -, -⟩ := others m hm
    exact .of_tie (by rw [barrier])

/-- R5, R73, R88: the laws after one lane and its barrier have moved while the tables stand. -/
theorem LawfulBut.lane_moves (h : LawfulBut x s) (hx : ∀ m, x = some m → m = n) (others : OtherLanesKept s t n)
    (books : t.books = s.books) (status : t.loader = s.loader) (law : LaneLaw s.visit n (t.lane n) (t.barrier n))
    (once : ∀ k, (t.lane n).heldVisit = some k → ∀ m, m ≠ n → (s.lane m).heldVisit ≠ some k)
    (closed : s.loader.status = .loading → (t.lane n).state = .closed) : LawfulBut none t := by
  obtain ⟨vt, -, -⟩ := State.books_eq books
  have visits : t.visit = s.visit := by
    funext k
    rw [State.visit, vt, State.visit]
  refine h.at_lane hx (h.books.of_books books) (fun m hm => ?_) (fun m _ => .of_books books _ _) (visits ▸ law) once
    (by rw [status]) closed
  obtain ⟨lane, barrier, -, -⟩ := others m hm
  rw [lane, barrier]
  exact ⟨rfl, rfl, rfl⟩

theorem Kept.lane_moves (h : Kept x s u) (hx : ∀ m, x = some m → m = n) (others : OtherLanesKept u t n)
    (books : t.books = u.books) (status : t.loader = u.loader) (law : LaneLaw u.visit n (t.lane n) (t.barrier n))
    (once : ∀ k, (t.lane n).heldVisit = some k → ∀ m, m ≠ n → (u.lane m).heldVisit ≠ some k)
    (closed : u.loader.status = .loading → (t.lane n).state = .closed) (calm : CalmAt u t n) : Kept none s t :=
  ⟨h.law.lane_moves hx others books status law once closed, h.calm.trans (.of_others others calm)⟩

/-- R77: an order LOWER changes the order alone, and perhaps the gate-clear timer. -/
theorem Barrier.giveOrder_lower (b : Barrier) (travel gate : Nat) :
    (b.giveOrder .lower travel gate).tie = (.lower, b.tracking, b.state, b.image) := by
  cases h : b.state <;> simp only [giveOrder, h, Barrier.tie]
  split
  · rename_i lower
    rw [lower, h]
  · rfl

/-! ### A lane without its visit -/

/-- R88, R173: a lane may watch for a ticket: its HELD record fits the lane, and no other lane watches for it. -/
def MayWatch (s : State) (n : Fin 4) (ticket : Nat) : Prop :=
  (∃ slot v, Awaited s.visit (s.lane n).mode ticket slot v) ∧ ∀ m, m ≠ n → (s.lane m).heldVisit ≠ some ticket

theorem MayWatch.of_quiet {ticket : Nat} (h : MayWatch s n ticket) (q : Quiet s t) : MayWatch t n ticket := by
  obtain ⟨⟨slot, v, awaited⟩, others⟩ := h
  obtain ⟨w, hw, tie⟩ := q.of_visit awaited.stands
  refine ⟨⟨slot, w, ?_⟩, fun m hm => ?_⟩
  · rw [(Lane.tie_eq (q.lanes n)).2.2.2.1]
    exact awaited.of_tie hw tie
  · rw [(Lane.tie_eq (q.lanes m)).2.2.1]
    exact others m hm

/-- R62, R65: a lane whose visit has left it: the visit it still names, or was watching for, may be watched for. -/
structure Leaving (n : Fin 4) (s u : State) : Prop where
  kept  : Kept (some n) s u
  watch : ∀ ticket, State.resetHeld (u.lane n) = some ticket → MayWatch u n ticket

theorem resetHeld_eq {l m : Lane} (h : m.tie = l.tie) : State.resetHeld m = State.resetHeld l := by
  obtain ⟨state, bound, heldVisit, -, -⟩ := Lane.tie_eq h
  rw [State.resetHeld, State.resetHeld, state, bound, heldVisit]

theorem Leaving.quiet (h : Leaving n s u) (q : Quiet u t) : Leaving n s t :=
  ⟨h.kept.quiet q, fun ticket ht => (h.watch ticket (resetHeld_eq (q.lanes n) ▸ ht)).of_quiet q⟩

/-- R65: a lane that has no visit, whatever it watches for. -/
theorem Kept.leaving (h : Kept none s u) (has : (u.lane n).state.hasVisit = false) : Leaving n s u := by
  refine ⟨⟨h.law.leave fun slot v hv => h.law.unbound (by simp) has slot v hv, h.calm⟩, fun ticket ht => ?_⟩
  have law := h.law.lanes n (by simp)
  rw [State.resetHeld, law.free has] at ht
  dsimp only at ht
  split at ht
  · exact ⟨(law.watched ticket ht).2, fun m hm e => hm (h.law.once m n ticket (by simp) (by simp) e ht)⟩
  · cases ht

end Sys2Proof.Machine
end

section
/-! A lane that lets go of its visit, continued: what the hold claim and the lane's own change leave. -/

namespace Sys2Proof.Machine

variable {s t u : State} {n : Fin 4} {x : Option (Fin 4)} {slot : Nat} {v w : Visit} {r : HoldReason}

/-! ### The hold claim (R169) -/

/-- R170: the states a record may be held from. -/
def VisitState.Holdable (st : VisitState) : Prop := st.isBound = true ∨ st = .booked ∨ st = .inYard

theorem VisitState.Holdable.ne_held {st : VisitState} (h : st.Holdable) : st ≠ .held := by
  rintro rfl
  simp [Holdable, isBound] at h

theorem VisitState.Holdable.unfinished (h : v.state.Holdable) : v.finished = false := by
  cases hs : v.state <;> simp [hs, Holdable, isBound, Visit.finished] at h ⊢

theorem heldVisit_standsAs (v : Visit) (r : HoldReason) : (State.heldVisit v r).standsAs = v.state := rfl

/-- R169, R172: a record as a hold leaves it is lawful by itself. -/
theorem VisitLawful.heldVisit (h : VisitLawful v) (hold : v.state.Holdable) : VisitLawful (State.heldVisit v r) := by
  have stands : v.standsAs = v.state := if_neg hold.ne_held
  constructor
  case named =>
    rw [heldVisit_standsAs, ← stands]
    exact h.named
  case ticket => exact h.ticket
  case bound => rfl
  case held => exact fun _ => ⟨rfl, hold⟩
  case free => exact fun ne => absurd rfl ne
  case outside =>
    rw [heldVisit_standsAs, ← stands]
    exact h.outside
  case inside =>
    rw [heldVisit_standsAs]
    rintro (inYard | reweighing | exiting | cleared)
    · exact h.inside (.inl (stands.trans inYard))
    · exact h.inside (.inr (.inl (stands.trans reweighing)))
    · cases exiting
    · cases cleared
  case permit => exact h.permit
  case reserved =>
    rw [heldVisit_standsAs, ← stands]
    exact h.reserved
  case places => exact h.places
  case legal => exact h.legal

/-- R5, R172: the in-yard mark of a bound record goes with the mode of its lane. -/
theorem VisitLawful.mark_of_fits (h : VisitLawful v) {mode : LaneMode} (bound : v.state.isBound = true)
    (fits : State.modeFits v.state mode = true) : v.inYard = decide (mode ≠ .entry) := by
  have stands := h.standsAs_of_bound bound
  cases hs : v.state <;> cases mode <;> simp [hs, State.modeFits] at fits
  · simpa using h.outside (.inr (.inl (stands.trans hs)))
  · simpa using h.inside (.inr (.inl (stands.trans hs)))
  · simpa using h.inside (.inr (.inr (.inl hs)))
  · simpa using h.inside (.inr (.inr (.inr hs)))

/-- R169: the books after a hold claim. -/
theorem BooksLawful.hold (h : BooksLawful s) (hv : s.visit slot = some v) (hold : v.state.Holdable)
    (alone : v.state = .booked → ∀ k u, s.visit k = some u → u.tag = v.tag → ¬ u.InProgress) :
    BooksLawful ((s.setVisit slot (State.heldVisit v r)).touch slot) := by
  have lawful := (h.visits.each slot v hv).2
  refine h.revise_record (v := v) (w := State.heldVisit v r) ⟨hv, lawful.heldVisit hold, rfl, rfl, rfl, .inl rfl,
      nofun, fun _ => ?_, fun hf => ?_⟩
    (h.tables.write (slot := slot) (w := State.heldVisit v r) (by simp) (by simp) (by simp)) (by simp)
    (by rw [State.touch_occupancy, State.setVisit_occupancy]; exact (sub_add_cancel _ _).symm)
    (by rw [State.touch_nextTicket]; rfl) (by rw [State.touch_completion]; rfl) (by simp)
    (by simp) rfl
  · by_cases booked : v.state = .booked
    · exact .inr (alone booked)
    · exact .inl ⟨booked, hold.unfinished⟩
  · rw [hold.unfinished] at hf
    cases hf

theorem Quiet.of_hold (s : State) (slot : Nat) (v : Visit) (r : HoldReason) (src : Source) (bit : Nat) :
    Quiet ((s.setVisit slot (State.heldVisit v r)).touch slot)
      ((((s.setVisit slot (State.heldVisit v r)).touch slot).latch src bit).followLevels) :=
  (Quiet.refl _).latch.followLevels

/-- R62, R169: the hold of the record bound to a lane. -/
theorem Kept.holdBound (h : Kept none s u) : Leaving n s (u.holdBound n r) := by
  unfold State.holdBound
  split
  · rename_i found
    exact h.leaving (h.law.boundRecord_none (by simp) found)
  · rename_i slot v found
    obtain ⟨ticket, here⟩ := h.law.boundRecord (by simp) found
    have hold : v.state.Holdable := .inl here.state
    rw [State.holdClaim_eq here.stands hold.ne_held]
    refine Leaving.quiet ?_ (.of_hold _ _ _ _ _ _)
    have notBooked : v.state ≠ .booked := fun e => by
      have := here.state
      rw [e] at this
      cases this
    have law := h.law.lanes n (by simp)
    have bound := law.visit slot v here.stands here.lane
    have visits (k : Nat) (hk : k ≠ slot) :
        ((u.setVisit slot (State.heldVisit v r)).touch slot).visit k = u.visit k := by
      rw [State.visit_touch, State.visit_setVisit_of_ne _ _ hk]
    have self : ((u.setVisit slot (State.heldVisit v r)).touch slot).visit slot = some (State.heldVisit v r) := by simp
    have lane (m : Fin 4) : ((u.setVisit slot (State.heldVisit v r)).touch slot).lane m = u.lane m := by simp
    have barrier (m : Fin 4) : ((u.setVisit slot (State.heldVisit v r)).touch slot).barrier m = u.barrier m := by simp
    have books := h.law.books.hold (r := r) here.stands hold fun e => absurd e notBooked
    have loader : ((u.setVisit slot (State.heldVisit v r)).touch slot).loader = u.loader := by simp
    generalize (u.setVisit slot (State.heldVisit v r)).touch slot = t at visits self lane barrier books loader
    constructor
    · refine ⟨h.law.records books (by simp) (fun m => by rw [lane]) (fun m => by rw [barrier]; exact ⟨rfl, rfl⟩)
        (fun m hm => ?_) ?_ (by rw [loader]), h.calm.trans fun m => .of_tie (by rw [barrier])⟩
      · refine .of_elsewhere visits (fun w hw => ?_) fun w hw => ?_
        · rw [here.stands] at hw
          cases hw
          exact ⟨fun e => hm (here.lane.symm.trans e), fun _ _ _ => hold.ne_held⟩
        · rw [self] at hw
          cases hw
          nofun
      · rintro m ⟨⟩ k w hw
        by_cases hk : k = slot
        · rw [hk, self] at hw
          cases hw
          nofun
        · rw [visits k hk] at hw
          intro e
          obtain ⟨ticket', there⟩ := h.law.boundHere (by simp) hw e
          have same := there.bound
          rw [here.bound] at same
          cases same
          have := there.found
          rw [here.found] at this
          cases this
          exact hk rfl
    · intro x hx
      rw [lane, State.resetHeld, here.bound] at hx
      cases hx
      refine ⟨⟨slot, _, self, here.named, rfl, ⟨v.state, rfl, ?_⟩, ?_⟩, fun m _ e => ?_⟩
      · rw [lane]
        exact bound.2.2
      · rw [lane]
        exact (h.law.books.visits.each slot v here.stands).2.mark_of_fits here.state bound.2.2
      · rw [lane] at e
        obtain ⟨-, k, w, awaited⟩ := (h.law.lanes m (by simp)).watched ticket e
        have := h.law.books.visits.tickets k slot w v ticket awaited.stands here.stands awaited.ticket here.named
        subst this
        have same := awaited.stands
        rw [here.stands] at same
        cases same
        exact hold.ne_held awaited.held

/-- R62, R171: the visit of such a lane is held again. -/
theorem Leaving.holdBound (h : Leaving n s u) : Leaving n s (u.holdBound n r) := by
  unfold State.holdBound
  split
  · exact h
  · rename_i slot v found
    unfold State.boundRecord at found
    split at found
    · cases found
    · rename_i ticket bound
      obtain ⟨⟨k, w, awaited⟩, -⟩ := h.watch ticket (by rw [State.resetHeld, bound])
      have same := h.kept.law.books.byTicket awaited.stands awaited.ticket
      rw [found] at same
      cases same
      have claim : u.holdClaim slot r = u.addLater slot v r := by
        simp only [State.holdClaim, awaited.stands, awaited.held, if_true]
      rw [claim]
      exact h.quiet ((Quiet.refl u).addLater awaited.stands awaited.held)

end Sys2Proof.Machine
end

section
/-! A lane that its visit has left enters RELEASING, FAULT or MAINTENANCE (R62, R63, R66, R68, R81). -/

namespace Sys2Proof.Machine

variable {s t u : State} {n : Fin 4} {slot : Nat} {v : Visit} {r : HoldReason}

/-! ### The lane's own change -/

theorem Kept.vacant (h : Kept (some n) s u) (slot : Nat) (v : Visit) (hv : u.visit slot = some v) : v.lane ≠ some n :=
  h.law.vacant n rfl slot v hv

/-- R63, R66, R68: a lane that its visit has left takes a state that names none, watching for nothing. -/
theorem Kept.settle (h : Kept (some n) s u) (awake : u.loader.status ≠ .loading) (others : OtherLanesKept u t n)
    (books : t.books = u.books) (loader : t.loader = u.loader) (state : (t.lane n).state.hasVisit = false)
    (bound : (t.lane n).bound = none) (heldVisit : (t.lane n).heldVisit = none)
    (order : (t.barrier n).order = .raise → (t.lane n).state = .maintenance)
    (tracking : (t.barrier n).tracking = .inactive) (calm : CalmAt u t n) : Kept none s t :=
  h.lane_moves (fun m e => (Option.some.inj e).symm) others books loader
    (.of_free state bound heldVisit h.vacant order tracking) (fun k hk => by rw [heldVisit] at hk; cases hk)
    (fun loading => absurd loading awake) calm

theorem Leaving.awake (h : Leaving n s u) (hs : (u.lane n).state ≠ .closed) : u.loader.status ≠ .loading :=
  h.kept.law.awake hs

/-- R77: a barrier that has been ordered to LOWER is calm. -/
theorem CalmAt.of_lower (order : (t.barrier n).order = .lower) (state : (t.barrier n).state = (s.barrier n).state)
    (image : (t.barrier n).image = (s.barrier n).image) : CalmAt s t n :=
  ⟨fun e => (by rw [order] at e; cases e), fun e => state ▸ e, image⟩

section

variable (b : Barrier) (travel gate : Nat)

@[simp] theorem Barrier.giveOrder_lower_tracking : (b.giveOrder .lower travel gate).tracking = b.tracking :=
  congrArg (fun t => t.2.1) (b.giveOrder_lower travel gate)

@[simp] theorem Barrier.giveOrder_lower_state : (b.giveOrder .lower travel gate).state = b.state :=
  congrArg (fun t => t.2.2.1) (b.giveOrder_lower travel gate)

@[simp] theorem Barrier.giveOrder_lower_image : (b.giveOrder .lower travel gate).image = b.image :=
  congrArg (fun t => t.2.2.2) (b.giveOrder_lower travel gate)

end

theorem Kept.enterFault (h : Kept (some n) s u) (awake : u.loader.status ≠ .loading) :
    Kept none s (u.enterFault n) := by
  have barrier : ((u.enterFault n).barrier n).tie = (.lower, .inactive, (u.barrier n).state, (u.barrier n).image) := by
    simp [State.enterFault, Barrier.tie]
  have others : OtherLanesKept u (u.enterFault n) n :=
    (OtherLanesKept.setLane u _).trans <| (OtherLanesKept.orderBarrier _ _).trans <|
      (OtherLanesKept.setTracking _ _ _).trans (OtherLanesKept.followLevels _)
  have lane : ((u.enterFault n).lane n).tie = (.fault, none, none, (u.lane n).mode, false) := by
    simp [State.enterFault, Lane.tie, Lane.unbind]
  simp only [Lane.tie, Barrier.tie, Prod.mk.injEq] at lane barrier
  obtain ⟨st, bound, heldVisit, -, -⟩ := lane
  obtain ⟨order, tracking, state, image⟩ := barrier
  exact h.settle awake others (by simp) rfl (by rw [st]; rfl) bound heldVisit (fun e => by rw [order] at e; cases e)
    tracking (.of_lower order state image)

theorem Kept.enterMaintenance (h : Kept (some n) s u) (awake : u.loader.status ≠ .loading) :
    Kept none s (u.enterMaintenance n) := by
  have barrier : (u.enterMaintenance n).barrier n = { u.barrier n with tracking := .inactive, abandon := none } := by
    simp [State.enterMaintenance]
  have others : OtherLanesKept u (u.enterMaintenance n) n :=
    (OtherLanesKept.setLane u _).trans <| (OtherLanesKept.setTracking _ _ _).trans (OtherLanesKept.followLevels _)
  have lane : ((u.enterMaintenance n).lane n).tie = (.maintenance, none, none, (u.lane n).mode, false) := by
    simp [State.enterMaintenance, Lane.tie, Lane.unbind]
  simp only [Lane.tie, Prod.mk.injEq] at lane
  obtain ⟨st, bound, heldVisit, -, -⟩ := lane
  refine h.settle awake others (by simp) rfl (by rw [st]; rfl) bound heldVisit (fun _ => st) (by rw [barrier])
    ⟨fun e => ?_, fun e => ?_, ?_⟩ <;> rw [barrier] at *
  · exact e
  · exact e

/-! ### RELEASING (R63, R88) -/

/-- R63: RELEASING ends, where its barrier and its recovery timer let it. -/
theorem Kept.endReleasing (h : Kept none s u) : Kept none s (u.endReleasing n) := by
  unfold State.endReleasing
  split
  · rename_i due
    have leaving := h.leaving (n := n) (by rw [due.1]; rfl)
    have awake := leaving.awake (by rw [due.1]; nofun)
    have law := h.law.lanes n (by simp)
    have lower : (u.barrier n).order ≠ .raise := fun e => by
      rcases law.raised e with e | e <;> rw [due.1] at e <;> cases e
    have barrier : (u.leaveReleasing n).barrier n = { u.barrier n with tracking := .inactive, abandon := none } := by
      simp [State.leaveReleasing]
    have others : OtherLanesKept u (u.leaveReleasing n) n :=
      (OtherLanesKept.setLane u _).trans (OtherLanesKept.setTracking _ _ _)
    have lane : (u.leaveReleasing n).lane n = { u.lane n with
        heldVisit := none, boundTag := none, recovery := none
        state := if (u.lane n).mode = .closed then .closed else .idle
        display := if (u.lane n).mode = .closed then ⟨.closed, 0⟩ else ⟨.welcome, 0⟩ } := by
      simp [State.leaveReleasing]
    refine leaving.kept.settle awake others rfl rfl ?_ ?_ (by rw [lane]) (fun e => ?_) (by rw [barrier])
      ⟨fun e => ?_, fun e => ?_, ?_⟩
    · rw [lane]
      dsimp only
      split <;> rfl
    · rw [lane]
      exact law.free (by rw [due.1]; rfl)
    · rw [barrier] at e
      exact absurd e lower
    all_goals rw [barrier] at *
    · exact e
    · exact e
  · exact h

theorem Kept.beginReleasing (h : Kept (some n) s u) (awake : u.loader.status ≠ .loading) {held : Option Nat}
    (watch : ∀ ticket, held = some ticket → MayWatch u n ticket) : Kept none s (u.beginReleasing n held) := by
  have barrier : ((u.beginReleasing n held).barrier n).tie =
      (.lower, if held.isSome then .heldVisit else .inactive, (u.barrier n).state, (u.barrier n).image) := by
    simp [State.beginReleasing, Barrier.tie]
  have lane : ((u.beginReleasing n held).lane n).tie = (.releasing, none, held, (u.lane n).mode, false) := by
    rw [State.beginReleasing_lane]
    rfl
  simp only [Lane.tie, Barrier.tie, Prod.mk.injEq] at lane barrier
  obtain ⟨st, bound, heldVisit, mode, -⟩ := lane
  obtain ⟨lowered, tracking, state, image⟩ := barrier
  have calm : CalmAt u (u.beginReleasing n held) n := .of_lower lowered state image
  cases held with
  | none =>
    exact h.settle awake (u.beginReleasing_others n none) (by simp [State.beginReleasing]) rfl (by rw [st]; rfl) bound heldVisit
      (fun e => by rw [lowered] at e; cases e) tracking calm
  | some ticket =>
    obtain ⟨⟨slot, v, awaited⟩, alone⟩ := watch ticket rfl
    exact h.lane_moves (fun m e => (Option.some.inj e).symm) (u.beginReleasing_others n _)
      (by simp [State.beginReleasing]) rfl
      (.of_watch st bound heldVisit (by rw [mode]; exact awaited) h.vacant lowered tracking)
      (fun k hk => by rw [heldVisit] at hk; cases hk; exact alone) (fun loading => absurd loading awake) calm

theorem Kept.enterReleasing (h : Kept (some n) s u) (awake : u.loader.status ≠ .loading) {held : Option Nat}
    (watch : ∀ ticket, held = some ticket → MayWatch u n ticket) : Kept none s (u.enterReleasing n held) := by
  rw [State.enterReleasing_eq_end]
  exact (h.beginReleasing awake watch).endReleasing

/-- R63: with no held visit. -/
theorem Kept.release (h : Kept (some n) s u) (awake : u.loader.status ≠ .loading) :
    Kept none s (u.enterReleasing n none) :=
  h.enterReleasing awake (by simp)

/-- R65: with the visit that the lane has named or watched for. -/
theorem Leaving.releaseWith (h : Leaving n s u) (awake : u.loader.status ≠ .loading) {l : Lane}
    (same : State.resetHeld l = State.resetHeld (u.lane n)) : Kept none s (u.enterReleasing n (State.resetHeld l)) :=
  h.kept.enterReleasing awake fun ticket ht => h.watch ticket (same ▸ ht)

end Sys2Proof.Machine
end

section
/-! Faults, maintenance and holds (R62, R66, R68, R69, R79, R81). -/

namespace Sys2Proof.Machine

variable {s t u : State} {n : Fin 4} {slot : Nat} {v : Visit} {r : HoldReason}

/-! ### What the hold leaves of the blocks -/

section Hold

variable (s : State) (n m : Fin 4) (slot : Nat) (r : HoldReason) (b : Barrier)

theorem State.addLater_eq (v : Visit) : s.addLater slot v r = if v.reason = some r ∨ r ∈ v.later then s
    else (s.setVisit slot { v with later := v.later ++ [r] }).touch slot := rfl

theorem State.holdClaim_rest : s.holdClaim slot r = { s with
    vt := (s.holdClaim slot r).vt, notices := (s.holdClaim slot r).notices } := by
  unfold holdClaim
  split
  · rfl
  · split
    · rw [addLater_eq]
      split
      · rfl
      · rw [setVisit_touch]
    · rw [setVisit_touch]
      rfl

theorem State.holdBound_rest : s.holdBound n r = { s with
    vt := (s.holdBound n r).vt, notices := (s.holdBound n r).notices } := by
  unfold holdBound
  split
  · rfl
  · exact s.holdClaim_rest _ _

@[simp] theorem State.holdBound_lane : (s.holdBound n r).lane m = s.lane m := congrArg (fun x => x.lane m)
    (s.holdBound_rest n r)

@[simp] theorem State.holdBound_loader : (s.holdBound n r).loader = s.loader :=
  (congrArg State.loader (s.holdBound_rest n r) :)

/-- R169: the claim reads no barrier. -/
theorem State.holdClaim_setBarrier : (s.setBarrier n b).holdClaim slot r = (s.holdClaim slot r).setBarrier n b := by
  have visit : (s.setBarrier n b).visit slot = s.visit slot := rfl
  unfold holdClaim
  rw [visit]
  split
  · rfl
  · split
    · rw [addLater_eq, addLater_eq]
      split
      · rfl
      · rw [setVisit_touch, setVisit_touch]
        rfl
    · rw [setVisit_touch, setVisit_touch]
      rfl

theorem State.holdBound_setBarrier : (s.setBarrier n b).holdBound m r = (s.holdBound m r).setBarrier n b := by
  have found : (s.setBarrier n b).boundRecord m = s.boundRecord m := rfl
  unfold holdBound
  rw [found]
  split
  · rfl
  · exact s.holdClaim_setBarrier _ _ _ _

end Hold

/-! ### The lane's visit is held -/

/-- R131: the laws hold, or hold but for a lane whose visit has left it. -/
def Loosely (n : Fin 4) (s u : State) : Prop := Kept none s u ∨ Leaving n s u

theorem Loosely.leaving_holdBound (h : Loosely n s u) : Leaving n s (u.holdBound n r) := by
  rcases h with h | h
  · exact h.holdBound
  · exact h.holdBound

theorem Leaving.abortCapture (h : Leaving n s u) : Leaving n s (u.abortCapture n) :=
  h.quiet (abortCapture_quiet h.kept.law.books.tables.records n)

theorem Loosely.holdAndAbort (h : Loosely n s u) : Leaving n s (u.holdAndAbort n r) := h.leaving_holdBound.abortCapture

/-- R62: what the lane and the loader are through the hold and the abort. -/
theorem Loosely.holdAndAbort_ties (h : Loosely n s u) (m : Fin 4) (r : HoldReason) :
    ((u.holdAndAbort n r).lane m).tie = (u.lane m).tie ∧ (u.holdAndAbort n r).loader.status = u.loader.status := by
  have q := abortCapture_quiet (h.leaving_holdBound (r := r)).kept.law.books.tables.records n
  exact ⟨(q.lanes m).trans (by rw [State.holdBound_lane]), q.status.trans (by rw [State.holdBound_loader])⟩

theorem Loosely.awake (h : Loosely n s u) (hs : (u.lane n).state ≠ .closed) : u.loader.status ≠ .loading := by
  rcases h with h | h
  · exact h.law.awake hs
  · exact h.awake hs

theorem Loosely.holdAndAbort_awake (h : Loosely n s u) (hs : (u.lane n).state ≠ .closed) :
    (u.holdAndAbort n r).loader.status ≠ .loading := by
  rw [(h.holdAndAbort_ties n r).2]
  exact h.awake hs

theorem Kept.holdToReleasing (h : Kept none s u) : Kept none s (u.holdToReleasing n r) := by
  unfold State.holdToReleasing
  split
  · exact h
  · rename_i ticket bound
    have held : Leaving n s (u.holdBound n r) := h.holdBound
    have has := h.law.hasVisit_of_bound (by simp) bound
    refine held.kept.enterReleasing ?_ fun x hx => held.watch x ?_
    · rw [State.holdBound_loader]
      exact h.law.awake fun e => by rw [e] at has; cases has
    · rw [State.holdBound_lane, State.resetHeld, bound]
      exact hx

theorem Loosely.enterFault (h : Loosely n s u) (hs : (u.lane n).state ≠ .closed) :
    Kept none s ((u.holdAndAbort n r).enterFault n) :=
  h.holdAndAbort.kept.enterFault (h.holdAndAbort_awake hs)

/-- R68: MAINTENANCE is entered. -/
theorem Loosely.startMaintenance (h : Loosely n s u) (hs : (u.lane n).state ≠ .closed) :
    Kept none s (u.startMaintenance n) :=
  h.holdAndAbort.kept.enterMaintenance (h.holdAndAbort_awake hs)

theorem Kept.faultLane (h : Kept none s u) : Kept none s (u.faultLane n r) := by
  unfold State.faultLane
  split
  · exact h
  · exact h
  all_goals
    rename_i state
    exact Loosely.enterFault (.inl h) (by rw [state]; nofun)

/-! ### A barrier that fails (R79, R81) -/

/-- R85, R88: a lane that neither passes a visit nor watches for one tracks none. -/
theorem LaneLaw.tracking_inactive {f : Nat → Option Visit} {l : Lane} {b : Barrier} (h : LaneLaw f n l b)
    (passing : l.state ≠ .passing) (releasing : l.state ≠ .releasing) : b.tracking = .inactive := by
  cases ht : b.tracking with
  | inactive => rfl
  | boundVisit => exact absurd (h.bound ht) passing
  | heldVisit =>
    obtain ⟨ticket, held⟩ := Option.isSome_iff_exists.mp (h.held.mp ht)
    exact absurd (h.watched ticket held).1 releasing

/-- R77, R85: a barrier that keeps its order and its tracking. -/
theorem Kept.setBarrier (h : Kept none s u) {b : Barrier} (order : b.order = (u.barrier n).order)
    (tracking : b.tracking = (u.barrier n).tracking) (state : b.state = .raising → (u.barrier n).state = .raising)
    (image : b.image = (u.barrier n).image) : Kept none s (u.setBarrier n b) := by
  refine h.lane_moves (by simp) (.setBarrier u b) rfl rfl ?_ (fun k hk m hm e =>
      hm (h.law.once m n k (by simp) (by simp) e hk))
    (fun loading => h.law.loading loading n) ⟨?_, ?_, ?_⟩
  · exact (h.law.lanes n (by simp)).transport (.refl _ _ _) rfl (by simpa using order) (by simpa using tracking)
  all_goals rw [State.barrier_setBarrier_self]
  · rw [order]
    exact id
  · exact state
  · exact image

theorem Leaving.setBarrier (h : Leaving n s u) {b : Barrier} (calm : CalmAt u (u.setBarrier n b) n) :
    Leaving n s (u.setBarrier n b) := by
  have others : OtherLanesKept u (u.setBarrier n b) n := .setBarrier u b
  refine ⟨⟨⟨h.kept.law.books.of_books rfl, fun m hm => ?_, h.kept.law.vacant, h.kept.law.once, h.kept.law.loading⟩,
    h.kept.calm.trans (.of_others others calm)⟩, fun ticket ht => h.watch ticket ht⟩
  obtain ⟨lane, barrier, -, -⟩ := others m fun e => hm (by rw [e])
  rw [lane, barrier]
  exact h.kept.law.lanes m hm

/-- R81: what the barrier of a lane is when it fails, and what its lane makes of it. -/
theorem Kept.barrierFaults (h : Kept none s u) {b : Barrier} (order : b.order = (u.barrier n).order)
    (tracking : b.tracking = .inactive) (state : b.state ≠ .raising) (image : b.image = (u.barrier n).image) :
    Kept none s ((u.setBarrier n b).barrierFaultAtLane n) := by
  have law := h.law.lanes n (by simp)
  have quiet (passing : (u.lane n).state ≠ .passing) (releasing : (u.lane n).state ≠ .releasing) :
      Kept none s (u.setBarrier n b) :=
    h.setBarrier order (tracking.trans (law.tracking_inactive passing releasing).symm) (fun e => absurd e state) image
  have faulted (open_ : (u.lane n).state ≠ .closed) :
      Kept none s (((u.setBarrier n b).holdAndAbort n .barrierFault).enterFault n) := by
    have calm : CalmAt (u.holdBound n .barrierFault) ((u.holdBound n .barrierFault).setBarrier n b) n := by
      have same : (u.holdBound n .barrierFault).barrier n = u.barrier n :=
        congrArg (fun x => x.barrier n) (u.holdBound_rest n _)
      refine ⟨fun e => ?_, fun e => ?_, ?_⟩
      all_goals rw [State.barrier_setBarrier_self] at *
      · rw [same, ← order]
        exact e
      · exact absurd e state
      · rw [same, image]
    have held : Leaving n s ((u.setBarrier n b).holdBound n .barrierFault) := by
      rw [State.holdBound_setBarrier]
      exact h.holdBound.setBarrier calm
    refine held.abortCapture.kept.enterFault ?_
    rw [(abortCapture_quiet held.kept.law.books.tables.records n).status, State.holdBound_loader]
    exact h.law.awake open_
  unfold State.barrierFaultAtLane State.faultLane
  have lane : (u.setBarrier n b).lane n = u.lane n := rfl
  rw [lane]
  split
  · rename_i maintenance
    exact quiet (by rw [maintenance]; nofun) (by rw [maintenance]; nofun)
  · split
    · rename_i closed
      exact quiet (by rw [closed]; nofun) (by rw [closed]; nofun)
    · rename_i fault
      exact quiet (by rw [fault]; nofun) (by rw [fault]; nofun)
    all_goals
      rename_i st
      exact faulted (by rw [st]; nofun)

theorem Kept.failBarrier (h : Kept none s u) : Kept none s (u.failBarrier n) := by
  unfold State.failBarrier
  split
  · exact h
  · exact h.barrierFaults rfl rfl nofun rfl

end Sys2Proof.Machine
end

section
/-! A visit that its lane may let pass (R22, R60): the lane's order to RAISE, and the clearance before it. -/

namespace Sys2Proof.Machine

variable {s t u : State} {n : Fin 4} {slot : Nat} {v w : Visit} {r : HoldReason}

/-! ### A lane that may let its visit pass -/

/-- R60, R77: the barrier of a lane is ordered anew to RAISE as the lane enters PASSING alone, and turns to RAISING
under that order; the other barriers are calm. -/
structure Turns (n : Fin 4) (s t : State) : Prop where
  order  : (t.barrier n).order = .raise → (s.barrier n).order = .raise ∨ (t.lane n).state = .passing
  state  : (t.barrier n).state = .raising → (s.barrier n).state = .raising ∨ (t.barrier n).order = .raise
  image  : (t.barrier n).image = (s.barrier n).image
  others : ∀ m, m ≠ n → CalmAt s t m

theorem Calm.turns (h : Calm s t) (n : Fin 4) : Turns n s t :=
  ⟨fun e => .inl ((h n).order e), fun e => .inl ((h n).state e), (h n).image, fun m _ => h m⟩

theorem Turns.quiet (h : Turns n s u) (q : Quiet u t) : Turns n s t := by
  obtain ⟨order, -, state, image⟩ := Barrier.tie_eq (q.barriers n)
  refine ⟨fun e => ?_, fun e => ?_, image.trans h.image, fun m hm => ?_⟩
  · rw [(Lane.tie_eq (q.lanes n)).1]
    exact h.order (order ▸ e)
  · rw [order]
    exact h.state (state ▸ e)
  · have here := q.calm m
    have before := h.others m hm
    exact ⟨before.order ∘ here.order, before.state ∘ here.state, here.image.trans before.image⟩

theorem Turns.after (h : Calm s u) (h' : Turns n u t) : Turns n s t where
  order e := (h'.order e).imp_left (h n).order
  state e := (h'.state e).imp_left (h n).state
  image := h'.image.trans (h n).image
  others m hm := ⟨(h m).order ∘ (h'.others m hm).order, (h m).state ∘ (h'.others m hm).state,
    (h'.others m hm).image.trans (h m).image⟩

/-- The laws hold, and since `s` no barrier has been ordered to RAISE but that of a lane `n` that passes its visit. -/
structure MayPass (n : Fin 4) (s u : State) : Prop where
  law   : LawfulBut none u
  turns : Turns n s u

theorem Kept.mayPass (h : Kept none s u) (n : Fin 4) : MayPass n s u := ⟨h.law, h.calm.turns n⟩

theorem MayPass.quiet (h : MayPass n s u) (q : Quiet u t) : MayPass n s t := ⟨h.law.of_quiet q, h.turns.quiet q⟩

/-- R77: a lane that is neither in PASSING nor in MAINTENANCE has not raised its barrier. -/
theorem MayPass.kept (h : MayPass n s u) (passing : (u.lane n).state ≠ .passing)
    (maintenance : (u.lane n).state ≠ .maintenance) : Kept none s u := by
  have lower : (u.barrier n).order ≠ .raise := fun e =>
    ((h.law.lanes n (by simp)).raised e).elim passing maintenance
  refine ⟨h.law, fun m => ?_⟩
  by_cases hm : m = n
  · subst hm
    exact ⟨fun e => absurd e lower, fun e => (h.turns.state e).resolve_right lower, h.turns.image⟩
  · exact h.turns.others m hm

/-! ### PASSING (R60) -/

theorem Barrier.giveOrder_raise (b : Barrier) (travel gate : Nat) :
    (b.giveOrder .raise travel gate).image = b.image := by
  cases h : b.state <;> simp only [giveOrder, h, startTravel]

/-- R60: the lane's visit is eligible: it passes from BOUND, and is noted from SETTLING. -/
theorem Kept.reportEligible (h : Kept none s u) (here : ∀ slot v,
    u.visit slot = some v → v.lane = some n → v.state ≠ .exiting) :
    MayPass n s (u.reportEligible n) := by
  have law := h.law.lanes n (by simp)
  have unwatched (has : (u.lane n).state.hasVisit = true) : (u.lane n).heldVisit = none := by
    cases hw : (u.lane n).heldVisit with
    | none => rfl
    | some ticket =>
      rw [(law.watched ticket hw).1] at has
      cases has
  unfold State.reportEligible
  split
  · rename_i bound
    have has : (u.lane n).state.hasVisit = true := by rw [bound]; rfl
    have others := State.enterPassing_others u n
    have lane : ((u.enterPassing n).lane n).tie =
        (.passing, (u.lane n).bound, (u.lane n).heldVisit, (u.lane n).mode, false) := by
      simp [State.enterPassing, Lane.tie]
    have order : ((u.enterPassing n).barrier n).order = .raise := by
      simp [State.enterPassing]
    have tracking : ((u.enterPassing n).barrier n).tracking = .boundVisit := by
      simp [State.enterPassing]
    have image : ((u.enterPassing n).barrier n).image = (u.barrier n).image := by
      simp [State.enterPassing, Barrier.giveOrder_raise]
    simp only [Lane.tie, Prod.mk.injEq] at lane
    obtain ⟨st, hb, heldVisit, mode, -⟩ := lane
    refine ⟨h.law.lane_moves (by simp) others rfl rfl ?_ (fun k hk => ?_) fun loading => ?_,
      .after h.calm ⟨fun _ => .inr st, fun _ => .inr order, image, fun m hm => ?_⟩⟩
    · constructor
      case visit =>
        intro slot v hv hl
        rw [st, hb, mode]
        obtain ⟨-, bound, fits⟩ := law.visit slot v hv hl
        exact ⟨rfl, bound, fits⟩
      case passes => exact fun slot v hv hl _ => here slot v hv hl
      case lane => exact fun _ => law.lane has
      case free => rw [st]; nofun
      case watched =>
        rw [heldVisit, unwatched has]
        nofun
      case passing => exact fun _ => ⟨order, tracking⟩
      case raised => exact fun _ => .inl st
      case bound => exact fun _ => st
      case held => rw [tracking, heldVisit, unwatched has]; simp
    · rw [heldVisit, unwatched has] at hk
      cases hk
    · have closed := h.law.loading loading n
      rw [bound] at closed
      cases closed
    · obtain ⟨-, barrier, -, -⟩ := others m hm
      exact .of_tie (by rw [barrier])
  · rename_i settling
    have has : (u.lane n).state.hasVisit = true := by rw [settling]; rfl
    have self : (u.setLane n { u.lane n with eligible := true }).lane n = { u.lane n with eligible := true } := by simp
    refine Kept.mayPass (h.lane_moves (n := n) (by simp) (.setLane u _) rfl rfl ?_ (fun k hk => ?_) (fun loading => ?_)
      (.of_tie rfl)) n
    · rw [self]
      exact ⟨law.visit, fun slot v hv hl _ => here slot v hv hl, law.lane, law.free, law.watched, law.passing,
          law.raised,
        law.bound, law.held⟩
    · rw [self] at hk
      have hk : (u.lane n).heldVisit = some k := hk
      rw [unwatched has] at hk
      cases hk
    · rw [self]
      exact h.law.loading loading n
  all_goals exact h.mayPass n

end Sys2Proof.Machine
end

section
/-! Clearances and the ends of captures (R19, R21, R22, R126). -/

namespace Sys2Proof.Machine

variable {s t u : State} {n : Fin 4} {slot : Nat} {v w : Visit} {r : HoldReason} {ns : List Int}

/-! ### A record written alone (R1) -/

/-- R7, R26: the books with another Change List and another ticket to be issued next. -/
theorem BooksLawful.of_unread (h : BooksLawful s) {changes : List Nat} {ticket : Nat}
    (vt : t.vt = { s.vt with changes := changes, nextTicket := ticket }) (next : 1 ≤ ticket ∧ ticket ≤ 99999999)
    (vehicles : t.vehicles = s.vehicles) (permits : t.permits = s.permits) : BooksLawful t := by
  have visits : t.visit = s.visit := by
    funext k
    rw [State.visit, vt, State.visit]
  obtain ⟨⟨records, hv, hp⟩, ⟨each, tickets, booked, inProgress, -, once, finished⟩, occupancy, reservations,
    ⟨vehicle, permit, live, permitLive, tags⟩⟩ := h
  refine ⟨⟨by rw [vt]; exact records, by rw [vehicles]; exact hv, by rw [permits]; exact hp⟩,
    ⟨by rw [visits]; exact each, by rw [visits]; exact tickets, by rw [visits]; exact booked,
      by rw [visits]; exact inProgress, by rw [vt]; exact next, by rw [vt]; exact once,
      by rw [visits, vt]; exact finished⟩, ?_, ?_,
    ⟨by rw [visits, vehicles]; exact vehicle, by rw [visits, permits]; exact permit,
      by rw [vehicles, vt]; exact live, by rw [permits, vt]; exact permitLive, by rw [vehicles]; exact tags⟩⟩
  · unfold OccupancyLawful
    rw [vt]
    exact occupancy
  · unfold ReservationsLawful
    rw [vt, permits]
    exact reservations

/-- R26: the Change List is none of the books. -/
theorem BooksLawful.of_changes (h : BooksLawful s) {changes : List Nat} (vt : t.vt = { s.vt with changes := changes })
    (vehicles : t.vehicles = s.vehicles) (permits : t.permits = s.permits) : BooksLawful t :=
  h.of_unread vt h.visits.next vehicles permits

/-- R20, R21: a record is revised, and not listed, in what no lane's law reads. -/
theorem Quiet.rewrite (h : Quiet s u) (hv : u.visit slot = some v) (r : Retouches v w) :
    Quiet s (u.setVisit slot w) := by
  have listed := h.retouch hv r
  rw [State.setVisit_touch] at listed
  refine ⟨fun books => (listed.books books).of_changes (changes := u.vt.changes) ?_ rfl rfl, listed.visits,
      listed.lanes,
    listed.barriers, listed.status⟩
  rfl

/-! ### Clearance (R21, R22) -/

theorem State.refreshTare_vehicle_get (s : State) (v : Visit) (i : Nat) {veh : Vehicle}
    (hv : s.vehicles.get i = some veh) : ∃ veh', (s.refreshTare v).vehicles.get i = some veh' ∧ veh'.tag = veh.tag ∧
      veh'.live = veh.live := by
  unfold refreshTare
  split
  · rename_i found _
    split
    · rw [Table.get_put]
      split
      · rename_i e
        rw [e, hv] at found
        cases found
        exact ⟨_, rfl, rfl, rfl⟩
      · exact ⟨veh, hv, rfl, rfl⟩
    · exact ⟨veh, hv, rfl, rfl⟩
  · exact ⟨veh, hv, rfl, rfl⟩

theorem State.refreshTare_vehicle_none (s : State) (v : Visit) (i : Nat) (hv : s.vehicles.get i = none) :
    (s.refreshTare v).vehicles.get i = none := by
  unfold refreshTare
  split
  · rename_i found _
    split
    · rw [Table.get_put]
      split
      · rename_i e
        rw [e, hv] at found
        cases found
      · exact hv
    · exact hv
  · exact hv

/-- R22: the state that a clearance's refresh of the stored tare starts from. -/
def State.debited (s : State) (v : Visit) (ns : List Int) : State :=
  match v.kind, v.permit with
  | .tip, some number =>
    { s with free := s.free + v.countedWeighings.length }.debitPermit number ns.sum v.reservation
  | _, _ => { s with free := s.free + v.countedWeighings.length }

theorem State.charged_eq (s : State) (v : Visit) (ns : List Int) : s.charged v ns = (s.debited v ns).refreshTare v := by
  unfold charged debited
  cases v.kind <;> cases v.permit <;> rfl

theorem State.debited_vehicles (s : State) (v : Visit) (ns : List Int) : (s.debited v ns).vehicles = s.vehicles := by
  unfold debited
  split
  · rw [debitPermit_rest]
  · rfl

/-- R12, R22: what a clearance takes off the permits' reserved amounts. -/
theorem State.charged_permit_get (lawful : VisitLawful v) (exists_ : ∀ number, v.permit = some number →
      (s.permits.get number).isSome = true) (k : Nat) :
    (∀ p, s.permits.get k = some p → ∃ p', (s.charged v ns).permits.get k = some p' ∧ p'.live = p.live ∧
      p'.reserved = p.reserved - if v.permit = some k then v.reservation else 0) ∧
    (s.permits.get k = none → (s.charged v ns).permits.get k = none) := by
  cases kind : v.kind with
  | load =>
    have none : v.permit = none := by
      have := lawful.permit
      rw [kind] at this
      simpa using this
    rw [charged_permits_load kind, none]
    exact ⟨fun p hp => ⟨p, hp, rfl, by simp⟩, id⟩
  | tip =>
    have some_ : v.permit.isSome = true := by rw [lawful.permit, kind]; rfl
    obtain ⟨number, hn⟩ := Option.isSome_iff_exists.mp some_
    obtain ⟨q, hq⟩ := Option.isSome_iff_exists.mp (exists_ number hn)
    rw [charged_permits kind hn hq, Table.get_put, hn]
    by_cases hk : number = k
    · subst hk
      rw [if_pos rfl]
      refine ⟨fun p hp => ?_, fun hp => ?_⟩
      · rw [hq] at hp
        cases hp
        exact ⟨_, rfl, rfl, by simp⟩
      · rw [hq] at hp
        cases hp
    · rw [if_neg hk]
      exact ⟨fun p hp => ⟨p, hp, rfl, by simp [hk]⟩, id⟩

/-- R22: a cleared record is lawful by itself. -/
theorem VisitLawful.cleared (h : VisitLawful v) (exiting : v.state = .exiting) (s : State) (ns : List Int) :
    VisitLawful (s.clearedVisit v ns) := by
  have stands : v.standsAs = .exiting := by rw [h.standsAs_of_bound (by rw [exiting]; rfl), exiting]
  have fields : (s.clearedVisit v ns).standsAs = .cleared := rfl
  constructor
  case named =>
    rw [fields]
    refine ⟨fun e => ?_, nofun⟩
    have := h.named.mp e
    rw [stands] at this
    cases this
  case ticket => exact h.ticket
  case bound =>
    have := h.bound
    rw [exiting] at this
    exact this
  case held => nofun
  case free => exact fun _ => h.free (by rw [exiting]; nofun)
  case outside =>
    rw [fields]
    rintro (e | e | e) <;> cases e
  case inside => exact fun _ => h.inside (.inr (.inr (.inl exiting)))
  case permit => exact h.permit
  case reserved => exact fun e => absurd rfl e
  case places => exact h.places
  case legal => exact h.legal

/-- R12, R22: the books of a completed clearance. -/
theorem BooksLawful.clear (h : BooksLawful s) (hv : s.visit slot = some v) (exiting : v.state = .exiting) (n : Fin 4) :
    BooksLawful (s.clearBooks n slot v ns) := by
  have lawful := (h.visits.each slot v hv).2
  have rest := s.clearBooks_rest n slot v ns
  have vehicles : (s.clearBooks n slot v ns).vehicles = (s.charged v ns).vehicles := by
    simp only [State.clearBooks]
    rw [State.withRecord_eq]
    rfl
  have permits : (s.clearBooks n slot v ns).permits = (s.charged v ns).permits := by
    simp only [State.clearBooks]
    rw [State.withRecord_eq]
    rfl
  have records : (s.clearBooks n slot v ns).vt = { s.vt with
      records := s.vt.records.put slot (s.clearedVisit v ns), changes := withChange s.vt.changes slot } :=
    congrArg State.vt rest
  have tidy : Tidy s (s.clearBooks n slot v ns) := by
    have charged : Tidy s (s.charged v ns) := by
      rw [State.charged_eq]
      refine Tidy.refreshTare ?_
      unfold State.debited
      split
      · exact (Tidy.refl s).spend.debitPermit
      · exact (Tidy.refl s).spend
    exact (charged.setVisit.touch (by simp)).latch
  have tables := tidy.tables h.tables
  generalize s.clearBooks n slot v ns = t at vehicles permits records tables
  have charge := State.charged_permit_get (ns := ns) lawful fun number hn => h.retention.permit slot v number hv hn
  refine h.revise (w := s.clearedVisit v ns) ⟨hv, lawful.cleared exiting s ns, rfl, rfl, rfl, .inl rfl, nofun,
    fun _ => .inl ?_, fun hf => ?_⟩ tables (by rw [records]) ?_ (by rw [records]; exact h.visits.next)
        (by rw [records]; rfl) ⟨fun f => ?_, fun i veh hi => ?_,
      fun i hi => ?_, fun k p hp => ?_, fun k hp => ?_⟩
  · simp [Visit.InProgress, Visit.finished, exiting]
  · simp [Visit.finished, exiting] at hf
  · rw [records]
    exact (sub_add_cancel _ _).symm
  · rw [State.tally_put (slot := slot) (w := s.clearedVisit v ns) f h.tables.records (by rw [records]), hv]
    simp only [Option.elim]
    ring
  · obtain ⟨veh', hget, tag, live⟩ := (s.debited v ns).refreshTare_vehicle_get v i (by rw [State.debited_vehicles]; exact hi)
    refine ⟨veh', by rw [vehicles, State.charged_eq]; exact hget, tag, ?_⟩
    rw [live]
    exact (add_eq_left.mpr (sub_self _)).symm
  · rw [vehicles, State.charged_eq]
    exact State.refreshTare_vehicle_none _ _ _ (by rw [State.debited_vehicles]; exact hi)
  · obtain ⟨p', hget, live, reserved⟩ := (charge k).1 p hp
    refine ⟨p', by rw [permits]; exact hget, ?_, ?_⟩
    · rw [live]
      exact (add_eq_left.mpr (sub_self _)).symm
    · have zero : (s.clearedVisit v ns).reservation = 0 := rfl
      have same : (s.clearedVisit v ns).permit = v.permit := rfl
      rw [reserved]
      dsimp only
      rw [zero, same]
      split <;> ring
  · rw [permits]
    exact (charge k).2 hp

end Sys2Proof.Machine
end

section
/-! Captures that end (R19, R22, R126): the laws after the entry that a capture hands on, and after a failed one. -/

namespace Sys2Proof.Machine

variable {s t u : State} {n : Fin 4} {slot : Nat} {v w : Visit} {r : HoldReason} {ns : List Int}

/-! ### The record of a lane is revised at its lane -/

/-- R5: the law of a lane whose own record moves on at the lane. -/
theorem LaneLaw.revise {f g : Nat → Option Visit} {l : Lane} {b : Barrier} (h : LaneLaw f n l b)
    (others : ∀ k, k ≠ slot → g k = f k) (before : f slot = some v) (after : g slot = some w) (here : v.lane = some n)
    (lane : w.lane = v.lane) (ticket : w.ticket = v.ticket) (fits : State.modeFits w.state l.mode = true)
    (passes : w.state ≠ .exiting) (unheld : v.state ≠ .held) : LaneLaw g n l b where
  visit k x hx hl := by
    by_cases hk : k = slot
    · rw [hk, after] at hx
      cases hx
      obtain ⟨has, bound, -⟩ := h.visit slot v before here
      exact ⟨has, bound.trans ticket.symm, fits⟩
    · exact h.visit k x (others k hk ▸ hx) hl
  passes k x hx hl hp := by
    by_cases hk : k = slot
    · rw [hk, after] at hx
      cases hx
      exact passes
    · exact h.passes k x (others k hk ▸ hx) hl hp
  lane _ := ⟨slot, w, after, lane.trans here⟩
  free := h.free
  watched t ht := by
    obtain ⟨releasing, k, x, awaited⟩ := h.watched t ht
    have hk : k ≠ slot := by
      rintro rfl
      have := awaited.stands
      rw [before] at this
      cases this
      exact unheld awaited.held
    exact ⟨releasing, k, x, awaited.of_tie ((others k hk).trans awaited.stands) rfl⟩
  passing := h.passing
  raised := h.raised
  bound := h.bound
  held := h.held

/-- R5: the record bound to a lane is its only one. -/
theorem LawfulBut.only (h : LawfulBut none s) (hv : s.visit slot = some v)
    (lane : v.lane = some n) {k : Nat} {x : Visit}
    (hx : s.visit k = some x) (hl : x.lane = some n) : x = v := by
  obtain ⟨ticket, here⟩ := h.boundHere (by simp) hv lane
  obtain ⟨ticket', there⟩ := h.boundHere (by simp) hx hl
  have same := there.bound
  rw [here.bound] at same
  cases same
  have found := there.found
  rw [here.found] at found
  cases found
  rfl

/-- R22: the laws with the record of an EXIT lane cleared. -/
theorem Kept.clearBooks (h : Kept none s u) (hv : u.visit slot = some v) (lane : v.lane = some n)
    (exiting : v.state = .exiting) : Kept none s (u.clearBooks n slot v ns) := by
  have books := h.law.books.clear (ns := ns) hv exiting n
  have rest := u.clearBooks_rest n slot v ns
  generalize u.clearBooks n slot v ns = t at books rest
  have lanes (m : Fin 4) : t.lane m = u.lane m := congrArg (fun x => x.lane m) rest
  have barriers (m : Fin 4) : t.barrier m = u.barrier m := congrArg (fun x => x.barrier m) rest
  have loader : t.loader = u.loader := (congrArg State.loader rest :)
  have records : t.vt.records = u.vt.records.put slot (u.clearedVisit v ns) := by rw [rest]
  have self : t.visit slot = some (u.clearedVisit v ns) := by
    rw [State.visit, records, Table.get_put_self]
  have others (k : Nat) (hk : k ≠ slot) : t.visit k = u.visit k := by
    rw [State.visit, records, Table.get_put_of_ne _ _ hk, State.visit]
  have law := h.law.lanes n (by simp)
  have unheld : v.state ≠ .held := by rw [exiting]; nofun
  refine ⟨h.law.at_lane (n := n) (by simp) books (fun m _ => by rw [lanes, barriers]; exact ⟨rfl, rfl, rfl⟩)
    (fun m hm => ?_) ?_ (fun k hk m hm e => ?_) (by rw [loader]) (fun loading => ?_),
    h.calm.trans fun m => .of_tie (by rw [barriers])⟩
  · refine .of_elsewhere others (fun x hx => ?_) fun x hx => ?_
    · rw [hv] at hx
      cases hx
      exact ⟨fun e => hm (Option.some.inj (e.symm.trans lane)), fun _ _ _ => unheld⟩
    · rw [self] at hx
      cases hx
      exact fun e => hm (Option.some.inj (e.symm.trans lane))
  · rw [lanes, barriers]
    refine law.revise others hv self lane rfl rfl ?_ nofun unheld
    have fits := (law.visit slot v hv lane).2.2
    rw [exiting] at fits
    show State.modeFits .cleared _ = true
    generalize (u.lane n).mode = mode at fits ⊢
    cases mode <;> simp [State.modeFits] at fits ⊢
  · rw [lanes] at hk
    exact hm (h.law.once m n k (by simp) (by simp) e hk)
  · rw [lanes]
    exact h.law.loading loading n

/-- R21, R22: a clearance lets the lane's visit pass, or holds it. -/
theorem Kept.clearance (h : Kept none s u) (hv : u.visit slot = some v) (lane : v.lane = some n)
    (exiting : v.state = .exiting) : MayPass n s (u.clearance n slot) := by
  cases hn : u.nets v with
  | none =>
    rw [State.clearance_none hv hn]
    have filled : Quiet u ({ u with free := u.free + v.countedWeighings.length }.setVisit slot (u.filledVisit v)) :=
      (Quiet.refl u).spend.rewrite hv ⟨rfl, rfl, fun _ => rfl, rfl, rfl, rfl, rfl, rfl, id, id⟩
    exact (h.quiet filled).holdToReleasing.mayPass n
  | some ns =>
    rw [State.clearance_some hv hn]
    have cleared := h.clearBooks (ns := ns) hv lane exiting
    have self : (u.clearBooks n slot v ns).visit slot = some (u.clearedVisit v ns) := by
      rw [State.visit, u.clearBooks_rest n slot v ns, Table.get_put_self]
    refine Kept.reportEligible cleared fun k x hx hl => ?_
    rw [cleared.law.only self lane hx hl]
    nofun

/-! ### Entries (R19, R128) -/

/-- R19: what a new COMPLETE entry makes of the lane of its record. -/
theorem Kept.entryEffect (h : Kept none s u) (hv : u.visit slot = some v) (lane : v.lane = some n) {role : Role}
    (hr : roleOf v.state = some role) : MayPass n s (u.entryEffect n slot role) := by
  have eligible (hs : v.state ≠ .exiting) : MayPass n s (u.reportEligible n) :=
    h.reportEligible fun k x hx hl => by rw [h.law.only hv lane hx hl]; exact hs
  cases hs : v.state <;> rw [hs] at hr <;> cases hr
  · exact eligible (by rw [hs]; nofun)
  · exact eligible (by rw [hs]; nofun)
  · exact h.clearance hv lane hs

theorem Kept.weighingArrives (h : Kept none s u) {ticket : Nat} {x : Weighing}
    (legal : x.legal = true → x.result = .complete) :
    MayPass n s (u.weighingArrives n ticket x) := by
  have arrives := u.weighingArrives_arrives h.law.books.tables.records n ticket legal
  generalize u.weighingArrives n ticket x = t at arrives
  cases arrives with
  | quiet q => exact (h.quiet q).mayPass n
  | counts _ lane role _ q written => exact (h.quiet q).entryEffect written lane role

theorem Kept.settleGathered (h : Kept none s u) {c : Capture} {p : Bool} {g : Gathered} :
    MayPass n s (u.settleGathered n c p g) := by
  have ended : Kept none s (u.setEngine n { u.engine n with run := none }) := h.quiet (Quiet.refl u).setEngine
  unfold State.settleGathered
  dsimp only
  split
  · refine (ended.weighingArrives ?_).quiet (Quiet.refl _).recordOutcome
    cases p <;> simp
  · exact (ended.quiet ((Quiet.refl _).setLane (by rfl)).recordOutcome).mayPass n

theorem Kept.settlePart (h : Kept none s u) {c : Capture} {g : Gathered} : Kept none s (u.settleGathered n c true g) :=
  h.quiet (settleGathered_part_quiet h.law.books.tables.records n c g)

theorem Kept.countFailure (h : Kept none s u) : Kept none s (u.countFailure n) := by
  unfold State.countFailure
  dsimp only
  split
  · exact (h.quiet (Quiet.refl u).setEngine).holdToReleasing
  · exact h.quiet (Quiet.refl u).setEngine

theorem Kept.settleFailed (h : Kept none s u) {c : Capture} {f : FailReason} : Kept none s (u.settleFailed n c f) := by
  have ended : Kept none s (u.setEngine n { u.engine n with run := none }) := h.quiet (Quiet.refl u).setEngine
  unfold State.settleFailed
  dsimp only
  split
  · exact ended.countFailure.quiet (Quiet.refl _).recordOutcome
  · exact ended.quiet ((Quiet.refl _).setLane (by rfl)).recordOutcome

end Sys2Proof.Machine
end

section
/-! Readings, and the starts of captures (R101, R115, R118 to R120). -/

namespace Sys2Proof.Machine

variable {s t u : State} {n : Fin 4} {c : Capture} {r : HoldReason}

namespace Kept

theorem abortCapture (h : Kept none s u) : Kept none s (u.abortCapture n) :=
  h.quiet (abortCapture_quiet h.law.books.tables.records n)

theorem truncateCapture (h : Kept none s u) : Kept none s (u.truncateCapture n) :=
  h.quiet (truncateCapture_quiet h.law.books.tables.records n)

theorem goOn (h : Kept none s u) : Kept none s (u.goOn n c) := h.quiet (Quiet.refl u).goOn

theorem endBurst (h : Kept none s u) : MayPass n s (u.endBurst n c) := by
  unfold State.endBurst
  split
  · exact h.settleFailed.mayPass n
  · exact h.settleGathered

theorem judgeBurst (h : Kept none s u) : MayPass n s (u.judgeBurst n c) := by
  unfold State.judgeBurst
  split
  · exact h.goOn.endBurst
  · exact h.goOn.mayPass n

theorem axleReading (h : Kept none s u) {st : DeckState} {kg : Int} {b : Bool} :
    MayPass n s (u.axleReading n c st kg b) := by
  unfold State.axleReading
  split
  · split
    · exact h.endBurst
    · exact h.mayPass n
  · exact h.goOn.mayPass n
  · exact h.judgeBurst
  · exact h.judgeBurst
  · exact h.judgeBurst
  · exact h.goOn.mayPass n
  · exact h.mayPass n

theorem captureReading (h : Kept none s u) {st : DeckState} {kg : Int} {b : Bool} :
    MayPass n s (u.captureReading n st kg b) := by
  unfold State.captureReading
  split
  · exact h.mayPass n
  · split
    · exact h.settleFailed.mayPass n
    · exact h.settleFailed.mayPass n
    all_goals
      split
      · exact h.axleReading
      · split
        · exact h.settleGathered
        · exact h.mayPass n

/-- R100, R122: a deck that gives no data fails its capture. -/
theorem missReading (h : Kept none s u) {kg : Int} {b : Bool} : Kept none s (u.captureReading n .noData kg b) := by
  unfold State.captureReading
  split
  · exact h
  · exact h.settleFailed

theorem startCapture (h : Kept none s u) {p : Purpose} {b : Option Burst} : Kept none s (u.startCapture n p b) := by
  unfold State.startCapture
  dsimp only
  split
  · exact h.goOn.settleFailed
  · exact h.goOn.settleFailed
  all_goals exact h.quiet (goOn_image_quiet _ _)

theorem startVisitCapture (h : Kept none s u) {b : Option Burst} : Kept none s (u.startVisitCapture n b) := by
  unfold State.startVisitCapture
  split
  · exact h
  · split
    · exact h.startCapture
    · exact h

theorem takeSample (h : Kept none s u) {p : DeckParams} {raw : Nat} {o : Bool} {f : Nat} :
    MayPass n s (u.takeSample n p raw o f) := by
  unfold State.takeSample
  dsimp only
  split
  · exact (h.quiet (Quiet.refl u).setDeck.followLevels).captureReading
  · exact (h.quiet (Quiet.refl u).setDeck.trackIfDue.followLevels).captureReading

theorem enterNoData (h : Kept none s u) : Kept none s (u.enterNoData n) := by
  unfold State.enterNoData
  dsimp only
  split
  · exact h.quiet (Quiet.refl u).setDeck
  · exact (h.quiet (Quiet.refl u).setDeck.followLevels).missReading

theorem reportDown (h : Kept none s u) {k : Fin 8} : Kept none s (u.reportDown k r) := by
  unfold State.reportDown
  split
  · exact h.faultLane
  · exact h.enterNoData

end Kept

end Sys2Proof.Machine
end

section
/-! A record bound to an IDLE lane (R18, R24, R53, R175). -/

namespace Sys2Proof.Machine

variable {s t u : State} {n : Fin 4} {slot ticket : Nat} {v w x : Visit} {r : HoldReason} {st : VisitState}
  {eligible : Bool} {tag : Tag}

/-! ### An IDLE lane takes a visit -/

/-- R5, R88: what is known of a record that no lane has and none watches for. -/
structure Unclaimed (s : State) (v : Visit) : Prop where
  lane    : v.lane = none
  watched : ∀ m k, (s.lane m).heldVisit = some k → v.ticket = some k → v.state ≠ .held

theorem Unclaimed.of_state (lane : v.lane = none) (unheld : v.state ≠ .held) : Unclaimed s v :=
  ⟨lane, fun _ _ _ _ => unheld⟩

/-- R5, R53: the law of a lane as it takes a visit. -/
theorem LaneLaw.of_bind {f : Nat → Option Visit} {l m : Lane} {b : Barrier} (h : LaneLaw f n m b)
    (idle : m.state = .idle)
    (lane : l.tie = (.settling, some ticket, m.heldVisit, m.mode, eligible)) {g : Nat → Option Visit}
    (others : ∀ k v, k ≠ slot → g k = some v → v.lane ≠ some n) (stands : g slot = some w) (here : w.lane = some n)
    (named : w.ticket = some ticket) (fits : State.modeFits w.state m.mode = true)
    (passes : eligible = true → w.state ≠ .exiting) : LaneLaw g n l b := by
  have unwatched : m.heldVisit = none := by
    cases hw : m.heldVisit with
    | none => rfl
    | some t =>
      have := (h.watched t hw).1
      rw [idle] at this
      cases this
  simp only [Lane.tie, Prod.mk.injEq, unwatched] at lane
  obtain ⟨state, bound, heldVisit, mode, isEligible⟩ := lane
  have only {k : Nat} {v : Visit} (hv : g k = some v) (hl : v.lane = some n) : v = w := by
    by_cases hk : k = slot
    · rw [hk, stands] at hv
      exact (Option.some.inj hv).symm
    · exact absurd hl (others k v hk hv)
  have lower : b.order ≠ .raise := fun e => (h.raised e).elim (fun e => by rw [idle] at e; cases e)
    fun e => by rw [idle] at e; cases e
  have tracking : b.tracking = .inactive := h.tracking_inactive (by rw [idle]; nofun) (by rw [idle]; nofun)
  constructor
  case visit =>
    intro k v hv hl
    rw [only hv hl, state, bound, mode]
    exact ⟨rfl, named.symm, fits⟩
  case passes =>
    intro k v hv hl hp
    rw [only hv hl]
    rcases hp with hp | hp
    · rw [state] at hp
      cases hp
    · exact passes (isEligible ▸ hp.2)
  case lane => exact fun _ => ⟨slot, w, stands, here⟩
  case free => rw [state]; nofun
  case watched => rw [heldVisit]; nofun
  case passing => rw [state]; nofun
  case raised => exact fun e => absurd e lower
  case bound => rw [tracking]; nofun
  case held => rw [tracking, heldVisit]; simp

/-- R53: the laws as an IDLE lane takes a visit. -/
theorem Kept.bind (h : Kept none s u) (idle : (u.lane n).state = .idle) (books : BooksLawful t)
    (free : ∀ v, u.visit slot = some v → Unclaimed u v) (stands : t.visit slot = some w)
        (others : OtherVisitsKept u t slot)
    (here : w.lane = some n) (named : w.ticket = some ticket) (fits : State.modeFits w.state (u.lane n).mode = true)
    (passes : eligible = true → w.state ≠ .exiting) (lanes : OtherLanesKept u t n)
    (lane : (t.lane n).tie = (.settling, some ticket, (u.lane n).heldVisit, (u.lane n).mode, eligible))
    (barrier : t.barrier n = u.barrier n) (loader : t.loader = u.loader) : Kept none s t := by
  have law := h.law.lanes n (by simp)
  refine ⟨h.law.at_lane (n := n) (by simp) books (fun m hm => ?_) (fun m hm => ?_) ?_ (fun k hk => ?_) (by rw [loader])
    (fun loading => ?_), h.calm.trans (.of_others lanes (.of_tie (by rw [barrier])))⟩
  · obtain ⟨hl, hb, -, -⟩ := lanes m hm
    rw [hl, hb]
    exact ⟨rfl, rfl, rfl⟩
  · refine .of_elsewhere others (fun y hy => ?_) fun y hy => ?_
    · obtain ⟨none, watched⟩ := free y hy
      exact ⟨by rw [none]; nofun, fun k hk => watched m k hk⟩
    · rw [stands] at hy
      cases hy
      rw [here]
      exact fun e => hm (Option.some.inj e).symm
  · rw [barrier]
    exact law.of_bind idle lane (fun k y hk hy => h.law.unbound (by simp) (by rw [idle]; rfl) k y (others k hk ▸ hy))
      stands here named fits passes
  · have heldVisit := congrArg (fun p => p.2.2.1) lane
    have heldVisit : (t.lane n).heldVisit = (u.lane n).heldVisit := heldVisit
    rw [heldVisit] at hk
    exact fun m hm e => hm (h.law.once m n k (by simp) (by simp) e hk)
  · have closed := h.law.loading loading n
    rw [idle] at closed
    cases closed

/-! ### A record bound (R18, R175) -/

/-- R175: the record that a bind writes, its hold fields cleared. -/
def boundFrom (v : Visit) (n : Fin 4) (st : VisitState) : Visit := State.boundVisit (State.unheld v st) n st

/-- R2, R5: a record as a bind leaves it is lawful by itself. -/
theorem VisitLawful.bind (h : VisitLawful v) (n : Fin 4) (named : v.ticket = some ticket) (bound : st.isBound = true)
    (outside : st = .admitting → v.inYard = false) (inside : st ≠ .admitting → v.inYard = true)
    (reserved : v.reservation ≠ 0 → st ≠ .cleared) : VisitLawful (boundFrom v n st) := by
  have stands : (boundFrom v n st).standsAs = st := by
    rw [Visit.standsAs, if_neg]
    · rfl
    · intro e
      have e : st = .held := e
      rw [e] at bound
      cases bound
  constructor
  case named =>
    rw [stands]
    constructor
    · intro e
      have e : v.ticket = none := e
      rw [named] at e
      cases e
    · intro e
      rw [e] at bound
      cases bound
  case ticket => exact h.ticket
  case bound => exact bound.symm
  case held =>
    intro e
    have e : st = .held := e
    rw [e] at bound
    cases bound
  case free => exact fun _ => ⟨rfl, rfl, rfl⟩
  case outside =>
    rw [stands]
    rintro (e | e | e)
    · rw [e] at bound
      cases bound
    · exact outside e
    · rw [e] at bound
      cases bound
  case inside =>
    rw [stands]
    intro e
    refine inside fun admitting => ?_
    have state : (boundFrom v n st).state = st := rfl
    rw [state, admitting] at e
    simp at e
  case permit => exact h.permit
  case reserved =>
    rw [stands]
    intro e
    refine ⟨(h.reserved e).1, ?_⟩
    have := reserved e
    cases st <;> simp [VisitState.isBound] at bound this ⊢
  case places => exact h.places
  case legal => exact h.legal

/-- R18, R24, R175: what a record must be to be bound in a state at a lane. -/
structure MayBind (s : State) (n : Fin 4) (slot : Nat) (v : Visit) (st : VisitState) (eligible : Bool) (ticket : Nat) :
    Prop where
  stands   : s.visit slot = some v
  named    : v.ticket = some ticket
  free     : Unclaimed s v
  active   : v.InProgress
  bound    : st.isBound = true
  outside  : st = .admitting → v.inYard = false
  inside   : st ≠ .admitting → v.inYard = true
  reserved : v.reservation ≠ 0 → st ≠ .cleared
  fits     : State.modeFits st (s.lane n).mode = true
  passes   : eligible = true → st ≠ .exiting

theorem VisitState.finished_of_bound (bound : st.isBound = true) (h : v.state = st) : v.finished = false := by
  cases st <;> simp [isBound] at bound <;> simp [Visit.finished, h]

theorem MayBind.books (b : MayBind s n slot v st eligible ticket) (h : BooksLawful s)
    (vt : t.vt = { s.vt with
      records := s.vt.records.put slot (boundFrom v n st), changes := withChange s.vt.changes slot })
    (vehicles : t.vehicles = s.vehicles) (permits : t.permits = s.permits) : BooksLawful t := by
  have lawful := (h.visits.each slot v b.stands).2
  have unfinished : (boundFrom v n st).finished = false := VisitState.finished_of_bound b.bound rfl
  refine h.revise_record (v := v) (w := boundFrom v n st) ⟨b.stands,
    lawful.bind n b.named b.bound b.outside b.inside b.reserved, rfl, rfl, rfl, .inl rfl, fun e => ?_,
    fun _ => .inl b.active, fun e => ?_⟩ (h.tables.write (by rw [vt]) vehicles permits) (by rw [vt]) ?_ (by rw [vt]) ?_
    vehicles permits rfl
  · have e : st = .booked := e
    have bound := b.bound
    rw [e] at bound
    cases bound
  · rw [b.active.2] at e
    cases e
  · rw [vt]
    exact (sub_add_cancel _ _).symm
  · rw [vt, unfinished]
    rfl

/-- R18, R175: the laws after a record is bound; `x` is the record with its hold fields cleared. -/
theorem Kept.bindRecord (h : Kept none s u) (idle : (u.lane n).state = .idle)
    (b : MayBind u n slot v st eligible ticket)
    (same : State.boundVisit x n st = boundFrom v n st) (tagged : x.ticket = v.ticket) :
    Kept none s (u.bindRecord n slot x st eligible) ∧
      (u.bindRecord n slot x st eligible).visit slot = some (boundFrom v n st) := by
  obtain ⟨rest, vt, binds, others⟩ := State.bindRecord_binds (s := u) (tagged.trans b.named) n slot st eligible
  generalize u.bindRecord n slot x st eligible = t at rest vt binds others
  rw [same] at vt
  have stands : t.visit slot = some (boundFrom v n st) := by
    rw [State.visit, vt, Table.get_put_self]
  refine ⟨h.bind (w := boundFrom v n st) (slot := slot) (eligible := eligible) (ticket := ticket) idle
    (b.books h.law.books vt (by rw [rest]) (by rw [rest])) (fun y hy => ?_) stands (fun k hk => ?_) rfl b.named b.fits
    b.passes others (by rw [binds.lane]; rfl) ?_ (by rw [rest]), stands⟩
  · rw [b.stands] at hy
    cases hy
    exact b.free
  · rw [State.visit, vt]
    exact Table.get_put_of_ne _ _ hk
  · exact congrArg (fun y => y.barrier n) rest

end Sys2Proof.Machine
end

section
/-! Bind claims at EXIT and INTERNAL lanes (R18, R24, R53). -/

namespace Sys2Proof.Machine

variable {s t u : State} {n : Fin 4} {slot : Nat} {v : Visit} {st : VisitState}

/-! ### Records that a claim may bind -/

theorem VisitLawful.lane_none (h : VisitLawful v) (free : v.state.isBound = false) : v.lane = none := by
  have := h.bound
  rw [free] at this
  simpa using this

theorem VisitLawful.named_of (h : VisitLawful v) (unbooked : v.standsAs ≠ .booked) : ∃ ticket,
    v.ticket = some ticket := by
  cases ht : v.ticket with
  | some ticket => exact ⟨ticket, rfl⟩
  | none => exact absurd (h.named.mp ht) unbooked

theorem boundFrom_of_unheld (h : VisitLawful v) (unheld : v.state ≠ .held) (n : Fin 4) (st : VisitState) :
    State.boundVisit v n st = boundFrom v n st := by
  obtain ⟨prior, reason, later⟩ := h.free unheld
  simp only [boundFrom, State.boundVisit, State.unheld]
  rw [prior, reason, later]

/-- R18: an IN_YARD record may be bound in REWEIGHING or EXITING. -/
theorem MayBind.of_inYard (h : BooksLawful s) (hv : s.visit slot = some v) (inYard : v.state = .inYard)
    (bound : st.isBound = true) (away : st ≠ .admitting) (uncleared : st ≠ .cleared)
    (fits : State.modeFits st (s.lane n).mode = true) : ∃ ticket, MayBind s n slot v st false ticket := by
  have lawful := (h.visits.each slot v hv).2
  have stands : v.standsAs = .inYard := by rw [Visit.standsAs, inYard]; rfl
  obtain ⟨ticket, named⟩ := lawful.named_of (by rw [stands]; nofun)
  exact ⟨ticket, hv, named, .of_state (lawful.lane_none (by rw [inYard]; rfl)) (by rw [inYard]; nofun),
    ⟨by rw [inYard]; nofun, by simp [Visit.finished, inYard]⟩, bound, fun e => absurd e away,
    fun _ => lawful.inside (.inl stands), fun _ => uncleared, fits, nofun⟩

/-- R24: a VOID record in the yard may be bound in CLEARED. -/
theorem MayBind.of_void (h : BooksLawful s) (hv : s.visit slot = some v) (isVoid : v.state = .void)
    (inYard : v.inYard = true) (mode : (s.lane n).mode = .exit) : ∃ ticket,
        MayBind s n slot v .cleared true ticket := by
  have lawful := (h.visits.each slot v hv).2
  have stands : v.standsAs = .void := by rw [Visit.standsAs, isVoid]; rfl
  obtain ⟨ticket, named⟩ := lawful.named_of (by rw [stands]; nofun)
  refine ⟨ticket, hv, named, .of_state (lawful.lane_none (by rw [isVoid]; rfl)) (by rw [isVoid]; nofun),
    ⟨by rw [isVoid]; nofun, by simp [Visit.finished, isVoid, inYard]⟩, rfl, nofun, fun _ => inYard, fun e => ?_,
    by rw [mode]; rfl, nofun⟩
  obtain ⟨-, e | e | e | e⟩ := lawful.reserved e <;> rw [stands] at e <;> cases e

/-! ### The binds -/

theorem Kept.bindInYard (h : Kept none s u) (idle : (u.lane n).state = .idle) (hv : u.visit slot = some v)
    (inYard : v.state = .inYard) (bound : st.isBound = true) (away : st ≠ .admitting) (uncleared : st ≠ .cleared)
    (fits : State.modeFits st (u.lane n).mode = true) : Kept none s (u.bindRecord n slot v st false) ∧
      (u.bindRecord n slot v st false).visit slot = some (boundFrom v n st) ∧
      ((u.bindRecord n slot v st false).lane n).state = .settling := by
  obtain ⟨ticket, may⟩ := MayBind.of_inYard h.law.books hv inYard bound away uncleared fits
  obtain ⟨kept, stands⟩ := h.bindRecord idle may
    (boundFrom_of_unheld (h.law.books.visits.each slot v hv).2 (by rw [inYard]; nofun) n st) rfl
  exact ⟨kept, stands, (State.bindRecord_binds (s := u) may.named n slot st false).settling⟩

/-- R21, R58: a clearance at a lane in SETTLING raises no barrier. -/
theorem Kept.clearance_settling (h : Kept none s u) (hv : u.visit slot = some v) (lane : v.lane = some n)
    (exiting : v.state = .exiting) (settling : (u.lane n).state = .settling) : Kept none s (u.clearance n slot) := by
  cases hn : u.nets v with
  | none =>
    rw [State.clearance_none hv hn]
    have filled : Quiet u ({ u with free := u.free + v.countedWeighings.length }.setVisit slot (u.filledVisit v)) :=
      (Quiet.refl u).spend.rewrite hv ⟨rfl, rfl, fun _ => rfl, rfl, rfl, rfl, rfl, rfl, id, id⟩
    exact (h.quiet filled).holdToReleasing
  | some ns =>
    have passes := h.clearance hv lane exiting
    rw [State.clearance_some hv hn] at passes ⊢
    have before : ((u.clearBooks n slot v ns).lane n).state = .settling := by
      rw [u.clearBooks_rest n slot v ns]
      exact settling
    have after : (((u.clearBooks n slot v ns).reportEligible n).lane n).state = .settling := by
      rw [State.reportEligible_settling before, State.lane_setLane_self]
      exact before
    exact MayPass.kept passes (fun e => by cases after.symm.trans e) fun e => by cases after.symm.trans e

theorem Kept.bindExit (h : Kept none s u) (idle : (u.lane n).state = .idle) (hv : u.visit slot = some v)
    (inYard : v.state = .inYard) (mode : (u.lane n).mode = .exit) : Kept none s (u.bindExit n slot v) := by
  obtain ⟨kept, stands, settling⟩ := h.bindInYard (st := .exiting) idle hv inYard rfl nofun nofun (by rw [mode]; rfl)
  unfold State.bindExit
  split
  · exact kept
  · dsimp only
    split
    · exact kept.holdToReleasing
    · rename_i tare _ room
      have room : v.listFull = false := by simpa using room
      have room : (boundFrom v n .exiting).listFull = false := room
      rw [stands]
      dsimp only
      have entered : Quiet (u.bindRecord n slot v .exiting false) ((u.bindRecord n slot v .exiting false).setVisit slot
          { boundFrom v n .exiting with
            weighings := withdrawEarlier (boundFrom v n .exiting) .storedTare ++
              [(u.bindRecord n slot v .exiting false).tareEntry tare] }) :=
        (Quiet.refl _).rewrite stands (.supersede room fun _ => rfl)
      exact (kept.quiet entered).clearance_settling (State.visit_setVisit_self _ _ _) rfl rfl settling

theorem State.laneRefusal_idle {s : State} {n : Fin 4} (h : s.laneRefusal n = none) : (s.lane n).state = .idle := by
  unfold laneRefusal at h
  split at h
  · cases h
  · rename_i idle
    exact not_not.mp idle

theorem Kept.bindClaim (h : Kept none s u) {found : Option (Nat × Visit)}
    (hv : ∀ slot v, found = some (slot, v) → u.visit slot = some v) (ht : u.bindClaim n found = .ok t) :
    Kept none s t := by
  unfold State.bindClaim at ht
  split at ht
  · cases ht
  · cases ht
  · rename_i slot v granted
    have idle := State.laneRefusal_idle granted
    have hv := hv slot v rfl
    split at ht
    · rename_i mode inYard
      cases ht
      exact (h.bindInYard (st := .reweighing) idle hv inYard rfl nofun nofun (by rw [mode]; rfl)).1
    · rename_i mode inYard
      cases ht
      exact h.bindExit idle hv inYard mode
    · rename_i mode isVoid
      split at ht
      · rename_i inYard
        cases ht
        obtain ⟨ticket, may⟩ := MayBind.of_void h.law.books hv isVoid inYard mode
        exact (h.bindRecord idle may
          (boundFrom_of_unheld (h.law.books.visits.each slot v hv).2 (by rw [isVoid]; nofun) n _) rfl).1
      · cases ht
    · cases ht

end Sys2Proof.Machine
end

section
/-! The books of an admission (R7 to R12). -/

namespace Sys2Proof.Machine

variable {s t u : State} {n : Fin 4} {slot index : Nat} {v : Visit} {c : Candidate} {tag : Tag} {veh : Vehicle}

/-! ### Records that are not there -/

theorem State.byTagBooked_none (h : s.byTagBooked tag = none) (k : Nat) (x : Visit) (hx : s.visit k = some x)
    (ht : x.tag = tag) : x.state ≠ .booked := by
  intro booked
  have := List.find?_eq_none.mp h (k, x) (Table.mem_of_get hx)
  simp [ht, booked] at this

theorem State.byTagInProgress_none (h : s.byTagInProgress tag = none) (k : Nat) (x : Visit) (hx : s.visit k = some x)
    (ht : x.tag = tag) : ¬ x.InProgress := by
  rintro ⟨unbooked, unfinished⟩
  have := List.find?_eq_none.mp h (k, x) (Table.mem_of_get hx)
  simp [ht, unbooked, unfinished] at this

/-- R1: with a slot that holds no ticket, fewer than 192 records hold one. -/
theorem BooksLawful.few (h : BooksLawful s) (hslot : slot < 192) (free : ∀ v, s.visit slot = some v → v.ticket = none) :
    (s.vt.records.filter (fun e => e.2.ticket.isSome)).length < 192 := by
  have keys : ((s.vt.records.filter (fun e => e.2.ticket.isSome)).map Prod.fst).Nodup := by
    refine (List.Sublist.map Prod.fst List.filter_sublist).nodup ?_
    exact (List.pairwise_map.mpr (h.tables.records.imp fun lt => Nat.ne_of_lt lt))
  have among : (s.vt.records.filter (fun e => e.2.ticket.isSome)).map Prod.fst ⊆ (List.range 192).erase slot := by
    intro k hk
    obtain ⟨⟨j, x⟩, he, rfl⟩ := List.mem_map.mp hk
    obtain ⟨mem, held⟩ := List.mem_filter.mp he
    have visit : s.visit j = some x := Table.get_of_mem h.tables.records mem
    have ne : j ≠ slot := by
      rintro rfl
      rw [free x visit] at held
      cases held
    exact (List.mem_erase_of_ne ne).mpr (List.mem_range.mpr (h.visits.each j x visit).1)
  have le := (keys.subperm among).length_le
  rw [List.length_map, List.length_erase_of_mem (List.mem_range.mpr hslot), List.length_range] at le
  omega

/-- R7: the ticket an admission issues is in its range and new. -/
theorem BooksLawful.issued (h : BooksLawful s) (hslot : slot < 192)
    (free : ∀ v, s.visit slot = some v → v.ticket = none) :
    1 ≤ s.issuedTicket ∧ s.issuedTicket ≤ 99999999 ∧
      ∀ k x y, s.visit k = some x → x.ticket = some y → some s.issuedTicket ≠ some y := by
  obtain ⟨unheld, k, issued, -⟩ := s.issuedTicket_first h.visits.next.1 h.visits.next.2 (h.few hslot free)
  refine ⟨?_, ?_, fun j x y hx hy e => ?_⟩
  · rw [issued, State.nthTicket]
    omega
  · rw [issued, State.nthTicket]
    omega
  · rw [Option.some.inj e] at unheld
    exact unheld ⟨_, Table.mem_of_get hx, hy⟩

/-! ### The claims of a candidate (R10, R12) -/

theorem State.addReserved_permit_get (s : State) (number : Nat) (kg : Int) (k : Nat) :
    (s.addReserved number kg).permits.get k =
      if number = k then (s.permits.get k).map (fun p => { p with reserved := p.reserved + kg }) else s.permits.get k := by
  unfold addReserved
  split
  · rename_i h
    split
    · rename_i e
      rw [← e, h]
      rfl
    · rfl
  · rename_i p h
    rw [Table.get_put]
    split
    · rename_i e
      rw [← e, h]
      rfl
    · rfl

theorem State.addReserved_rest (s : State) (number : Nat) (kg : Int) : s.addReserved number kg = { s with
    permits := (s.addReserved number kg).permits } := by
  unfold addReserved
  split <;> rfl

/-- R34: the state with the counts of a record to be created raised. -/
def State.counted (s : State) (c : Candidate) : State := if c.isNew then s.addLive c.record 1 else s

/-- R12: what an admission reserves. -/
def Candidate.reserves (c : Candidate) : Int := if c.record.kind = .tip then c.payload else 0

theorem State.admissionClaims_rest (s : State) (c : Candidate) : s.admissionClaims c = { s with
    vehicles := (s.admissionClaims c).vehicles, permits := (s.admissionClaims c).permits } := by
  have counted : s.counted c = { s with vehicles := (s.counted c).vehicles, permits := (s.counted c).permits } := by
    unfold State.counted
    split
    · exact addLive_rest _ _ _
    · rfl
  have claims : s.admissionClaims c = match c.record.kind, c.record.permit with
    | .tip, some number => (s.counted c).addReserved number c.payload
    | _, _ => s.counted c := rfl
  rw [claims]
  split
  · rename_i number _ _
    have rest := addReserved_rest (s.counted c) number c.payload
    generalize (s.counted c).addReserved number c.payload = a at rest
    generalize s.counted c = y at counted rest
    rw [rest, counted]
  · exact counted

theorem State.admissionClaims_vehicles (s : State) (c : Candidate) :
    (s.admissionClaims c).vehicles = (s.counted c).vehicles := by
  have claims : s.admissionClaims c = match c.record.kind, c.record.permit with
    | .tip, some number => (s.counted c).addReserved number c.payload
    | _, _ => s.counted c := rfl
  rw [claims]
  split
  · unfold addReserved
    split <;> rfl
  · rfl

theorem State.admissionClaims_permit_get (s : State) (c : Candidate)
    (permit : c.record.permit.isSome = decide (c.record.kind = .tip)) (k : Nat) :
    (s.admissionClaims c).permits.get k = if c.record.permit = some k
      then ((s.counted c).permits.get k).map (fun p => { p with reserved := p.reserved + c.reserves })
      else (s.counted c).permits.get k := by
  have claims : s.admissionClaims c = match c.record.kind, c.record.permit with
    | .tip, some number => (s.counted c).addReserved number c.payload
    | _, _ => s.counted c := rfl
  rw [claims]
  cases kind : c.record.kind with
  | load =>
    have none : c.record.permit = none := by
      rw [kind] at permit
      simpa using permit
    rw [none]
    simp
  | tip =>
    rw [kind] at permit
    obtain ⟨number, hn⟩ := Option.isSome_iff_exists.mp (by simpa using permit)
    simp only [hn, addReserved_permit_get, Option.some.injEq, Candidate.reserves, kind, if_true]

end Sys2Proof.Machine
end

section
/-! Admissions (R8 to R13): the laws after a granted one. -/

namespace Sys2Proof.Machine

variable {s t u : State} {n : Fin 4} {slot index ticket : Nat} {v w : Visit} {c : Candidate} {tag : Tag} {veh : Vehicle}

/-! ### The record of an admission -/

/-- R14: a record as it is created is lawful by itself. -/
theorem newVisit_lawful (kind : VisitKind) (tag : Tag) (index : Nat) {permit : Option Nat} (useTare : Bool)
    (day : Option Nat) (hp : permit.isSome = decide (kind = .tip)) :
    VisitLawful (newVisit kind tag index permit useTare day) where
  named := ⟨fun _ => rfl, fun _ => rfl⟩
  ticket := nofun
  bound := rfl
  held := nofun
  free := fun _ => ⟨rfl, rfl, rfl⟩
  outside := fun _ => rfl
  inside := by
    intro e
    rcases e with e | e | e | e <;> cases e
  permit := hp
  reserved := fun e => absurd rfl e
  places := Nat.zero_le _
  legal := nofun

/-- R10: a record as an admission leaves it is lawful by itself. -/
theorem VisitLawful.admitted (h : VisitLawful c.record) (booked : c.record.state = .booked) (s : State) (n : Fin 4)
    (low : 1 ≤ ticket) (high : ticket ≤ 99999999) : VisitLawful (s.admittedVisit n c ticket) := by
  have standing : c.record.standsAs = .booked := by rw [Visit.standsAs, booked]; rfl
  have stands : (s.admittedVisit n c ticket).standsAs = .admitting := rfl
  constructor
  case named => rw [stands]; exact ⟨nofun, nofun⟩
  case ticket =>
    intro t ht
    cases ht
    exact ⟨low, high⟩
  case bound => rfl
  case held => nofun
  case free => exact fun _ => h.free (by rw [booked]; nofun)
  case outside => exact fun _ => h.outside (.inl standing)
  case inside =>
    rw [stands]
    intro e
    rcases e with e | e | e | e <;> cases e
  case permit => exact h.permit
  case reserved =>
    intro e
    refine ⟨?_, .inl stands⟩
    by_contra kind
    have kind : c.record.kind ≠ .tip := kind
    have e : (if c.record.kind = .tip then c.payload else 0) ≠ 0 := e
    rw [if_neg kind] at e
    exact e rfl
  case places => exact h.places
  case legal => exact h.legal

/-! ### What a granted claim knows (R8, R9) -/

/-- R8, R9: the candidate of a granted claim: a BOOKED record, or a new one in a free slot. -/
structure Granted (s : State) (n : Fin 4) (c : Candidate) : Prop where
  idle    : (s.lane n).state = .idle
  small   : c.slot < 192
  lawful  : VisitLawful c.record
  booked  : c.record.state = .booked
  outside : ∀ k x, s.visit k = some x → x.tag = c.record.tag → ¬ x.InProgress
  vehicle : ∃ veh, s.vehicles.get c.record.vehicle = some veh ∧ veh.tag = c.record.tag
  permit  : ∀ number, c.record.permit = some number → (s.permits.get number).isSome = true
  place   : (c.isNew = false ∧ s.visit c.slot = some c.record) ∨
    (c.isNew = true ∧ s.visit c.slot = none ∧ c.record.reservation = 0 ∧ c.record.inYard = false)

theorem State.permitRefusal_none (h : s.permitRefusal c = none) (tip : c.record.kind = .tip) :
    ∃ number p, c.record.permit = some number ∧ s.permits.get number = some p := by
  unfold permitRefusal at h
  rw [tip] at h
  dsimp only at h
  split at h
  · cases h
  · rename_i p found
    obtain ⟨number, hn, hp⟩ := Option.bind_eq_some_iff.mp found
    exact ⟨number, p, hn, hp⟩

theorem BooksLawful.granted (h : BooksLawful s) {tag : Option Tag} (ok : s.admission n tag = .ok c) :
    Granted s n c := by
  unfold State.admission at ok
  split at ok
  · cases ok
  · rename_i granted
    have idle := State.laneRefusal_idle granted
    split at ok
    · cases ok
    · split at ok
      · cases ok
      · rename_i index veh known
        obtain ⟨tag, -, known⟩ := Option.bind_eq_some_iff.mp known
        have hveh := State.vehicleByTag_get h.tables.vehicles known
        split at ok
        · cases ok
        · split at ok
          · cases ok
          · rename_i outside
            have outside : s.byTagInProgress veh.tag = none := by simpa using outside
            split at ok
            · cases ok
            · rename_i c' candidate
              split at ok
              · cases ok
              · rename_i permitted
                split at ok
                · cases ok
                · cases ok
                  unfold State.candidate at candidate
                  split at candidate
                  · rename_i slot v found
                    cases candidate
                    obtain ⟨hv, htag, booked⟩ := State.byTagBooked_visit h.tables.records found
                    obtain ⟨small, lawful⟩ := h.visits.each slot v hv
                    exact ⟨idle, small, lawful, booked, fun k x hx ht =>
                        State.byTagInProgress_none outside k x hx (ht.trans htag),
                      h.retention.vehicle slot v hv, fun number hn => h.retention.permit slot v number hv hn,
                      .inl ⟨rfl, hv⟩⟩
                  · split at candidate
                    · split at candidate
                      · cases candidate
                      · rename_i slot free
                        cases candidate
                        obtain ⟨small, free, -⟩ := Table.lowestFree_some free
                        obtain ⟨number, p, hn, hp⟩ := State.permitRefusal_none permitted rfl
                        have hn : veh.defaultPermit = some number := hn
                        refine ⟨idle, small, newVisit_lawful _ _ _ _ _ (by rw [hn]; rfl), rfl,
                          fun k x hx ht => State.byTagInProgress_none outside k x hx ht, ⟨veh, hveh.1, rfl⟩,
                          fun number' hn' => ?_, .inr ⟨rfl, free, rfl, rfl⟩⟩
                        have hn' : veh.defaultPermit = some number' := hn'
                        rw [hn] at hn'
                        cases hn'
                        rw [hp]
                        rfl
                    · cases candidate

/-! ### The books -/

/-- R12, R34: how an admission moves the counts. -/
theorem Granted.moves (g : Granted s n c) (h : BooksLawful s) (records : t.vt.records = s.vt.records.put c.slot w)
    (vehicle : w.vehicle = c.record.vehicle) (permit : w.permit = c.record.permit)
        (reservation : w.reservation = c.reserves)
    (vehicles : t.vehicles = (s.admissionClaims c).vehicles) (permits : t.permits = (s.admissionClaims c).permits) :
    Moves s t (fun f => f w - (s.visit c.slot).elim 0 f) := by
  rcases g.place with ⟨old, stands⟩ | ⟨isNew, free, unreserved, -⟩
  · have counted : s.counted c = s := if_neg (by rw [old]; simp)
    have outside : c.record.reservation = 0 := by
      by_contra reserved
      have stands : c.record.standsAs = .booked := by rw [Visit.standsAs, g.booked]; rfl
      obtain ⟨-, e | e | e | e⟩ := g.lawful.reserved reserved <;> rw [stands] at e <;> cases e
    simp only [stands, Option.elim]
    refine ⟨fun f => ?_, fun i veh hi => ⟨veh, ?_, rfl, ?_⟩, fun i hi => ?_, fun k p hp => ?_, fun k hp => ?_⟩
    · rw [State.tally_put f h.tables.records records, stands]
      simp only [Option.elim]
      ring
    · rw [vehicles, State.admissionClaims_vehicles, counted]
      exact hi
    · dsimp only
      rw [vehicle]
      simp
    · rw [vehicles, State.admissionClaims_vehicles, counted]
      exact hi
    · dsimp only
      rw [permits, s.admissionClaims_permit_get c g.lawful.permit k, counted, hp, permit, outside, reservation]
      by_cases hk : c.record.permit = some k
      · exact ⟨_, by rw [if_pos hk]; rfl, by simp, by simp [hk]⟩
      · exact ⟨p, by rw [if_neg hk], by simp, by simp [hk]⟩
    · rw [permits, s.admissionClaims_permit_get c g.lawful.permit k, counted, hp]
      simp
  · have counted : s.counted c = s.addLive c.record 1 := if_pos isNew
    simp only [free, Option.elim, sub_zero]
    refine ⟨fun f => ?_, fun i veh hi => ?_, fun i hi => ?_, fun k p hp => ?_, fun k hp => ?_⟩
    · rw [State.tally_put f h.tables.records records, free]
      simp only [Option.elim]
      ring
    · dsimp only
      rw [vehicles, State.admissionClaims_vehicles, counted, State.addLive_vehicle_get, hi, vehicle]
      by_cases hk : c.record.vehicle = i
      · refine ⟨_, (if_pos hk).trans rfl, ?_, ?_⟩
        · rfl
        · simp [hk]
      · exact ⟨veh, by rw [if_neg hk], rfl, by simp [hk]⟩
    · rw [vehicles, State.admissionClaims_vehicles, counted, State.addLive_vehicle_get, hi]
      simp
    · dsimp only
      rw [permits, s.admissionClaims_permit_get c g.lawful.permit k, counted, State.addLive_permit_get, hp, permit,
        reservation]
      by_cases hk : c.record.permit = some k
      · exact ⟨_, by rw [if_pos hk, if_pos hk]; rfl, by simp [hk], by simp [hk]⟩
      · exact ⟨p, by rw [if_neg hk, if_neg hk], by simp [hk], by simp [hk]⟩
    · rw [permits, s.admissionClaims_permit_get c g.lawful.permit k, counted, State.addLive_permit_get, hp]
      simp

theorem ticketAfter_range {k : Nat} (low : 1 ≤ k) (high : k ≤ 99999999) :
    1 ≤ State.ticketAfter k ∧ State.ticketAfter k ≤ 99999999 := by
  unfold State.ticketAfter
  by_cases h : k < Config.maxTicket <;> simp only [h, if_true, if_false] <;> simp only [Config.maxTicket] at h <;> omega

/-- R7, R10, R12: the books after a granted admission. -/
theorem Granted.books (g : Granted s n c) (h : BooksLawful s)
    (vt : t.vt = { s.vt with
      records := s.vt.records.put c.slot (s.admittedVisit n c s.issuedTicket)
      changes := withChange s.vt.changes c.slot, nextTicket := State.ticketAfter s.issuedTicket })
    (vehicles : t.vehicles = (s.admissionClaims c).vehicles) (permits : t.permits = (s.admissionClaims c).permits) :
    BooksLawful t := by
  have stands : c.record.standsAs = .booked := by rw [Visit.standsAs, g.booked]; rfl
  have ticketless : ∀ v, s.visit c.slot = some v → v.ticket = none := by
    intro v hv
    rcases g.place with ⟨-, here⟩ | ⟨-, free, -⟩
    · rw [here] at hv
      cases hv
      exact g.lawful.named.mpr stands
    · rw [free] at hv
      cases hv
  obtain ⟨low, high, fresh⟩ := h.issued g.small ticketless
  have lawful := g.lawful.admitted g.booked s n low high
  have range := ticketAfter_range low high
  have fresh : ∀ k x y, s.visit k = some x → x.ticket = some y → (s.admittedVisit n c s.issuedTicket).ticket ≠ some y :=
    fresh
  have moves := g.moves (w := s.admittedVisit n c s.issuedTicket) h (t := t) (by rw [vt]) rfl rfl rfl vehicles permits
  have tables : TablesCanonical t := by
    have claims := (Tidy.refl s).admissionClaims (c := c)
    have claimed := claims.tables h.tables
    exact ⟨by rw [vt]; exact Table.put_wf _ _ h.tables.records, vehicles ▸ claimed.vehicles, permits ▸ claimed.permits⟩
  have unfinished : (s.admittedVisit n c s.issuedTicket).finished = false := rfl
  have outside : (s.admittedVisit n c s.issuedTicket).inYard = c.record.inYard := rfl
  have tag : (s.admittedVisit n c s.issuedTicket).tag = c.record.tag := rfl
  have state : (s.admittedVisit n c s.issuedTicket).state = .admitting := rfl
  have vehicle : (s.admittedVisit n c s.issuedTicket).vehicle = c.record.vehicle := rfl
  have permit : (s.admittedVisit n c s.issuedTicket).permit = c.record.permit := rfl
  generalize s.admittedVisit n c s.issuedTicket = w at *
  generalize State.ticketAfter s.issuedTicket = next at *
  rcases g.place with ⟨-, here⟩ | ⟨-, free, -, mark⟩
  · simp only [here, Option.elim] at moves
    refine h.revise (v := c.record) (w := w) ⟨here, lawful, tag, vehicle, permit, .inr fresh, fun e => ?_,
      fun _ => .inr g.outside, fun e => ?_⟩ tables (by rw [vt]) ?_ (by rw [vt]; exact range) ?_ moves
    · rw [state] at e
      cases e
    · simp [Visit.finished, g.booked] at e
    · rw [vt, outside]
      exact (sub_add_cancel _ _).symm
    · rw [vt, unfinished]
      rfl
  · simp only [free, Option.elim, sub_zero] at moves
    refine h.create (w := w) g.small free lawful unfinished (outside.trans mark) fresh (fun e => ?_)
      (fun _ k x hx ht => g.outside k x hx (ht.trans tag)) ?_ ?_ tables (by rw [vt]) (by rw [vt])
          (by rw [vt]; exact range)
      (by rw [vt]) moves
    · rw [state] at e
      cases e
    · rw [vehicle, tag]
      exact g.vehicle
    · rw [permit]
      exact g.permit

/-- R7 to R12, R53: the laws after a granted admission. -/
theorem Kept.grantAdmission (h : Kept none s u) {tag : Option Tag} (ok : u.admission n tag = .ok c)
    (mode : (u.lane n).mode = .entry) : Kept none s (u.grantAdmission n c) := by
  have g := h.law.books.granted ok
  have ready : u.grantAdmission n c = u.admittedState n c (u.admissionClaims c).vehicles (u.admissionClaims c).permits := by
    have claims := u.admissionClaims_rest c
    simp only [State.grantAdmission]
    rw [claims]
    simp only [State.setVisit_touch, State.admittedState, State.granted]
  have rest := u.granted_rest n c.slot (u.admittedVisit n c u.issuedTicket) u.issuedTicket
    (u.admissionClaims c).vehicles (u.admissionClaims c).permits
  have binds := u.granted_binds n c.slot (u.admittedVisit n c u.issuedTicket) u.issuedTicket
    (u.admissionClaims c).vehicles (u.admissionClaims c).permits
  have others := u.granted_others n c.slot (u.admittedVisit n c u.issuedTicket) u.issuedTicket
    (u.admissionClaims c).vehicles (u.admissionClaims c).permits
  rw [ready, State.admittedState]
  generalize u.granted n c.slot (u.admittedVisit n c u.issuedTicket) u.issuedTicket (u.admissionClaims c).vehicles
    (u.admissionClaims c).permits = t at rest binds others
  have vt : t.vt = { u.vt with
      records := u.vt.records.put c.slot (u.admittedVisit n c u.issuedTicket)
      changes := withChange u.vt.changes c.slot, nextTicket := State.ticketAfter u.issuedTicket } := by rw [rest]
  refine h.bind (w := u.admittedVisit n c u.issuedTicket) (slot := c.slot) (ticket := u.issuedTicket)
      (eligible := false)
    g.idle (g.books h.law.books vt (by rw [rest]) (by rw [rest])) (fun v hv => ?_) ?_ (fun k hk => ?_) rfl rfl
    (by rw [mode]; rfl) nofun others (by rw [binds.lane]; rfl) ?_ (by rw [rest])
  · rcases g.place with ⟨-, here⟩ | ⟨-, free, -⟩
    · rw [here] at hv
      cases hv
      exact .of_state (g.lawful.lane_none (by rw [g.booked]; rfl)) (by rw [g.booked]; nofun)
    · rw [free] at hv
      cases hv
  · rw [State.visit, vt, Table.get_put_self]
  · rw [State.visit, vt]
    exact Table.get_put_of_ne _ _ hk
  · exact congrArg (fun y => y.barrier n) rest

end Sys2Proof.Machine
end

section
/-! The lane's tag buffer (R53, R56, R57). -/

namespace Sys2Proof.Machine

variable {s t u : State} {n : Fin 4} {slot : Nat} {v : Visit} {tag : Tag}

theorem State.byTagInProgress_visit (hw : s.vt.records.wf) (h : s.byTagInProgress tag = some (slot, v)) :
    s.visit slot = some v ∧ v.tag = tag ∧ v.InProgress := by
  have := Table.find_some hw h
  simpa [visit, Visit.InProgress, and_assoc] using this

namespace Kept

theorem tagClaim (h : Kept none s u) (ok : u.tagClaim n tag = .ok t) : Kept none s t := by
  have bind (ok : u.bindClaim n (u.byTagInProgress tag) = .ok t) : Kept none s t :=
    h.bindClaim (fun slot v hv => (State.byTagInProgress_visit h.law.books.tables.records hv).1) ok
  unfold State.tagClaim at ok
  split at ok
  · rename_i mode
    split at ok
    · cases ok
    · rename_i admitted
      cases ok
      exact h.grantAdmission admitted mode
  all_goals exact bind ok

theorem tryRounds (h : Kept none s u) (k : Nat) : Kept none s (State.tryRounds k n u) := by
  induction k generalizing u with
  | zero => exact h
  | succ k ih =>
    have dropped : Kept none s (u.dropFront n) := h.quiet (Quiet.refl u).dropFront
    unfold State.tryRounds
    split
    · exact h
    · split
      · exact ih dropped
      · split
        · rename_i t ht
          split
          · exact ih (dropped.tagClaim ht)
          · exact dropped.tagClaim ht
        · split
          · exact h
          · exact ih (dropped.quiet (Quiet.refl _).refuseAtLane)

theorem makeTry (h : Kept none s u) : Kept none s (u.makeTry n) := by
  unfold State.makeTry
  split
  · exact h.tryRounds _
  · exact h

theorem tryBuffer (h : Kept none s u) : Kept none s (u.tryBuffer n) := by
  unfold State.tryBuffer
  split
  · exact h.makeTry
  · exact h

end Kept

end Sys2Proof.Machine
end

section
/-! Records that no lane has (R5, R174, R176): the end of a watch, and a record revised away from the lanes. -/

namespace Sys2Proof.Machine

variable {s t u : State} {n : Fin 4} {slot : Nat} {v w : Visit} {r : HoldReason} {st : VisitState}

/-! ### The end of a watch (R176) -/

/-- R173, R176: a lane in RELEASING watches for no visit any more. -/
theorem Kept.unwatch (h : Kept none s u) (releasing : (u.lane n).state = .releasing) {l : Lane} {b : Barrier}
    (state : l.state = .releasing) (bound : l.bound = (u.lane n).bound) (heldVisit : l.heldVisit = none)
    (order : b.order = (u.barrier n).order) (tracking : b.tracking = .inactive)
        (barrier : b.state = (u.barrier n).state)
    (image : b.image = (u.barrier n).image) : Kept none s ((u.setLane n l).setBarrier n b) := by
  have has : (u.lane n).state.hasVisit = false := by rw [releasing]; rfl
  have law := h.law.lanes n (by simp)
  have leaving := h.leaving has
  have lane : ((u.setLane n l).setBarrier n b).lane n = l := by simp
  have gate : ((u.setLane n l).setBarrier n b).barrier n = b := by simp
  refine leaving.kept.settle (leaving.awake (by rw [releasing]; nofun))
    ((OtherLanesKept.setLane u _).trans (OtherLanesKept.setBarrier _ _)) rfl rfl ?_ ?_ ?_ (fun e => ?_) ?_
    ⟨fun e => ?_, fun e => ?_, ?_⟩
  · rw [lane, state]
    rfl
  · rw [lane, bound]
    exact law.free has
  · rw [lane, heldVisit]
  · rw [gate, order] at e
    rcases law.raised e with e | e <;> rw [releasing] at e <;> cases e
  · rw [gate, tracking]
  · rwa [gate, order] at e
  · rwa [gate, barrier] at e
  · rw [gate, image]

theorem Kept.stopWatch (h : Kept none s u) (n : Fin 4) (k : Nat) : Kept none s (u.stopWatch n k) := by
  unfold State.stopWatch
  split
  · rename_i watches
    exact h.unwatch watches.1 watches.1 rfl rfl rfl rfl rfl rfl
  · exact h

theorem Kept.endTracking (h : Kept none s u) (ticket : Option Nat) : Kept none s (u.endTracking ticket) := by
  cases ticket with
  | none => exact h
  | some k => exact forLanes_keeps (Kept none s) (fun n x hx => hx.stopWatch n k) h

/-- R176: after the end of a watch no lane watches for the record. -/
theorem LawfulBut.unclaimed (h : LawfulBut none s) (lane : v.lane = none) : Unclaimed (s.endTracking v.ticket) v := by
  refine ⟨lane, fun m k watches ticket => ?_⟩
  obtain ⟨stops, keeps⟩ := s.endTracking_stops v.ticket m
  by_cases hw : v.ticket ≠ none ∧ (s.lane m).state = .releasing ∧ (s.lane m).heldVisit = v.ticket
  · rw [(stops hw).1] at watches
    cases watches
  · rw [(keeps hw).1] at watches
    exact absurd ⟨by rw [ticket]; nofun, ((h.lanes m (by simp)).watched k watches).1, watches.trans ticket.symm⟩ hw

theorem State.endTracking_visit (s : State) (ticket : Option Nat) (k : Nat) :
    (s.endTracking ticket).visit k = s.visit k :=
  congrArg (fun x => x.visit k) (s.endTracking_eq ticket)

/-- R176: the end of a watch leaves the lane's state and mode. -/
theorem State.endTracking_lane (s : State) (ticket : Option Nat) (n : Fin 4) :
    ((s.endTracking ticket).lane n).state = (s.lane n).state ∧
        ((s.endTracking ticket).lane n).mode = (s.lane n).mode := by
  obtain ⟨stops, keeps⟩ := s.endTracking_stops ticket n
  by_cases hw : ticket ≠ none ∧ (s.lane n).state = .releasing ∧ (s.lane n).heldVisit = ticket
  · rw [(stops hw).1]
    exact ⟨rfl, rfl⟩
  · rw [(keeps hw).1]
    exact ⟨rfl, rfl⟩

/-! ### A record away from the lanes -/

/-- R5, R88: the laws after a record that no lane has is revised, created or removed. -/
theorem Kept.apart (h : Kept none s u) (books : BooksLawful t) (before : ∀ v, u.visit slot = some v → Unclaimed u v)
    (after : ∀ w, t.visit slot = some w → w.lane = none) (others : OtherVisitsKept u t slot) (lanes : t.lanes = u.lanes)
    (barriers : t.barriers = u.barriers) (loader : t.loader = u.loader) : Kept none s t := by
  have lane (m : Fin 4) : t.lane m = u.lane m := by rw [State.lane, lanes, State.lane]
  have barrier (m : Fin 4) : t.barrier m = u.barrier m := by rw [State.barrier, barriers, State.barrier]
  refine ⟨h.law.records books (by simp) (fun m => by rw [lane]) (fun m => by rw [barrier]; exact ⟨rfl, rfl⟩)
    (fun m _ => .of_elsewhere others (fun v hv => ?_) fun w hw => ?_) (by simp) (by rw [loader]),
    h.calm.trans fun m => .of_tie (by rw [barrier])⟩
  · obtain ⟨free, watched⟩ := before v hv
    exact ⟨by rw [free]; nofun, fun k hk ht => watched m k hk ht⟩
  · rw [after w hw]
    nofun

/-! ### A hold that ends away from the lanes (R174) -/

/-- R172, R174: a record as a release that needs no lane leaves it is lawful by itself. -/
theorem VisitLawful.unheld (h : VisitLawful v) (away : st.isBound = false) (unheld : st ≠ .held)
    (named : v.standsAs = .booked ↔ st = .booked) (outside : st = .booked ∨ st = .done → v.inYard = false)
    (inside : st = .inYard → v.inYard = true) (reserved : v.reservation ≠ 0 → st = .inYard) (lane : v.lane = none) :
    VisitLawful (State.unheld v st) := by
  have stands : (State.unheld v st).standsAs = st := if_neg unheld
  have state : (State.unheld v st).state = st := rfl
  constructor
  case named =>
    rw [stands]
    exact h.named.trans named
  case ticket => exact h.ticket
  case bound =>
    rw [state, away]
    exact congrArg Option.isSome lane
  case held => exact fun e => absurd e unheld
  case free => exact fun _ => ⟨rfl, rfl, rfl⟩
  case outside =>
    rw [stands]
    rintro (e | e | e)
    · exact outside (.inl e)
    · rw [e] at away
      cases away
    · exact outside (.inr e)
  case inside =>
    rw [stands, state]
    rintro (e | e | e | e)
    · exact inside e
    all_goals
      rw [e] at away
      cases away
  case permit => exact h.permit
  case reserved =>
    rw [stands]
    exact fun e => ⟨(h.reserved e).1, .inr (.inl (reserved e))⟩
  case places => exact h.places
  case legal => exact h.legal

theorem Visit.inProgress_of_held (held : v.state = .held) : v.InProgress :=
  ⟨by rw [held]; nofun, by simp [finished, held]⟩

/-- R174: the laws after a release that needs no lane. -/
theorem Kept.restoreTo (h : Kept none s u) (hv : u.visit slot = some v) (held : v.state = .held)
    (lawful : VisitLawful (State.unheld v st))
    (single : st = .booked → ∀ k x, u.visit k = some x → x.tag = v.tag → x.state ≠ .booked) :
    Kept none s (u.restoreTo slot v st) := by
  have lane : v.lane = none := (h.law.books.visits.each slot v hv).2.lane_none (by rw [held]; rfl)
  have free := h.law.unclaimed lane
  have ended := h.endTracking v.ticket
  have hv' : (u.endTracking v.ticket).visit slot = some v := (State.endTracking_visit _ _ _).trans hv
  have single' (e : st = .booked) (k : Nat) (x : Visit) (hx : (u.endTracking v.ticket).visit k = some x) :=
    single e k x (State.endTracking_visit u v.ticket k ▸ hx)
  have out : u.restoreTo slot v st = if (State.unheld v st).finished
      then (((u.endTracking v.ticket).setVisit slot (State.unheld v st)).touch slot).complete slot
      else ((u.endTracking v.ticket).setVisit slot (State.unheld v st)).touch slot := rfl
  rw [out]
  generalize u.endTracking v.ticket = y at free ended hv' single'
  have revises : Revises y slot v (State.unheld v st) := ⟨hv', lawful, rfl, rfl, rfl, .inl rfl,
    fun e => .inr (single' e), fun _ => .inl (Visit.inProgress_of_held held), fun e => by
      rw [(Visit.inProgress_of_held held).2] at e; cases e⟩
  have finish : (if (State.unheld v st).finished then ((y.setVisit slot (State.unheld v st)).touch slot).complete slot
      else (y.setVisit slot (State.unheld v st)).touch slot) = { y with vt := { y.vt with
        records := y.vt.records.put slot (State.unheld v st)
        changes := withChange y.vt.changes slot
        completion := if (State.unheld v st).finished = true then withChange y.vt.completion slot
          else y.vt.completion } } := by
    rw [State.setVisit_touch]
    split
    · rw [State.complete_eq]
    · rfl
  rw [finish]
  refine ended.apart (slot := slot) (ended.law.books.revise_record revises
    (ended.law.books.tables.write (slot := slot) (w := State.unheld v st) rfl rfl rfl) rfl (sub_add_cancel _ _).symm rfl rfl
    rfl rfl rfl) (fun x hx => ?_) (fun x hx => ?_) (fun k hk => Table.get_put_of_ne _ _ hk) rfl rfl rfl
  · rw [hv'] at hx
    cases hx
    exact free
  · have hx : (y.vt.records.put slot (State.unheld v st)).get slot = some x := hx
    rw [Table.get_put_self] at hx
    cases hx
    exact lane

end Sys2Proof.Machine
end

section
/-! The host's bind claims (R8, R53, R54, R57, R174, R175), and the try of a lane that has entered IDLE. -/

namespace Sys2Proof.Machine

variable {s t u : State} {n : Fin 4} {slot : Nat} {v w : Visit} {st : VisitState} {c : Instr} {r : Reply}

theorem Visit.standsAs_of_held (held : v.state = .held) {prior : VisitState} (hp : v.prior = some prior) :
    v.standsAs = prior := by
  rw [standsAs, if_pos held, hp]
  rfl

namespace Kept

/-! ### ADMIT and CALL -/

theorem refuseAdmit (h : Kept none s u) {status : Status} {tag : Option Tag} :
    Kept none s (u.refuseAdmit n status tag).1 := by
  unfold State.refuseAdmit
  split
  · exact h
  · split
    · exact h.quiet (Quiet.refl u).refuseAtLane
    · exact h.quiet (Quiet.refl u).refuseAtLane.spend

theorem admitReply (h : Kept none s u) {lane : Nat} {name : AdmitName} : Kept none s (u.admitReply lane name).1 := by
  refine inRange_fst (Kept none s) h fun _ => onLane_fst (Kept none s) h fun n _ => ?_
  unfold State.admitAt
  split
  · exact h
  · rename_i mode
    split
    · exact h.refuseAdmit
    · rename_i admitted
      exact h.grantAdmission admitted (not_not.mp mode)

theorem callReply (h : Kept none s u) {lane ticket : Nat} : Kept none s (u.callReply lane ticket).1 := by
  refine inRange_fst (Kept none s) h fun _ => onLane_fst (Kept none s) h fun n _ => ?_
  unfold State.callAt
  split
  · exact h
  · split
    · exact h
    · rename_i bound
      exact (h.bindClaim (fun slot v found => (State.byTicket_visit h.law.books.tables.records found).1) bound).tryBuffer

/-! ### RELEASE HOLD -/

theorem rebind (h : Kept none s u) (hv : u.visit slot = some v) (held : v.state = .held) (hp : v.prior = some st)
    (bound : st.isBound = true) (mark : st = .cleared → v.inYard = true) {lane : Option (Fin 4)} :
    Kept none s (u.rebind slot v st lane).1 := by
  have lawful := (h.law.books.visits.each slot v hv).2
  have stands := Visit.standsAs_of_held held hp
  unfold State.rebind
  split
  · exact h
  · rename_i n
    split
    · exact h
    · rename_i fits
      split
      · exact h
      · rename_i marked
        split
        · exact h
        · rename_i granted
          have free := h.law.unclaimed (lawful.lane_none (by rw [held]; rfl))
          have ended := h.endTracking v.ticket
          obtain ⟨state, mode⟩ := State.endTracking_lane u v.ticket n
          have idle := state.trans (State.laneRefusal_idle granted)
          have fits : State.modeFits st ((u.endTracking v.ticket).lane n).mode = true := by
            rw [mode]
            simpa using fits
          have hv' : (u.endTracking v.ticket).visit slot = some v := (State.endTracking_visit _ _ _).trans hv
          obtain ⟨ticket, named⟩ := lawful.named_of (by rw [stands]; rintro rfl; cases bound)
          have may : MayBind (u.endTracking v.ticket) n slot v st (State.eligibleAtRebind v st) ticket := by
            refine ⟨hv', named, free, Visit.inProgress_of_held held, bound, fun e => ?_, fun ne => ?_,
                fun reserved e => ?_,
              fits, fun eligible e => ?_⟩
            · exact lawful.outside (.inr (.inl (stands.trans e)))
            · cases st with
              | admitting => exact absurd rfl ne
              | reweighing => exact lawful.inside (.inr (.inl stands))
              | exiting => simpa using marked
              | cleared => exact mark rfl
              | booked | inYard | done | held | void => cases bound
            · obtain ⟨-, x | x | x | x⟩ := lawful.reserved reserved <;> rw [stands, e] at x <;> cases x
            · rw [e] at eligible
              cases eligible
          exact (ended.bindRecord idle may rfl rfl).1

theorem releaseVisit (h : Kept none s u) (hv : u.visit slot = some v) {lane : Option (Fin 4)} :
    Kept none s (u.releaseVisit slot v lane).1 := by
  have lawful := (h.law.books.visits.each slot v hv).2
  have free (held : v.state = .held) : v.lane = none := lawful.lane_none (by rw [held]; rfl)
  unfold State.releaseVisit
  split
  · rename_i held prior
    have stands := Visit.standsAs_of_held held prior
    split
    · exact h
    · rename_i none
      refine h.restoreTo (st := .booked) hv held (lawful.unheld rfl nofun (by rw [stands])
          (fun _ => lawful.outside (.inl stands)) nofun
        (fun reserved => ?_) (free held)) fun _ k x hx ht => State.byTagBooked_none (by simpa using none) k x hx ht
      obtain ⟨-, x | x | x | x⟩ := lawful.reserved reserved <;> rw [stands] at x <;> cases x
  · rename_i held prior
    have stands := Visit.standsAs_of_held held prior
    exact h.restoreTo (st := .inYard) hv held (lawful.unheld rfl nofun (by rw [stands]) (by simp)
        (fun _ => lawful.inside (.inl stands))
      (fun _ => rfl) (free held)) nofun
  · rename_i held prior
    have stands := Visit.standsAs_of_held held prior
    split
    · rename_i mark
      exact h.rebind hv held prior rfl fun _ => mark
    · rename_i mark
      have away (reserved : v.reservation ≠ 0) : False := by
        obtain ⟨-, x | x | x | x⟩ := lawful.reserved reserved <;> rw [stands] at x <;> cases x
      split
      · exact h.restoreTo (st := .void) hv held (lawful.unheld rfl nofun (by rw [stands]; simp) (by simp) nofun
          (fun reserved => (away reserved).elim) (free held)) nofun
      · exact h.restoreTo (st := .done) hv held (lawful.unheld rfl nofun (by rw [stands]; simp)
          (fun _ => by simpa using mark) nofun
          (fun reserved => (away reserved).elim) (free held)) nofun
  · rename_i held prior
    exact h.rebind hv held prior rfl nofun
  · rename_i held prior
    exact h.rebind hv held prior rfl nofun
  · rename_i held prior
    exact h.rebind hv held prior rfl nofun
  · exact h

theorem releaseReply (h : Kept none s u) {name : RecordName} {lane : Option Nat} :
    Kept none s (u.releaseReply name lane).1 :=
  inRange_fst (Kept none s) h fun _ => onRecord_fst (Kept none s) h fun _ _ found =>
    h.releaseVisit (State.byName_visit h.law.books.tables.records found)

/-! ### A claim met within another step, and the try of the buffer (R57) -/

theorem claimReply (h : Kept none s u) (hr : u.claimReply n c = some r) : Kept none s r.1 := by
  unfold State.claimReply at hr
  split at hr
  · split at hr <;> cases hr
    exact h.admitReply
  · split at hr <;> cases hr
    exact h.callReply
  · split at hr <;> cases hr
    exact h.releaseReply
  · cases hr

theorem takeHandedClaim (h : Kept none s u) (ht : u.takeHandedClaim n = some t) : Kept none s t := by
  unfold State.takeHandedClaim at ht
  split at ht
  · split at ht
    · cases ht
    · obtain ⟨r, hr, rfl⟩ := Option.map_eq_some_iff.mp ht
      exact (h.claimReply hr).quiet ((Quiet.refl r.1).frame rfl rfl rfl rfl)
  · cases ht

theorem meetClaim (h : Kept none s u) : Kept none s (u.meetClaim n) := by
  rcases u.meetClaim_cases n with e | e | ⟨t, ht, e⟩ <;> rw [e]
  · exact h
  · exact h.quiet (Quiet.refl u).spend
  · exact (h.takeHandedClaim ht).quiet (Quiet.refl t).spend

theorem tryOnIdle (h : Kept none s u) {before : State} : Kept none s (u.tryOnIdle n before) := by
  unfold State.tryOnIdle
  split
  · exact h.meetClaim.makeTry
  · exact h

end Kept

/-- R57, R60: a lane that passes its visit makes no try. -/
theorem MayPass.tryOnIdle (h : MayPass n s u) {before : State} : MayPass n s (u.tryOnIdle n before) := by
  by_cases idle : (u.lane n).state = .idle
  · exact ((h.kept (by rw [idle]; nofun) (by rw [idle]; nofun)).tryOnIdle).mayPass n
  · rw [State.tryOnIdle_of_not idle]
    exact h

end Sys2Proof.Machine
end

section
/-! The Visit Table's requests (R14, R15, R17, R20, R24, R25, R26, R170): records that no lane has. -/

namespace Sys2Proof.Machine

variable {s t u : State} {n : Fin 4} {slot : Nat} {v w : Visit} {r : HoldReason}

/-! ### Records that leave the table -/

/-- R34: a record in the table is counted at what it names. -/
theorem BooksLawful.vehicle_counted (h : BooksLawful s) (hv : s.visit slot = some v) {veh : Vehicle}
    (hveh : s.vehicles.get v.vehicle = some veh) : 1 ≤ (veh.live : ℤ) := by
  rw [h.retention.live hveh, State.vehicleVisits]
  have := State.one_le_tally hv (fun w => decide (w.vehicle = v.vehicle)) (by simp)
  simpa using this

theorem BooksLawful.permit_counted (h : BooksLawful s) (hv : s.visit slot = some v) {number : Nat} {p : Permit}
    (hn : v.permit = some number) (hp : s.permits.get number = some p) : 1 ≤ (p.live : ℤ) := by
  rw [h.retention.permitLive hp, State.permitVisits]
  have := State.one_le_tally hv (fun w => decide (w.permit = some number)) (by simpa using hn)
  simpa using this

/-- R24, R25: the books after a record is removed. -/
theorem BooksLawful.removed (h : BooksLawful s) (hv : s.visit slot = some v) (outside : v.inYard = false)
    (reserves : v.reservation = 0) : BooksLawful (s.removeVisit slot v) := by
  have tables := ((Tidy.refl s).removeVisit (k := slot) (x := v)).tables h.tables
  have vt : (s.removeVisit slot v).vt = { s.vt with
      records := s.vt.records.drop slot, changes := s.vt.changes.filter (· ≠ slot)
      completion := s.vt.completion.filter (· ≠ slot) } := by
    rw [State.removeVisit, State.addLive_vt]
  have tally (f : Visit → ℤ) : (s.removeVisit slot v).tally f = s.tally f + -f v := by
    rw [State.tally_drop (slot := slot) f h.tables.records (by rw [vt]), hv]
    simp only [Option.elim]
    ring
  refine h.remove outside tables (by rw [vt]) (by rw [vt]) (by rw [vt]) (by rw [vt])
    (.of_addLive (w := v) (d := -1) (u := { s with vt := { s.vt with
      records := s.vt.records.drop slot, changes := s.vt.changes.filter (· ≠ slot)
      completion := s.vt.completion.filter (· ≠ slot) } }) tally (fun f => by ring) reserves rfl rfl rfl rfl
      (fun veh hveh => ?_) fun k p hk hp => ?_)
  · have := h.vehicle_counted hv hveh
    omega
  · have := h.permit_counted hv hk hp
    omega

namespace Kept

theorem removeVisit (h : Kept none s u) (hv : u.visit slot = some v) (free : Unclaimed u v) (outside : v.inYard = false)
    (reserves : v.reservation = 0) : Kept none s (u.removeVisit slot v) := by
  have rest := State.addLive_rest { u with vt := { u.vt with
      records := u.vt.records.drop slot, changes := u.vt.changes.filter (· ≠ slot)
      completion := u.vt.completion.filter (· ≠ slot) } } v (-1)
  have books := h.law.books.removed hv outside reserves
  have out : u.removeVisit slot v = { u with vt := { u.vt with
      records := u.vt.records.drop slot, changes := u.vt.changes.filter (· ≠ slot)
      completion := u.vt.completion.filter (· ≠ slot) } }.addLive v (-1) := rfl
  rw [out] at books ⊢
  generalize { u with vt := { u.vt with
      records := u.vt.records.drop slot, changes := u.vt.changes.filter (· ≠ slot)
      completion := u.vt.completion.filter (· ≠ slot) } }.addLive v (-1) = t at rest books
  have visit (k : Nat) : t.visit k = if slot = k then none else u.visit k := by
    rw [State.visit, rest]
    exact Table.get_drop _ _ _
  refine h.apart (slot := slot) books (fun x hx => ?_) (fun x hx => ?_) (fun k hk => ?_) (by rw [rest]) (by rw [rest])
    (by rw [rest])
  · rw [hv] at hx
    cases hx
    exact free
  · rw [visit, if_pos rfl] at hx
    cases hx
  · rw [visit, if_neg (Ne.symm hk)]

/-- R88: no lane watches for a record that is held from BOOKED. -/
theorem unclaimed_of_handle (h : Kept none s u) (hv : u.visit slot = some v) (handle : v.hasHandle = true) :
    Unclaimed u v := by
  have lawful := (h.law.books.visits.each slot v hv).2
  rcases (Visit.hasHandle_iff v).mp handle with booked | ⟨held, prior⟩
  · exact .of_state (lawful.lane_none (by rw [booked]; rfl)) (by rw [booked]; nofun)
  · refine ⟨lawful.lane_none (by rw [held]; rfl), fun m k watches ticket => ?_⟩
    have named := lawful.named.mpr (Visit.standsAs_of_held held prior)
    rw [ticket] at named
    cases named

theorem removeBooking (h : Kept none s u) (hv : u.visit slot = some v) (handle : v.hasHandle = true) :
    Kept none s (u.removeVisit slot v) := by
  have lawful := (h.law.books.visits.each slot v hv).2
  have stands : v.standsAs = .booked := by
    rcases (Visit.hasHandle_iff v).mp handle with booked | ⟨held, prior⟩
    · rw [Visit.standsAs, booked]
      rfl
    · exact Visit.standsAs_of_held held prior
  refine h.removeVisit hv (h.unclaimed_of_handle hv handle) (lawful.outside (.inl stands)) ?_
  by_contra reserved
  obtain ⟨-, x | x | x | x⟩ := lawful.reserved reserved <;> rw [stands] at x <;> cases x

/-! ### HOLD -/

/-- R170: the hold of a record that no lane has. -/
theorem holdClaim (h : Kept none s u) (hv : u.visit slot = some v) (state : v.state = .booked ∨ v.state = .inYard)
    (alone : v.state = .booked → ∀ k x, u.visit k = some x → x.tag = v.tag → ¬ x.InProgress) :
    Kept none s (u.holdClaim slot r) := by
  have hold : v.state.Holdable := .inr state
  have lawful := (h.law.books.visits.each slot v hv).2
  have lane : v.lane = none := lawful.lane_none (by rcases state with e | e <;> rw [e] <;> rfl)
  have books := h.law.books.hold (r := r) hv hold alone
  rw [State.holdClaim_eq hv hold.ne_held]
  refine Kept.quiet ?_ (.of_hold _ _ _ _ _ _)
  rw [State.setVisit_touch] at books ⊢
  refine h.apart (slot := slot) books (fun x hx => ?_) (fun x hx => ?_)
      (fun k hk => Table.get_put_of_ne _ _ hk) rfl rfl rfl
  · rw [hv] at hx
    cases hx
    exact .of_state lane hold.ne_held
  · have hx : (u.vt.records.put slot (State.heldVisit v r)).get slot = some x := hx
    rw [Table.get_put_self] at hx
    cases hx
    rfl

theorem holdVisit (h : Kept none s u) (hv : u.visit slot = some v) : Kept none s (u.holdVisit slot v).1 := by
  unfold State.holdVisit
  split
  · rename_i booked
    split
    · exact h
    · rename_i none
      exact h.holdClaim hv (.inl booked) fun _ => State.byTagInProgress_none (by simpa using none)
  · rename_i inYard
    exact h.holdClaim hv (.inr inYard) fun e => by rw [inYard] at e; cases e
  · rename_i held
    have claim : u.holdClaim slot .host = u.addLater slot v .host := by
      simp only [State.holdClaim, hv, held, if_true]
    show Kept Option.none s (u.holdClaim slot .host)
    rw [claim]
    exact h.quiet ((Quiet.refl u).addLater hv held)
  all_goals exact h

end Kept

end Sys2Proof.Machine
end

section
/-! VOID, RETIRE, BOOK, AMEND, TIP DECLARE and TAKE CHANGES (R14, R15, R20, R24 to R26). -/

namespace Sys2Proof.Machine

variable {s t u : State} {n : Fin 4} {slot : Nat} {v w : Visit} {tag : Tag} {kind : VisitKind}

/-! ### VOID (R24) -/

/-- R24: a record as VOID leaves it is lawful by itself. -/
theorem VisitLawful.voided (h : VisitLawful v) (lane : v.lane = none) (named : v.standsAs ≠ .booked) :
    VisitLawful (State.voidedVisit v) where
  named := by
    have stands : (State.voidedVisit v).standsAs = .void := rfl
    rw [stands]
    exact ⟨fun e => absurd (h.named.mp e) named, nofun⟩
  ticket := h.ticket
  bound := congrArg Option.isSome lane
  held := nofun
  free := fun _ => ⟨rfl, rfl, rfl⟩
  outside := by
    have stands : (State.voidedVisit v).standsAs = .void := rfl
    rw [stands]
    rintro (e | e | e) <;> cases e
  inside := by
    have stands : (State.voidedVisit v).standsAs = .void := rfl
    rw [stands]
    rintro (e | e | e | e) <;> cases e
  permit := h.permit
  reserved := fun e => absurd rfl e
  places := h.places
  legal := h.legal

theorem State.unreserved_congr (h : t.permits = s.permits) (v : Visit) : t.unreserved v = s.unreserved v := by
  unfold unreserved
  split
  · exact h
  · rw [addReserved_permits h]

/-- R24: the permits' reserved amounts after a record has given its own back. -/
theorem State.unreserved_permit_get (s : State) (v : Visit) (k : Nat) : (s.unreserved v).get k =
    if v.permit = some k then (s.permits.get k).map (fun p => { p with reserved := p.reserved + -v.reservation })
    else s.permits.get k := by
  unfold unreserved
  cases hp : v.permit with
  | none => simp
  | some number =>
    rw [addReserved_permit_get]
    simp

theorem BooksLawful.voided (h : BooksLawful s) (hv : s.visit slot = some v) (lane : v.lane = none)
    (named : v.standsAs ≠ .booked) (active : v.InProgress) : BooksLawful { s with
      vt := { s.vt with
        records := s.vt.records.put slot (State.voidedVisit v)
        changes := withChange s.vt.changes slot
        completion := if v.inYard then s.vt.completion else s.vt.completion ++ [slot] }
      permits := s.unreserved v } := by
  have lawful := (h.visits.each slot v hv).2
  have absent : slot ∉ s.vt.completion := fun hm => by
    obtain ⟨x, hx, finished⟩ := (h.visits.finished slot).mp hm
    rw [hv] at hx
    cases hx
    rw [active.2] at finished
    cases finished
  have permits : Table.wf (s.unreserved v) := by
    unfold State.unreserved
    split
    · exact h.tables.permits
    · unfold State.addReserved
      split
      · exact h.tables.permits
      · exact Table.put_wf _ _ h.tables.permits
  refine h.revise (w := State.voidedVisit v) ⟨hv, lawful.voided lane named, rfl, rfl, rfl, .inl rfl, nofun,
    fun _ => .inl active, fun e => by rw [active.2] at e; cases e⟩
    ⟨Table.put_wf _ _ h.tables.records, h.tables.vehicles, permits⟩ rfl (sub_add_cancel _ _).symm h.visits.next ?_
    ⟨fun f => ?_, fun i veh hveh => ⟨veh, hveh, rfl, (add_eq_left.mpr (sub_self _)).symm⟩, fun i hi => hi,
      fun k p hp => ?_, fun k hp => ?_⟩
  · have finished : (State.voidedVisit v).finished = !v.inYard := rfl
    rw [finished]
    cases v.inYard
    · simp [withChange, absent]
    · rfl
  · rw [State.tally_put (slot := slot) (w := State.voidedVisit v) f h.tables.records rfl, hv]
    simp only [Option.elim]
    ring
  · have given := s.unreserved_permit_get v k
    rw [hp] at given
    have same : (State.voidedVisit v).permit = v.permit := rfl
    have zero : (State.voidedVisit v).reservation = 0 := rfl
    dsimp only
    rw [given, same, zero]
    by_cases hk : v.permit = some k
    · exact ⟨_, by rw [if_pos hk]; rfl, by simp, by simp [hk]⟩
    · exact ⟨p, by rw [if_neg hk], by simp, by simp [hk]⟩
  · dsimp only
    rw [s.unreserved_permit_get v k, hp]
    simp

namespace Kept

theorem voidLive (h : Kept none s u) (hv : u.visit slot = some v) (state : v.state = .inYard ∨ v.state = .held)
    (handle : v.hasHandle = false) : Kept none s (u.voidLive slot v) := by
  have lawful := (h.law.books.visits.each slot v hv).2
  have lane : v.lane = none := lawful.lane_none (by rcases state with e | e <;> rw [e] <;> rfl)
  have active : v.InProgress := by
    rcases state with e | e
    · exact ⟨by rw [e]; nofun, by simp [Visit.finished, e]⟩
    · exact Visit.inProgress_of_held e
  have named : v.standsAs ≠ .booked := by
    intro stands
    rcases state with e | e
    · rw [Visit.standsAs, e] at stands
      cases stands
    · obtain ⟨-, x | x | x⟩ := lawful.held e
      · rw [stands] at x
        cases x
      · rw [Visit.standsAs, if_pos e] at stands
        have prior : v.prior = some .booked := by
          cases hp : v.prior with
          | none => rw [hp] at stands; cases stands
          | some st => rw [hp] at stands; exact congrArg some stands
        rw [(Visit.hasHandle_iff v).mpr (.inr ⟨e, prior⟩)] at handle
        cases handle
      · rw [stands] at x
        cases x
  have absent : slot ∉ u.vt.completion := fun hm => by
    obtain ⟨x, hx, finished⟩ := (h.law.books.visits.finished slot).mp hm
    rw [hv] at hx
    cases hx
    rw [active.2] at finished
    cases finished
  have free := h.law.unclaimed lane
  have ended := h.endTracking v.ticket
  have hv' : (u.endTracking v.ticket).visit slot = some v := (State.endTracking_visit _ _ _).trans hv
  have books := ended.law.books.voided hv' lane named active
  rw [State.voidLive_eq _ _ _ absent]
  obtain ⟨lanes, barriers, kept⟩ : ∃ l b, u.endTracking v.ticket = { u with lanes := l, barriers := b } :=
    ⟨_, _, u.endTracking_eq v.ticket⟩
  rw [kept] at free ended books ⊢
  have given : State.unreserved { u with lanes := lanes, barriers := barriers } v = u.unreserved v :=
    State.unreserved_congr (by rfl) v
  rw [given] at books
  refine ended.apart (slot := slot) books (fun x hx => ?_) (fun x hx => ?_)
      (fun k hk => Table.get_put_of_ne _ _ hk) rfl rfl
    rfl
  · have hx : u.visit slot = some x := hx
    rw [hv] at hx
    cases hx
    exact free
  · have hx : (u.vt.records.put slot (State.voidedVisit v)).get slot = some x := hx
    rw [Table.get_put_self] at hx
    cases hx
    exact lane

theorem voidRecord (h : Kept none s u) (hv : u.visit slot = some v) : Kept none s (u.voidRecord slot v).1 := by
  unfold State.voidRecord
  split
  · rename_i handle
    exact h.removeBooking hv handle
  · rename_i handle
    split
    · rename_i state
      exact h.voidLive hv state (by simpa using handle)
    · exact h

theorem retireVisit (h : Kept none s u) (hv : u.visit slot = some v) : Kept none s (u.retireVisit slot v).1 := by
  have lawful := (h.law.books.visits.each slot v hv).2
  unfold State.retireVisit
  split
  · rename_i finished
    have state : v.standsAs = v.state ∧ v.inYard = false ∧ v.state.isBound = false ∧ v.state ≠ .held := by
      rcases (Visit.finished_iff v).mp finished with done | ⟨isVoid, mark⟩
      · have stands : v.standsAs = .done := by rw [Visit.standsAs, done]; rfl
        exact ⟨stands.trans done.symm, lawful.outside (.inr (.inr stands)), by rw [done]; rfl, by rw [done]; nofun⟩
      · exact ⟨by rw [Visit.standsAs, isVoid]; rfl, mark, by rw [isVoid]; rfl, by rw [isVoid]; nofun⟩
    obtain ⟨stands, mark, away, unheld⟩ := state
    refine h.removeVisit hv (.of_state (lawful.lane_none away) unheld) mark ?_
    by_contra reserved
    rcases (Visit.finished_iff v).mp finished with e | ⟨e, -⟩ <;>
      obtain ⟨-, x | x | x | x⟩ := lawful.reserved reserved <;> rw [stands, e] at x <;> cases x
  · exact h

/-! ### BOOK (R14) -/

/-- R14: the laws after a booking is written. -/
theorem create (h : Kept none s u) (lawful : VisitLawful w) (state : w.state = .booked) (ticket : w.ticket = none)
    (lane : w.lane = none) (reserves : w.reservation = 0) (small : slot < 192) (free : u.visit slot = none)
    (vehicle : ∃ veh, u.vehicles.get w.vehicle = some veh ∧ veh.tag = w.tag)
    (permit : ∀ number, w.permit = some number → (u.permits.get number).isSome = true)
    (alone : ∀ k x, u.visit k = some x → x.tag = w.tag → x.state ≠ .booked) :
    Kept none s (((u.addLive w 1).setVisit slot w).touch slot) := by
  have tables := (((Tidy.refl u).addLive (x := w) (d := 1)).setVisit (k := slot) (x := w)).tables h.law.books.tables
  rw [State.setVisit_touch]
  obtain ⟨y, hy⟩ : ∃ y, y = u.addLive w 1 := ⟨_, rfl⟩
  have rest : y = { u with vehicles := y.vehicles, permits := y.permits } := hy ▸ u.addLive_rest w 1
  rw [← hy] at tables ⊢
  have vt : y.vt = u.vt := by rw [rest]
  have records : (y.vt.records.put slot w) = u.vt.records.put slot w := by rw [vt]
  have outside : w.inYard = false := lawful.outside (.inl (by rw [Visit.standsAs, state]; rfl))
  refine h.apart (slot := slot) ?_ (fun x hx => ?_) (fun x hx => ?_) (fun k hk => ?_) (by rw [rest]) (by rw [rest])
    (by rw [rest])
  · refine h.law.books.create (w := w) small free lawful (by simp [Visit.finished, state]) outside
      (fun k x b _ _ e => by rw [ticket] at e; cases e) (fun _ => alone) (fun e => absurd state e.1) vehicle permit
      ⟨tables.records, tables.vehicles, tables.permits⟩
      records (by rw [vt]) (by rw [vt]; exact h.law.books.visits.next) (by rw [vt])
      (.of_addLive (w := w) (d := 1) (u := u) (fun f => ?_) (fun f => (one_mul _).symm) reserves rfl rfl (by rw [hy])
        (by rw [hy]) (fun veh _ => by omega) fun k p _ _ => by omega)
    rw [State.tally_put (slot := slot) (w := w) f h.law.books.tables.records records, free]
    simp only [Option.elim]
    ring
  · rw [free] at hx
    cases hx
  · have hx : (y.vt.records.put slot w).get slot = some x := hx
    rw [Table.get_put_self] at hx
    cases hx
    exact lane
  · rw [State.visit, records]
    exact Table.get_put_of_ne _ _ hk

theorem bookVisit (h : Kept none s u) {permit : Option Nat} (fits : permit.isSome = decide (kind = .tip))
    {useTare : Bool}
    {day : Nat} : Kept none s (u.bookVisit tag kind permit useTare day).1 := by
  unfold State.bookVisit
  split
  · exact h
  · rename_i index veh found
    split
    · exact h
    · rename_i present
      split
      · exact h
      · rename_i unbooked
        split
        · exact h
        · rename_i slot free
          obtain ⟨small, free, -⟩ := Table.lowestFree_some free
          have free : u.visit slot = none := free
          have hveh := State.vehicleByTag_get h.law.books.tables.vehicles found
          have lawful : VisitLawful (newVisit kind tag index permit useTare (some day)) :=
            newVisit_lawful kind tag index useTare (some day) fits
          refine h.create lawful rfl rfl rfl rfl small free ⟨veh, hveh⟩ (fun number hn => ?_)
            (fun k x hx ht => State.byTagBooked_none (tag := tag) (by simpa using unbooked) k x hx ht)
          have hn : permit = some number := hn
          rw [hn] at present
          simpa [State.permitMissing, Option.isSome_iff_ne_none] using present

/-! ### AMEND, TIP DECLARE, TAKE CHANGES (R15, R20, R26) -/

theorem amendVisit (h : Kept none s u) (hv : u.visit slot = some v) {useTare : Bool} {day : Nat} :
    Kept none s (u.amendVisit slot v useTare day).1 := by
  unfold State.amendVisit
  split
  · exact h.quiet ((Quiet.refl u).retouch hv ⟨rfl, rfl, fun _ => rfl, rfl, rfl, rfl, rfl, rfl, id, id⟩)
  · exact h.quiet ((Quiet.refl u).retouch hv ⟨rfl, rfl, fun _ => rfl, rfl, rfl, rfl, rfl, rfl, id, id⟩)
  all_goals exact h

theorem declareTip (h : Kept none s u) (hv : u.visit slot = some v) {category : Nat} :
    Kept none s (u.declareTip slot v category).1 := by
  unfold State.declareTip
  dsimp only
  split
  · exact h
  · split
    · exact h
    · split
      · exact h
      · split
        · exact h
        · split
          · exact h
          · exact h.quiet ((Quiet.refl u).retouch hv ⟨rfl, rfl, fun _ => rfl, rfl, rfl, rfl, rfl, rfl, id, id⟩)

theorem takeChanges (h : Kept none s u) : Kept none s u.takeChanges.1 :=
  h.quiet ⟨fun books => books.of_changes (changes := u.vt.changes.drop 8) rfl rfl rfl, fun _ => rfl, fun _ => rfl,
    fun _ => rfl, rfl⟩

end Kept

end Sys2Proof.Machine
end

section
/-! A completing reading between a request and its unbinding claim (R64, R131): the lane and its barrier pass over what
the Visit Table reports. -/

namespace Sys2Proof.Machine

variable {s t u : State} {n : Fin 4} {slot : Nat} {v w : Visit} {r : HoldReason} {l : Lane} {b : Barrier} {c : Capture}

/-! ### RELEASING moves the lane and its barrier alone (R63) -/

theorem State.endReleasing_others (s : State) (n : Fin 4) : OtherLanesKept s (s.endReleasing n) n := by
  unfold endReleasing
  split
  · exact (OtherLanesKept.setLane s _).trans (OtherLanesKept.setTracking _ _ _)
  · exact .refl s n

theorem State.enterReleasing_others (s : State) (n : Fin 4) (held : Option Nat) :
    OtherLanesKept s (s.enterReleasing n held) n := by
  rw [enterReleasing_eq_end]
  exact (s.beginReleasing_others n held).trans (State.endReleasing_others _ _)

theorem State.endReleasing_loader (s : State) (n : Fin 4) : (s.endReleasing n).loader = s.loader := by
  unfold endReleasing
  split <;> rfl

theorem State.enterReleasing_loader (s : State) (n : Fin 4) (held : Option Nat) :
    (s.enterReleasing n held).loader = s.loader := by
  rw [enterReleasing_eq_end, endReleasing_loader]
  rfl

/-! ### A lane and its barrier as they were -/

/-- R131: a state with a lane and its barrier as they were. -/
def State.restored (s : State) (n : Fin 4) (l : Lane) (b : Barrier) : State := (s.setLane n l).setBarrier n b

theorem Quiet.restored (q : Quiet u t) : Quiet (u.restored n l b) (t.restored n l b) := by
  refine ⟨fun books => ?_, q.visits, fun m => ?_, fun m => ?_, q.status⟩
  · exact (q.books (books.of_books (t := u) rfl)).of_books rfl
  · simp only [State.restored, State.lane_setBarrier, State.lane_setLane]
    split
    · rfl
    · exact q.lanes m
  · simp only [State.restored, State.barrier_setBarrier, State.barrier_setLane]
    split
    · rfl
    · exact q.barriers m

/-- R131: an operation that moves the lane and its barrier alone is passed over. -/
theorem Quiet.restored_of_others (books : t.books = u.books) (others : OtherLanesKept u t n)
    (loader : t.loader = u.loader) :
    Quiet (u.restored n l b) (t.restored n l b) := by
  refine .of_books books (fun m => ?_) (fun m => ?_) (congrArg Loader.status loader)
  · simp only [State.restored, State.lane_setBarrier, State.lane_setLane]
    split
    · rfl
    · rename_i hm
      rw [(others m (Ne.symm hm)).1]
  · simp only [State.restored, State.barrier_setBarrier, State.barrier_setLane]
    split
    · rfl
    · rename_i hm
      rw [(others m (Ne.symm hm)).2.1]

/-- R131: the laws hold, and the lane and its barrier are as they were. -/
structure Stands (n : Fin 4) (l : Lane) (b : Barrier) (s u : State) : Prop where
  kept    : Kept none s u
  lane    : (u.lane n).tie = l.tie
  barrier : (u.barrier n).tie = b.tie

/-- R131: the laws hold once the lane and its barrier are as they were, or hold but for the lane, which its visit has
left. -/
def Behind (n : Fin 4) (l : Lane) (b : Barrier) (s t : State) : Prop := Loosely n s (t.restored n l b)

theorem Loosely.quiet (h : Loosely n s u) (q : Quiet u t) : Loosely n s t := by
  rcases h with h | h
  · exact .inl (h.quiet q)
  · exact .inr (h.quiet q)

theorem Behind.quiet (h : Behind n l b s u) (q : Quiet u t) : Behind n l b s t := Loosely.quiet h q.restored

theorem Behind.beside (h : Behind n l b s u) (books : t.books = u.books) (others : OtherLanesKept u t n)
    (loader : t.loader = u.loader) : Behind n l b s t := Loosely.quiet h (.restored_of_others books others loader)

theorem Quiet.of_restored (lane : (u.lane n).tie = l.tie) (barrier : (u.barrier n).tie = b.tie) :
    Quiet u (u.restored n l b) := ((Quiet.refl u).setLane lane.symm).setBarrier barrier.symm

theorem Loosely.behind (h : Loosely n s u) (lane : (u.lane n).tie = l.tie) (barrier : (u.barrier n).tie = b.tie) :
    Behind n l b s u := h.quiet (.of_restored lane barrier)

namespace Stands

theorem quiet (h : Stands n l b s u) (q : Quiet u t) : Stands n l b s t :=
  ⟨h.kept.quiet q, (q.lanes n).trans h.lane, (q.barriers n).trans h.barrier⟩

theorem behind (h : Stands n l b s u) : Behind n l b s u := Loosely.behind (.inl h.kept) h.lane h.barrier

/-! ### What the Visit Table reports -/

theorem holdToReleasing (h : Stands n l b s u) : Behind n l b s (u.holdToReleasing n r) := by
  unfold State.holdToReleasing
  split
  · exact h.behind
  · rename_i ticket _
    have left : Behind n l b s (u.holdBound n r) := by
      refine Loosely.behind (.inr h.kept.holdBound) ?_ ?_
      · rw [State.holdBound_lane]
        exact h.lane
      · rw [congrArg (fun x => x.barrier n) (u.holdBound_rest n r)]
        exact h.barrier
    exact left.beside (by simp) (State.enterReleasing_others _ _ _) (State.enterReleasing_loader _ _ _)

theorem reportEligible (h : Stands n l b s u) : Behind n l b s (u.reportEligible n) :=
  h.behind.beside (by simp) (State.reportEligible_others u n) (congrArg State.loader (u.reportEligible_rest n) :)

theorem clearance (h : Stands n l b s u) (hv : u.visit slot = some v) (lane : v.lane = some n)
    (exiting : v.state = .exiting) :
    Behind n l b s (u.clearance n slot) := by
  cases hn : u.nets v with
  | none =>
    rw [State.clearance_none hv hn]
    have filled : Quiet u ({ u with free := u.free + v.countedWeighings.length }.setVisit slot (u.filledVisit v)) :=
      (Quiet.refl u).spend.rewrite hv ⟨rfl, rfl, fun _ => rfl, rfl, rfl, rfl, rfl, rfl, id, id⟩
    exact (h.quiet filled).holdToReleasing
  | some ns =>
    rw [State.clearance_some hv hn]
    have cleared : Stands n l b s (u.clearBooks n slot v ns) := by
      refine ⟨h.kept.clearBooks hv lane exiting, ?_, ?_⟩ <;> rw [u.clearBooks_rest n slot v ns]
      · exact h.lane
      · exact h.barrier
    exact cleared.reportEligible

theorem entryEffect (h : Stands n l b s u) (hv : u.visit slot = some v) (lane : v.lane = some n) {role : Role}
    (hr : roleOf v.state = some role) : Behind n l b s (u.entryEffect n slot role) := by
  cases hs : v.state <;> rw [hs] at hr <;> cases hr
  · exact h.reportEligible
  · exact h.reportEligible
  · exact h.clearance hv lane hs

theorem weighingArrives (h : Stands n l b s u) {ticket : Nat} {x : Weighing}
    (legal : x.legal = true → x.result = .complete) :
    Behind n l b s (u.weighingArrives n ticket x) := by
  have arrives := u.weighingArrives_arrives h.kept.law.books.tables.records n ticket legal
  generalize u.weighingArrives n ticket x = t at arrives
  cases arrives with
  | quiet q => exact (h.quiet q).behind
  | counts _ lane role _ q written => exact (h.quiet q).entryEffect written lane role

/-! ### The reading -/

theorem settleGathered (h : Stands n l b s u) {p : Bool} {g : Gathered} :
    Behind n l b s (u.settleGathered n c p g) := by
  have ended : Stands n l b s (u.setEngine n { u.engine n with run := none }) := h.quiet (Quiet.refl u).setEngine
  unfold State.settleGathered
  dsimp only
  split
  · refine (ended.weighingArrives ?_).quiet (Quiet.refl _).recordOutcome
    cases p <;> simp
  · exact (ended.quiet ((Quiet.refl _).setLane (by rfl)).recordOutcome).behind

theorem countFailure (h : Stands n l b s u) : Behind n l b s (u.countFailure n) := by
  unfold State.countFailure
  dsimp only
  split
  · exact (h.quiet (Quiet.refl u).setEngine).holdToReleasing
  · exact (h.quiet (Quiet.refl u).setEngine).behind

theorem settleFailed (h : Stands n l b s u) {f : FailReason} : Behind n l b s (u.settleFailed n c f) := by
  have ended : Stands n l b s (u.setEngine n { u.engine n with run := none }) := h.quiet (Quiet.refl u).setEngine
  unfold State.settleFailed
  dsimp only
  split
  · exact ended.countFailure.quiet (Quiet.refl _).recordOutcome
  · exact (ended.quiet ((Quiet.refl _).setLane (by rfl)).recordOutcome).behind

theorem goOn (h : Stands n l b s u) : Stands n l b s (u.goOn n c) := h.quiet (Quiet.refl u).goOn

theorem endBurst (h : Stands n l b s u) : Behind n l b s (u.endBurst n c) := by
  unfold State.endBurst
  split
  · exact h.settleFailed
  · exact h.settleGathered

theorem judgeBurst (h : Stands n l b s u) : Behind n l b s (u.judgeBurst n c) := by
  unfold State.judgeBurst
  split
  · exact h.goOn.endBurst
  · exact h.goOn.behind

theorem axleReading (h : Stands n l b s u) {st : DeckState} {kg : Int} {x : Bool} :
    Behind n l b s (u.axleReading n c st kg x) := by
  unfold State.axleReading
  split
  · split
    · exact h.endBurst
    · exact h.behind
  · exact h.goOn.behind
  · exact h.judgeBurst
  · exact h.judgeBurst
  · exact h.judgeBurst
  · exact h.goOn.behind
  · exact h.behind

theorem captureReading (h : Stands n l b s u) {st : DeckState} {kg : Int} {x : Bool} :
    Behind n l b s (u.captureReading n st kg x) := by
  unfold State.captureReading
  split
  · exact h.behind
  · split
    · exact h.settleFailed
    · exact h.settleFailed
    all_goals
      split
      · exact h.axleReading
      · split
        · exact h.settleGathered
        · exact h.behind

theorem takeSample (h : Stands n l b s u) {p : DeckParams} {raw : Nat} {o : Bool} {f : Nat} :
    Behind n l b s (u.takeSample n p raw o f) := by
  unfold State.takeSample
  dsimp only
  split
  · exact (h.quiet (Quiet.refl u).setDeck.followLevels).captureReading
  · exact (h.quiet (Quiet.refl u).setDeck.trackIfDue.followLevels).captureReading

end Stands

theorem Kept.stands (h : Kept none s u) (n : Fin 4) : Stands n (u.lane n) (u.barrier n) s u := ⟨h, rfl, rfl⟩

/-! ### The claim that follows (R64, R65, R68) -/

theorem Kept.meetReading (h : Kept none s u) : Loosely n s (u.meetReading n) := by
  unfold State.meetReading
  split
  · exact .inl h
  · rename_i t taken
    split
    · split
      · have behind : Behind n (u.lane n) (u.barrier n) s t := by
          unfold State.takeWaitingSample at taken
          split at taken
          · split at taken
            · cases taken
              exact ((h.stands n).quiet (Quiet.refl u).setLoop).takeSample
            · cases taken
          · cases taken
        exact behind.quiet (Quiet.refl t).spend
      · exact .inl (h.quiet (Quiet.refl u).spend)
    · exact .inl h

/-- R131: the lane and its barrier pass over the reading. -/
theorem State.meetReading_lane (u : State) (n : Fin 4) :
    (u.meetReading n).lane n = u.lane n ∧ (u.meetReading n).barrier n = u.barrier n := by
  unfold meetReading
  split
  · exact ⟨rfl, rfl⟩
  · split
    · split
      · simp
      · exact ⟨rfl, rfl⟩
    · exact ⟨rfl, rfl⟩

end Sys2Proof.Machine
end

section
/-! The Lane Controllers' requests (R52, R64, R65, R68, R70). -/

namespace Sys2Proof.Machine

variable {s t u : State} {n : Fin 4} {slot ticket : Nat} {v w : Visit} {r : HoldReason}

/-! ### The record of a lane leaves it -/

/-- R5, R23, R64: the laws, but for its lane, after a lane's record has left it. -/
theorem Kept.vacate (h : Kept none s u) (here : BoundHere u n slot v ticket) (books : BooksLawful t)
    (self : t.visit slot = some w) (away : w.lane = none) (others : OtherVisitsKept u t slot)
    (lanes : t.lanes = u.lanes) (barriers : t.barriers = u.barriers) (loader : t.loader = u.loader) :
    Kept (some n) s t := by
  have lane (m : Fin 4) : t.lane m = u.lane m := by rw [State.lane, lanes, State.lane]
  have barrier (m : Fin 4) : t.barrier m = u.barrier m := by rw [State.barrier, barriers, State.barrier]
  have unheld : v.state ≠ .held := fun e => by
    have := here.state
    rw [e] at this
    cases this
  refine ⟨h.law.records books (by simp) (fun m => by rw [lane]) (fun m => by rw [barrier]; exact ⟨rfl, rfl⟩)
    (fun m hm => .of_elsewhere others (fun x hx => ?_) fun x hx => ?_) ?_ (by rw [loader]),
    h.calm.trans fun m => .of_tie (by rw [barrier])⟩
  · rw [here.stands] at hx
    cases hx
    exact ⟨fun e => hm (here.lane.symm.trans e), fun _ _ _ => unheld⟩
  · rw [self] at hx
    cases hx
    rw [away]
    nofun
  · rintro m ⟨⟩ k x hx
    by_cases hk : k = slot
    · rw [hk, self] at hx
      cases hx
      rw [away]
      nofun
    · rw [others k hk] at hx
      intro e
      obtain ⟨ticket', there⟩ := h.law.boundHere (by simp) hx e
      have same := there.bound
      rw [here.bound] at same
      cases same
      have := there.found
      rw [here.found] at this
      cases this
      exact hk rfl

/-- R64: a record as LANE RELEASE returns it to the yard is lawful by itself. -/
theorem VisitLawful.returned (h : VisitLawful v) (state : v.state = .reweighing ∨ v.state = .exiting) :
    VisitLawful { v with state := .inYard, lane := none, weighings := State.withdrawBinding v } := by
  have isBound : v.state.isBound = true := by rcases state with e | e <;> rw [e] <;> rfl
  have stood : v.standsAs = v.state := h.standsAs_of_bound isBound
  obtain ⟨places, legal⟩ : (State.withdrawBinding v).length ≤ 6 ∧
      ∀ x ∈ State.withdrawBinding v, x.legal = true → x.result = .complete := by
    refine ⟨by simpa [State.withdrawBinding] using h.places, fun x hx => ?_⟩
    obtain ⟨⟨y, k⟩, hy, rfl⟩ := List.mem_map.mp hx
    have before := h.legal y (List.fst_mem_of_mem_zipIdx hy)
    dsimp only
    split <;> exact before
  generalize State.withdrawBinding v = ws at places legal
  have stands : Visit.standsAs { v with state := .inYard, lane := none, weighings := ws } = .inYard := rfl
  constructor
  case named =>
    rw [stands]
    refine ⟨fun e => ?_, nofun⟩
    have booked := h.named.mp e
    rw [stood] at booked
    rw [booked] at isBound
    cases isBound
  case ticket => exact h.ticket
  case bound => rfl
  case held => nofun
  case free => exact fun _ => h.free fun e => by rw [e] at isBound; cases isBound
  case outside =>
    rw [stands]
    rintro (e | e | e) <;> cases e
  case inside =>
    refine fun _ => h.inside ?_
    rcases state with e | e
    · exact .inr (.inl (stood.trans e))
    · exact .inr (.inr (.inl e))
  case permit => exact h.permit
  case reserved => exact fun e => ⟨(h.reserved e).1, .inr (.inl stands)⟩
  case places => exact places
  case legal => exact legal

/-- R64: the laws, but for the lane, with its visit back in the yard. -/
theorem Kept.returnToYard (h : Kept none s u) (here : BoundHere u n slot v ticket)
    (state : v.state = .reweighing ∨ v.state = .exiting) : Kept (some n) s (u.returnToYard slot v) := by
  have lawful := (h.law.books.visits.each slot v here.stands).2
  have returned := lawful.returned state
  have active : v.InProgress := by rcases state with e | e <;> exact ⟨by rw [e]; nofun, by simp [Visit.finished, e]⟩
  unfold State.returnToYard
  rw [State.setVisit_touch]
  refine h.vacate here (w := { v with state := .inYard, lane := none, weighings := State.withdrawBinding v })
    (h.law.books.revise_record (v := v)
      (w := { v with state := .inYard, lane := none, weighings := State.withdrawBinding v })
      ⟨here.stands, returned, rfl, rfl, rfl, .inl rfl, nofun, fun _ => .inl active, fun e => by
        rw [active.2] at e; cases e⟩ (h.law.books.tables.write (slot := slot)
          (w := { v with state := .inYard, lane := none, weighings := State.withdrawBinding v }) rfl rfl rfl) rfl
      (sub_add_cancel _ _).symm rfl rfl rfl rfl rfl) ?_ rfl (fun k hk => Table.get_put_of_ne _ _ hk) rfl rfl rfl
  exact Table.get_put_self _ _ _

/-! ### LANE RELEASE (R64) -/

/-- R131: where a lane's ticket still finds a record that is not held, the laws hold. -/
theorem Loosely.kept (h : Loosely n s u) (found : u.boundRecord n = some (slot, v)) (unheld : v.state ≠ .held) :
    Kept none s u := by
  refine h.resolve_right fun leaving => ?_
  unfold State.boundRecord at found
  split at found
  · cases found
  · rename_i ticket bound
    obtain ⟨⟨k, w, awaited⟩, -⟩ := leaving.watch ticket (by rw [State.resetHeld, bound])
    have same := leaving.kept.law.books.byTicket awaited.stands awaited.ticket
    rw [found] at same
    cases same
    exact unheld awaited.held

theorem Loosely.releaseHeld (h : Loosely n s u) (hs : (u.lane n).state ≠ .closed)
    (bound : (u.lane n).bound.isSome = true) :
    Kept none s (u.releaseHeld n) := by
  have same : (u.lane n).bound = State.resetHeld (u.lane n) := by
    obtain ⟨ticket, hb⟩ := Option.isSome_iff_exists.mp bound
    rw [State.resetHeld, hb]
  unfold State.releaseHeld
  rw [same]
  exact h.holdAndAbort.releaseWith (h.holdAndAbort_awake hs) (resetHeld_eq (h.holdAndAbort_ties n _).1).symm

theorem Kept.releaseToYard (h : Kept none s u) (found : u.boundRecord n = some (slot, v))
    (state : v.state = .reweighing ∨ v.state = .exiting) : Kept none s (u.releaseToYard n slot v) := by
  obtain ⟨ticket, here⟩ := h.law.boundRecord (by simp) found
  have left : Kept (some n) s ((u.returnToYard slot v).abortCapture n) := by
    have returned := h.returnToYard here state
    exact returned.quiet (abortCapture_quiet returned.law.books.tables.records n)
  refine left.release ?_
  have q := abortCapture_quiet (h.returnToYard here state).law.books.tables.records n
  rw [q.status]
  have same : (u.returnToYard slot v).loader = u.loader := by simp [State.returnToYard]
  have has := h.law.hasVisit_of_bound (by simp) here.bound
  rw [same]
  exact h.law.awake fun e => by rw [e] at has; cases has

/-- R64: the claim of LANE RELEASE. -/
theorem Loosely.releaseClaim (h : Loosely n s u) (hs : (u.lane n).state ≠ .closed)
    (bound : (u.lane n).bound.isSome = true) : Kept none s (u.releaseClaim n).1 := by
  have held : Kept none s ((u.releaseHeld n).tryOnIdle n u) := (h.releaseHeld hs bound).tryOnIdle
  unfold State.releaseClaim
  split
  · exact held
  · exact held
  · exact held
  · rename_i slot v found _ _
    split
    · rename_i state
      have unheld : v.state ≠ .held := by rcases state with e | e <;> rw [e] <;> nofun
      exact ((h.kept found unheld).releaseToYard found state).tryOnIdle
    · split
      · rename_i cleared
        exact h.kept found (by rw [cleared.1]; nofun)
      · exact held

theorem Kept.releaseLane (h : Kept none s u) (has : (u.lane n).state.hasVisit = true) :
    Kept none s (u.releaseLane n).1 := by
  obtain ⟨slot, v, ticket, here⟩ := h.law.boundHere_of_hasVisit (by simp) has
  obtain ⟨lane, -⟩ := u.meetReading_lane n
  refine h.meetReading.releaseClaim ?_ ?_
  · rw [lane]
    intro e
    rw [e] at has
    cases has
  · rw [lane, here.bound]
    rfl

/-! ### LANE RESET (R65) -/

theorem Barrier.clearFault_rest (b : Barrier) (travel : Nat) :
    (b.clearFault travel).order = b.order ∧ (b.clearFault travel).tracking = b.tracking ∧
      (b.clearFault travel).image = b.image ∧ ((b.clearFault travel).state = .raising → b.state = .raising) := by
  unfold clearFault
  split
  · split <;> exact ⟨rfl, rfl, rfl, nofun⟩
  · exact ⟨rfl, rfl, rfl, id⟩

/-- R65, R82: the barrier after step 2 of LANE RESET. -/
theorem State.resetBarrier_barrier (s : State) (n : Fin 4) :
    ((s.resetBarrier n).barrier n).order = .lower ∧ ((s.resetBarrier n).barrier n).tracking = (s.barrier n).tracking ∧
      CalmAt s (s.resetBarrier n) n := by
  obtain ⟨-, tracking, image, raising⟩ := (s.barrier n).clearFault_rest (s.frames .travel)
  have barrier : (s.resetBarrier n).barrier n = ((s.barrier n).clearFault (s.frames .travel)).giveOrder .lower
      (s.frames .travel) (s.frames .gateClear) := by
    rw [resetBarrier, orderBarrier_barrier, barrier_setBarrier_self]
    rfl
  have tie := ((s.barrier n).clearFault (s.frames .travel)).giveOrder_lower (s.frames .travel) (s.frames .gateClear)
  rw [← barrier] at tie
  simp only [Barrier.tie, Prod.mk.injEq] at tie
  obtain ⟨order, tracked, state, imaged⟩ := tie
  exact ⟨order, tracked.trans tracking, fun e => (by rw [order] at e; cases e), fun e => raising (state ▸ e),
    imaged.trans image⟩

theorem Leaving.resetBarrier (h : Leaving n s u) : Leaving n s (u.resetBarrier n) := by
  have calm := (u.resetBarrier_barrier n).2.2
  unfold State.resetBarrier State.orderBarrier at calm ⊢
  rw [State.setBarrier_setBarrier] at calm ⊢
  exact h.setBarrier calm

/-- R65: a lane that LANE RESET leaves in FAULT. -/
theorem Leaving.stayInFault (h : Leaving n s u) (fault : (u.lane n).state = .fault) (bound : (u.lane n).bound = none)
    (heldVisit : (u.lane n).heldVisit = none) (order : (u.barrier n).order = .lower)
    (tracking : (u.barrier n).tracking = .inactive) : Kept none s u :=
  h.kept.settle (h.awake (by rw [fault]; nofun)) (.refl u n) rfl rfl (by rw [fault]; rfl) bound heldVisit
    (fun e => by rw [order] at e; cases e) tracking (.of_tie rfl)

theorem Loosely.holdAndAbort_barrier (h : Loosely n s u) (m : Fin 4) (r : HoldReason) :
    ((u.holdAndAbort n r).barrier m).tie = (u.barrier m).tie := by
  have q := abortCapture_quiet (h.leaving_holdBound (r := r)).kept.law.books.tables.records n
  exact (q.barriers m).trans (congrArg (fun x => (x.barrier m).tie) (u.holdBound_rest n r))

theorem Kept.resetLane (h : Kept none s u) (hs : (u.lane n).state ≠ .closed) : Kept none s (u.resetLane n) := by
  have law := h.law.lanes n (by simp)
  have met := h.meetReading (n := n)
  obtain ⟨lane, barrier⟩ := u.meetReading_lane n
  rw [← lane] at hs law
  rw [← barrier] at law
  unfold State.resetLane State.resetClaims
  generalize u.meetReading n = y at met law hs
  have left : Leaving n s ((y.holdAndAbort n .laneReset).resetBarrier n) := met.holdAndAbort.resetBarrier
  have awake : ((y.holdAndAbort n .laneReset).resetBarrier n).loader.status ≠ .loading := met.holdAndAbort_awake hs
  obtain ⟨order, tracked, -⟩ := (y.holdAndAbort n .laneReset).resetBarrier_barrier n
  have tracking := tracked.trans (Barrier.tie_eq (met.holdAndAbort_barrier n .laneReset)).2.1
  have tie : (((y.holdAndAbort n .laneReset).resetBarrier n).lane n).tie = (y.lane n).tie :=
    (met.holdAndAbort_ties n .laneReset).1
  generalize (y.holdAndAbort n .laneReset).resetBarrier n = z at left awake order tracking tie
  have moved : Kept none s (z.resetMove n (y.lane n)) := by
    unfold State.resetMove
    split
    · split
      · rename_i fault
        obtain ⟨state, bound, heldVisit, -, -⟩ := Lane.tie_eq tie
        refine left.stayInFault (state.trans fault) (bound.trans (law.free (by rw [fault]; rfl))) ?_ order
          (tracking.trans (law.tracking_inactive (by rw [fault]; nofun) (by rw [fault]; nofun)))
        rw [heldVisit]
        by_contra watching
        obtain ⟨ticket, watches⟩ := Option.ne_none_iff_exists'.mp watching
        have releasing := (law.watched ticket watches).1
        rw [fault] at releasing
        cases releasing
      · exact left.kept.enterFault awake
    · exact left.releaseWith awake (resetHeld_eq tie).symm
  exact moved.quiet ((Quiet.refl _).setLane (by rfl))

/-! ### MAINTAIN ON and MAINTAIN OFF (R68, R70) -/

theorem Kept.maintainOn (h : Kept none s u) : Kept none s (u.maintainOn n).1 := by
  unfold State.maintainOn
  split
  · exact h
  · exact h
  · exact h
  all_goals
    rename_i state
    refine (h.meetReading (n := n)).startMaintenance ?_
    rw [(u.meetReading_lane n).1, state]
    nofun

theorem Kept.startMaintenance (h : Kept none s u) (hs : (u.lane n).state ≠ .closed) :
    Kept none s (u.startMaintenance n) :=
  Loosely.startMaintenance (.inl h) hs

theorem Kept.endMaintenance (h : Kept none s u) (state : (u.lane n).state = .maintenance) :
    Kept none s (u.endMaintenance n) := by
  have ended : Kept none s (u.abortCapture n) := h.abortCapture
  have stays : ((u.abortCapture n).lane n).state = .maintenance :=
    (Lane.tie_eq ((abortCapture_quiet h.law.books.tables.records n).lanes n)).1.trans state
  have leaving := ended.leaving (n := n) (by rw [stays]; rfl)
  have awake := leaving.awake (by rw [stays]; nofun)
  unfold State.endMaintenance
  dsimp only
  split
  · exact leaving.kept.enterFault awake
  · exact (leaving.kept.release awake).tryOnIdle

theorem Kept.maintainOff (h : Kept none s u) : Kept none s (u.maintainOff n).1 := by
  unfold State.maintainOff
  split
  · rename_i state
    exact h.endMaintenance state
  · exact h

/-! ### LANE MODE (R52) -/

/-- R52: what a lane with no visit, that is neither RELEASING nor in MAINTENANCE, is. -/
structure Vacant (s : State) (n : Fin 4) : Prop where
  bound     : (s.lane n).bound = none
  heldVisit : (s.lane n).heldVisit = none
  order     : (s.barrier n).order ≠ .raise
  tracking  : (s.barrier n).tracking = .inactive

theorem LawfulBut.isVacant (h : LawfulBut none s) (state : (s.lane n).state = .idle ∨ (s.lane n).state = .closed) :
    Vacant s n := by
  have law := h.lanes n (by simp)
  have apart (st : LaneState) (h1 : st ≠ .idle) (h2 : st ≠ .closed) : (s.lane n).state ≠ st := by
    rcases state with e | e <;> rw [e]
    · exact h1.symm
    · exact h2.symm
  refine ⟨law.free (by rcases state with e | e <;> rw [e] <;> rfl), ?_, fun e => ?_,
    law.tracking_inactive (apart _ nofun nofun) (apart _ nofun nofun)⟩
  · by_contra watching
    obtain ⟨ticket, watches⟩ := Option.ne_none_iff_exists'.mp watching
    exact apart .releasing nofun nofun (law.watched ticket watches).1
  · exact (law.raised e).elim (apart .passing nofun nofun) (apart .maintenance nofun nofun)

/-- R5: the laws, but for a lane, read nothing of that lane and its barrier. -/
theorem Kept.besides (h : Kept (some n) s u) (awake : u.loader.status ≠ .loading) (others : OtherLanesKept u t n)
    (books : t.books = u.books) (loader : t.loader = u.loader) (calm : CalmAt u t n) : Kept (some n) s t := by
  obtain ⟨vt, -, -⟩ := State.books_eq books
  have visits : t.visit = u.visit := by
    funext k
    rw [State.visit, vt, State.visit]
  refine ⟨⟨h.law.books.of_books books, fun m hm => ?_, visits ▸ h.law.vacant, fun m k x hm hk em ek => ?_,
    fun e => absurd (loader ▸ e) awake⟩, h.calm.trans (.of_others others calm)⟩
  · obtain ⟨lane, barrier, -, -⟩ := others m fun e => hm (by rw [e])
    rw [visits, lane, barrier]
    exact h.law.lanes m hm
  · rw [(others m fun e => hm (by rw [e])).1] at em
    rw [(others k fun e => hk (by rw [e])).1] at ek
    exact h.law.once m k x hm hk em ek

/-- R52: a vacant lane takes the state of its mode. -/
theorem Kept.moveByMode (h : Kept (some n) s u) (awake : u.loader.status ≠ .loading) (vacant : Vacant u n)
    (state : (u.lane n).state = .idle ∨ (u.lane n).state = .closed) : Kept none s (u.moveByMode n) := by
  have openLane : Kept none s (u.openLane n) := by
    unfold State.openLane
    split
    · exact h.enterFault awake
    · have lane := u.lane_setLane_self n
        { u.lane n with state := .idle, boundTag := none, display := (⟨.welcome, 0⟩ : Display) }
      refine h.settle awake (.setLane u _) rfl rfl ?_ ?_ ?_ (fun e =>
          absurd e vacant.order) vacant.tracking (.of_tie rfl) <;>
        rw [lane]
      · rfl
      · exact vacant.bound
      · exact vacant.heldVisit
  unfold State.moveByMode
  split
  · have lane : (u.closeLane n).lane n =
        { u.lane n with state := .closed, boundTag := none, display := ⟨.closed, 0⟩ } := by
      simp [State.closeLane]
    have barrier : ((u.closeLane n).barrier n).tie =
        (.lower, (u.barrier n).tracking, (u.barrier n).state, (u.barrier n).image) := by
      simp [State.closeLane, Barrier.tie]
    simp only [Barrier.tie, Prod.mk.injEq] at barrier
    obtain ⟨order, tracking, gate, image⟩ := barrier
    refine h.settle awake ((OtherLanesKept.setLane u _).trans (OtherLanesKept.orderBarrier _ _)) rfl rfl ?_ ?_ ?_
      (fun e => by rw [order] at e; cases e) (tracking.trans vacant.tracking) (.of_lower order gate image) <;> rw [lane]
    · rfl
    · exact vacant.bound
    · exact vacant.heldVisit
  · exact openLane
  · exact openLane
  · exact openLane
  · exact h.settle awake (.refl u n) rfl rfl (by rcases state with e | e <;> rw [e] <;> rfl) vacant.bound vacant.heldVisit
      (fun e => absurd e vacant.order) vacant.tracking (.of_tie rfl)

theorem Kept.setMode (h : Kept none s u) (awake : u.loader.status ≠ .loading) {mode : LaneMode} {a w t c : Bool} :
    Kept none s (u.setMode n mode a w t c).1 := by
  unfold State.setMode
  split
  · rename_i state
    have leaving := h.leaving (n := n) (by rcases state with e | e <;> rw [e] <;> rfl)
    have vacant := h.law.isVacant state
    have lane : ((u.writeMode n mode a w t c).lane n).tie =
        ((u.lane n).state, (u.lane n).bound, (u.lane n).heldVisit, mode, (u.lane n).eligible) := by
      simp [State.writeMode, Lane.tie]
    simp only [Lane.tie, Prod.mk.injEq] at lane
    obtain ⟨kept, bound, heldVisit, -, -⟩ := lane
    refine (leaving.kept.besides awake (.setLane u _) rfl rfl (.of_tie rfl)).moveByMode awake ⟨bound.trans vacant.bound,
      heldVisit.trans vacant.heldVisit, vacant.order, vacant.tracking⟩ ?_
    show ((u.writeMode n mode a w t c).lane n).state = .idle ∨ ((u.writeMode n mode a w t c).lane n).state = .closed
    rw [kept]
    exact state
  · exact h

/-! ### BARRIER RAISE and BARRIER LOWER (R89) -/

/-- R89: the laws after a barrier order in MAINTENANCE. -/
theorem LawfulBut.workBarrier (h : LawfulBut none s) (n : Fin 4) (o : BarrierOrder) :
    LawfulBut none (s.workBarrier n o).1 ∧ OtherLanesKept s (s.workBarrier n o).1 n ∧
      ((s.workBarrier n o).1 = s ∨ (s.lane n).state = .maintenance) := by
  unfold State.workBarrier
  split
  · rename_i due
    obtain ⟨maintenance, -⟩ := due
    have law := h.lanes n (by simp)
    have tracking : ((s.barrier n).giveOrder o (s.frames .travel) (s.frames .gateClear)).tracking =
        (s.barrier n).tracking := by
      cases o <;> cases hb : (s.barrier n).state <;> simp only [Barrier.giveOrder, hb, Barrier.startTravel]
      split <;> rfl
    refine ⟨h.lane_moves (n := n) (by simp) (.orderBarrier s o) rfl rfl ?_ (fun k hk m hm e =>
      hm (h.once m n k (by simp) (by simp) e hk)) (fun e => h.loading e n), .orderBarrier s o, .inr maintenance⟩
    rw [State.orderBarrier_lane, State.orderBarrier_barrier]
    exact ⟨law.visit, law.passes, law.lane, law.free, law.watched, fun e => (by rw [maintenance] at e; cases e),
      fun _ => .inr maintenance, fun e => law.bound (tracking ▸ e), by rw [tracking]; exact law.held⟩
  · exact ⟨h, .refl s n, .inl rfl⟩

end Sys2Proof.Machine
end

section
/-! Captures by request, timers, units, detectors and tag reads (R55, R56, R58, R63, R68, R78, R84, R86, R87, R99, R114,
R121, R123, R157 to R166): what each keeps. -/

namespace Sys2Proof.Machine

variable {s t u : State} {n : Fin 4} {slot ticket : Nat} {v w : Visit} {r : HoldReason} {c : Capture}

namespace Kept

/-! ### CAPTURE, TERMINATE and ZERO -/

theorem captureAt (h : Kept none s u) {b : Option Burst} : Kept none s (u.captureAt n b).1 := by
  unfold State.captureAt
  split
  · exact h
  · split
    · split
      · exact h
      · exact h.quiet ((Quiet.refl u).setLane (by rfl))
    · split
      · exact h
      · exact h.truncateCapture.startVisitCapture.tryOnIdle
    · exact h.truncateCapture.startCapture
    all_goals exact h

theorem endByRequest (h : Kept none s u) : MayPass n s (u.endByRequest n c) := by
  unfold State.endByRequest
  split
  · exact h.settleFailed.mayPass n
  · exact h.settleGathered

theorem terminateAt (h : Kept none s u) : MayPass n s (u.terminateAt n).1 := by
  unfold State.terminateAt
  split
  · exact h.endByRequest.tryOnIdle
  · split
    · exact (h.quiet ((Quiet.refl u).setLane (by rfl))).mayPass n
    · exact h.mayPass n

theorem zeroAt (h : Kept none s u) : Kept none s (u.zeroAt n).1 := by
  unfold State.zeroAt
  split
  · exact h
  · exact h
  · split
    · exact h
    · split
      · exact h
      · exact h.quiet (Quiet.refl u).setDeck

/-! ### Settling (R58) -/

theorem enterBound (h : Kept none s u) (settling : (u.lane n).state = .settling) : Kept none s (u.enterBound n) := by
  have law := h.law.lanes n (by simp)
  have unwatched : (u.lane n).heldVisit = none := by
    by_contra watching
    obtain ⟨ticket, watches⟩ := Option.ne_none_iff_exists'.mp watching
    have releasing := (law.watched ticket watches).1
    rw [settling] at releasing
    cases releasing
  have lane : ((u.enterBound n).lane n).tie = (.bound, (u.lane n).bound, none, (u.lane n).mode,
      (u.lane n).eligible) := by
    simp [State.enterBound, Lane.tie, unwatched]
  have barrier : (u.enterBound n).barrier n = u.barrier n := rfl
  simp only [Lane.tie, Prod.mk.injEq] at lane
  obtain ⟨state, bound, heldVisit, mode, -⟩ := lane
  have lower : (u.barrier n).order ≠ .raise := fun e => by
    rcases law.raised e with e | e <;> rw [settling] at e <;> cases e
  refine h.lane_moves (n := n) (by simp) (.setLane u _) rfl rfl ?_ (fun k hk => by rw [heldVisit] at hk; cases hk)
    (fun loading => ?_) (.of_tie (by rw [barrier]))
  · rw [barrier]
    refine ⟨fun k x hx hl => ?_, fun k x _ _ hp => ?_, fun _ => law.lane (by rw [settling]; rfl), fun e => ?_,
        fun k hk => ?_,
      fun e => ?_, fun e => absurd e lower, fun e => ?_, ?_⟩
    · rw [state, bound, mode]
      exact ⟨rfl, (law.visit k x hx hl).2⟩
    · rw [state] at hp
      rcases hp with e | ⟨e, -⟩ <;> cases e
    · rw [state] at e
      cases e
    · rw [heldVisit] at hk
      cases hk
    · rw [state] at e
      cases e
    · have passing := law.bound e
      rw [settling] at passing
      cases passing
    · rw [heldVisit, ← unwatched]
      exact law.held
  · have closed := h.law.loading loading n
    rw [settling] at closed
    cases closed

theorem autoCaptureAt (h : Kept none s u) : Kept none s (u.autoCaptureAt n) := by
  unfold State.autoCaptureAt
  split
  · exact h
  · split
    · exact h.holdToReleasing
    · split
      · exact h.startVisitCapture
      · exact h

theorem endSettling (h : Kept none s u) (settling : (u.lane n).state = .settling) : MayPass n s (u.endSettling n) := by
  have law := h.law.lanes n (by simp)
  have bound := h.enterBound settling
  have state : ((u.enterBound n).lane n).state = .bound := by simp [State.enterBound]
  have eligible : ((u.enterBound n).lane n).eligible = (u.lane n).eligible := by simp [State.enterBound]
  refine MayPass.tryOnIdle ?_
  unfold State.afterSettling
  split
  · rename_i passes
    have enters : (u.enterBound n).enterPassing n = (u.enterBound n).reportEligible n := by
      rw [State.reportEligible_bound state]
    rw [enters]
    exact bound.reportEligible fun k x hx hl => law.passes k x hx hl (.inr ⟨settling, eligible ▸ passes⟩)
  · split
    · exact (bound.quiet ((Quiet.refl _).setLane (by rfl))).startVisitCapture.mayPass n
    · split
      · exact bound.autoCaptureAt.mayPass n
      · exact bound.mayPass n

/-! ### The other timers -/

theorem endCycle (h : Kept none s u) : Kept none s (u.endCycle n) :=
  (h.quiet ((Quiet.refl u).setLane (by rfl))).tryBuffer

theorem endRecovery (h : Kept none s u) : Kept none s (u.endRecovery n) :=
  (h.quiet ((Quiet.refl u).setLane (by rfl))).endReleasing.tryOnIdle

theorem endPassing (h : Kept none s u) : Kept none s (u.endPassing n r) := h.holdToReleasing.tryOnIdle

theorem endTravel (h : Kept none s u) : Kept none s (u.endTravel n) := by
  have stopped : Kept none s (u.setBarrier n { u.barrier n with travel := none }) :=
    h.quiet ((Quiet.refl u).setBarrier rfl)
  unfold State.endTravel
  dsimp only
  split
  · exact stopped.failBarrier
  · exact stopped.failBarrier
  all_goals exact stopped

theorem endGateClear (h : Kept none s u) : Kept none s (u.endGateClear n) := h.setBarrier rfl rfl nofun rfl

theorem endCapture (h : Kept none s u) : Kept none s (u.endCapture n) := by
  unfold State.endCapture
  split
  · exact h
  · split
    · exact h.settlePart.tryOnIdle
    · exact h.settleFailed.tryOnIdle

theorem missData (h : Kept none s u) : Kept none s (u.missData n) := h.enterNoData.tryOnIdle

/-! ### Units and detectors -/

theorem tryServed (h : Kept none s u) {k : Fin 8} {before : State} : Kept none s (u.tryServed k before) := by
  unfold State.tryServed
  split <;> exact h.tryOnIdle

theorem enterUnitState (h : Kept none s u) {k : Fin 8} {st : UnitState} : Kept none s (u.enterUnitState k st) :=
  h.quiet (Quiet.refl u).setUnit.followLevels

theorem enterLost (h : Kept none s u) {k : Fin 8} : Kept none s (u.enterLost k) := h.enterUnitState.reportDown.tryServed

theorem clearAlarm (h : Kept none s u) {k : Fin 8} : Kept none s (u.clearAlarm k) := by
  unfold State.clearAlarm
  dsimp only
  split
  · exact h.enterUnitState.reportDown.tryServed
  · exact h.enterUnitState

theorem detectorMoves (h : Kept none s u) {k : DetectorKind} : Kept none s (u.detectorMoves n k) := by
  unfold State.detectorMoves
  split
  · rename_i state
    exact h.startMaintenance (by rw [state]; nofun)
  · rename_i state
    exact h.startMaintenance (by rw [state]; nofun)
  · rename_i state
    exact h.startMaintenance (by rw [state]; nofun)
  · rename_i state
    exact h.startMaintenance (by rw [state]; nofun)
  · rename_i state
    exact h.startMaintenance (by rw [state]; nofun)
  · rename_i state
    exact h.endMaintenance state
  · exact h

/-! ### TAG_READ and UNIT_ALARM -/

theorem readTag (h : Kept none s u) {tag : Tag} {frame : Nat} : Kept none s (u.readTag n tag frame) := by
  unfold State.readTag
  split
  · exact h
  · split
    · exact h.quiet ((Quiet.refl u).setLane (by rfl))
    · split
      · exact (h.quiet ((Quiet.refl u).setLane (by rfl))).tryBuffer
      · exact h.quiet (Quiet.refl u).latch

theorem alarmClaim (h : Kept none s u) {k : Fin 8} {entered : Bool} : Kept none s (u.alarmClaim k entered) := by
  unfold State.alarmClaim
  split
  · exact h.reportDown
  · exact h

theorem takeAlarm (h : Kept none s u) {k : Fin 8} {code : AlarmCode} : Kept none s (u.takeAlarm k code) := by
  have alarmed : Kept none s (u.setUnit k (State.alarmed (u.unit k) code)).followLevels :=
    h.quiet (Quiet.refl u).setUnit.followLevels
  unfold State.takeAlarm
  dsimp only
  split
  · split
    · unfold State.armClaims
      dsimp only
      split
      · exact (alarmed.quiet (Quiet.refl _).spend).failBarrier.alarmClaim
      · exact (alarmed.quiet (Quiet.refl _).spend).alarmClaim.failBarrier
    · exact alarmed.alarmClaim
  · exact alarmed.alarmClaim.tryOnIdle

theorem takeDeckSample (h : Kept none s u) {raw : Nat} {o : Bool} {frame : Nat} :
    MayPass n s (u.takeDeckSample n raw o frame) := by
  unfold State.takeDeckSample
  split
  · exact h.mayPass n
  · split
    · exact h.mayPass n
    · exact h.takeSample.tryOnIdle

end Kept

end Sys2Proof.Machine
end

section
/-! The lane images (R61, R75, R78 to R88, R173): passages completed, and what an image keeps. -/

namespace Sys2Proof.Machine

variable {s t u : State} {n : Fin 4} {slot ticket : Nat} {v w : Visit} {r : HoldReason} {d : Int}

/-! ### The bound visit moves on (R23, R61) -/

theorem State.passage_vt (h : passedVisit v (s.lane n).mode s.now = some (w, d)) : (s.passage n slot v).vt = { s.vt with
    records := s.vt.records.put slot w, occupancy := (s.vt.occupancy + d).toNat
    changes := withChange s.vt.changes slot
    completion := if w.finished = true then withChange s.vt.completion slot else s.vt.completion } := by
  have vt : ((((s.setVisit slot w).addOccupancy d).touch slot).latch .passed n.val).vt = { s.vt with
      records := s.vt.records.put slot w, occupancy := (s.vt.occupancy + d).toNat
      changes := withChange s.vt.changes slot } := by
    rw [addOccupancy, touch_eq]
    rfl
  simp only [passage, h]
  generalize (((s.setVisit slot w).addOccupancy d).touch slot).latch .passed n.val = t at vt
  cases hf : w.finished with
  | true =>
    simp only [if_true, complete_eq]
    rw [followLevels_vt, vt]
  | false =>
    simp only [Bool.false_eq_true, if_false]
    rw [followLevels_vt, vt]

/-- R13: a record with the in-yard mark is counted by the occupancy. -/
theorem BooksLawful.occupied (h : BooksLawful s) (hv : s.visit slot = some v) (inYard : v.inYard = true) :
    1 ≤ s.vt.occupancy := by
  have counted := State.one_le_tally hv (fun x => x.inYard) inYard
  have occupancy := (OccupancyLawful.iff_tally s).mp h.occupancy
  omega

/-- R23: what a passage makes of a bound record that may pass, by the mode of its lane. -/
structure MovesOn (v w : Visit) (d : Int) : Prop where
  lawful   : VisitLawful w
  lane     : w.lane = none
  same     : w.tag = v.tag ∧ w.vehicle = v.vehicle ∧ w.permit = v.permit ∧ w.ticket = v.ticket ∧
    w.reservation = v.reservation
  unbooked : w.state ≠ .booked
  mark     : (if w.inYard then 1 else 0 : Int) = (if v.inYard then 1 else 0) + d

theorem VisitLawful.movesOn (h : VisitLawful v) {mode : LaneMode} (fits : State.modeFits v.state mode = true)
    (passes : v.state ≠ .exiting) (now : Stamp) : ∃ w d, State.passedVisit v mode now = some (w, d) ∧
        MovesOn v w d := by
  cases hs : v.state with
  | admitting =>
    have stands : v.standsAs = .admitting := by rw [h.standsAs_of_bound (by rw [hs]; rfl), hs]
    have outside : v.inYard = false := h.outside (.inr (.inl stands))
    cases mode <;> rw [hs] at fits <;> simp only [State.modeFits, Bool.false_eq_true] at fits
    refine ⟨_, _, passedVisit_entry hs now, ⟨⟨?_, h.ticket, rfl, nofun, fun _ => h.free (by rw [hs]; nofun), ?_,
      fun _ => rfl, h.permit, fun e => ⟨(h.reserved e).1, .inr (.inl rfl)⟩, h.places, h.legal⟩, rfl,
      ⟨rfl, rfl, rfl, rfl, rfl⟩, nofun, ?_⟩⟩
    · refine ⟨fun e => ?_, nofun⟩
      have booked := h.named.mp e
      rw [stands] at booked
      cases booked
    · rintro (e | e | e) <;> cases e
    · simp [outside]
  | reweighing =>
    have stands : v.standsAs = .reweighing := by rw [h.standsAs_of_bound (by rw [hs]; rfl), hs]
    have inside : v.inYard = true := h.inside (.inr (.inl stands))
    cases mode <;> rw [hs] at fits <;> simp only [State.modeFits, Bool.false_eq_true] at fits
    refine ⟨_, _, passedVisit_internal hs now, ⟨⟨?_, h.ticket, rfl, nofun, fun _ => h.free (by rw [hs]; nofun), ?_,
      fun _ => inside, h.permit, fun e => ⟨(h.reserved e).1, .inr (.inl rfl)⟩, h.places, h.legal⟩, rfl,
      ⟨rfl, rfl, rfl, rfl, rfl⟩, nofun, ?_⟩⟩
    · refine ⟨fun e => ?_, nofun⟩
      have booked := h.named.mp e
      rw [stands] at booked
      cases booked
    · rintro (e | e | e) <;> cases e
    · simp [inside]
  | cleared =>
    have stands : v.standsAs = .cleared := by rw [h.standsAs_of_bound (by rw [hs]; rfl), hs]
    have inside : v.inYard = true := h.inside (.inr (.inr (.inr hs)))
    cases mode <;> rw [hs] at fits <;> simp only [State.modeFits, Bool.false_eq_true] at fits
    have left (st : VisitState) (hst : st = .void ∨ st = .done) : VisitLawful { v with
        state := st, inYard := false, passedAt := some now, lane := none, stopMark := v.weighings.length } := by
      have stood : Visit.standsAs { v with
        state := st, inYard := false, passedAt := some now, lane := none, stopMark := v.weighings.length } = st := by
        rw [Visit.standsAs, if_neg (by rcases hst with rfl | rfl <;> nofun)]
      refine ⟨?_, h.ticket, by rcases hst with rfl | rfl <;> rfl, ?_, fun _ => h.free (by rw [hs]; nofun), fun _ => rfl,
        ?_, h.permit, ?_, h.places, h.legal⟩
      · rw [stood]
        refine ⟨fun e => ?_, fun e => by rcases hst with rfl | rfl <;> cases e⟩
        have booked := h.named.mp e
        rw [stands] at booked
        cases booked
      · rcases hst with rfl | rfl <;> nofun
      · rw [stood]
        rcases hst with rfl | rfl <;> rintro (e | e | e | e) <;> cases e
      · intro e
        obtain ⟨-, x | x | x | x⟩ := h.reserved e <;> rw [stands] at x <;> cases x
    refine ⟨_, _, passedVisit_exit hs now, left _ ?_, rfl, ⟨rfl, rfl, rfl, rfl, rfl⟩, ?_, ?_⟩
    · split
      · exact .inl rfl
      · exact .inr rfl
    · dsimp only
      split <;> nofun
    · simp [inside]
  | exiting => exact absurd hs passes
  | booked | inYard | done | held | void => rw [hs] at fits; cases mode <;> cases fits

/-- R13: the occupancy moves with the in-yard mark of the record. -/
theorem MovesOn.occupancy (m : MovesOn v w d) (h : BooksLawful s) (hv : s.visit slot = some v) :
    (((s.vt.occupancy + d).toNat : ℕ) : ℤ) =
      s.vt.occupancy - (if v.inYard then 1 else 0) + (if w.inYard then 1 else 0) := by
  have mark := m.mark
  rw [mark]
  cases hm : v.inYard with
  | true =>
    have := h.occupied hv hm
    rw [hm] at mark
    simp only [if_true] at mark ⊢
    split at mark <;> omega
  | false =>
    rw [hm] at mark
    simp only [Bool.false_eq_true, if_false] at mark ⊢
    split at mark <;> omega

/-- R23, R61: the laws, but for the lane, after the passage of its visit. -/
theorem Kept.passage (h : Kept none s u) (here : BoundHere u n slot v ticket) (passing : (u.lane n).state = .passing) :
    Kept (some n) s (u.passage n slot v) := by
  have law := h.law.lanes n (by simp)
  have lawful := (h.law.books.visits.each slot v here.stands).2
  have passes := law.passes slot v here.stands here.lane (.inl passing)
  obtain ⟨w, d, moves, movesOn⟩ := lawful.movesOn (law.visit slot v here.stands here.lane).2.2 passes u.now
  have occupied := movesOn.occupancy h.law.books here.stands
  obtain ⟨good, lane, ⟨tag, vehicle, permit, named, reservation⟩, unbooked, -⟩ := movesOn
  have vt := State.passage_vt (slot := slot) moves
  have rest := u.passage_rest n slot v
  generalize u.passage n slot v = t at vt rest
  have active : v.InProgress := by
    have state := here.state
    have := VisitState.finished_of_bound state rfl
    exact ⟨fun e => (by rw [e] at state; cases state), this⟩
  have records : t.vt.records = u.vt.records.put slot w := by rw [vt]
  refine h.vacate here (w := w) (h.law.books.revise_record (v := v) (w := w) ⟨here.stands, good, tag, vehicle, permit,
    .inl named, fun e => absurd e unbooked, fun _ => .inl active, fun e => by rw [active.2] at e; cases e⟩
    (h.law.books.tables.write records (by rw [rest]) (by rw [rest])) records ?_ (by rw [vt]) (by rw [vt]) (by rw [rest])
    (by rw [rest]) reservation) ?_ lane (fun k hk => ?_) (by rw [rest]) (by rw [rest]) (by rw [rest])
  · rw [vt]
    exact occupied
  · rw [State.visit, records, Table.get_put_self]
  · rw [State.visit, records]
    exact Table.get_put_of_ne _ _ hk

theorem Kept.completePassage (h : Kept none s u) (passing : (u.lane n).state = .passing) :
    Kept none s (u.completePassage n) := by
  have has : (u.lane n).state.hasVisit = true := by rw [passing]; rfl
  have awake := h.law.awake (n := n) (by rw [passing]; nofun)
  obtain ⟨slot, v, ticket, here⟩ := h.law.boundHere_of_hasVisit (by simp) has
  have found : u.boundRecord n = some (slot, v) := by
    simp only [State.boundRecord, here.bound, here.found]
  unfold State.completePassage
  rw [found]
  refine (h.passage here passing).release ?_
  rw [u.passage_rest n slot v]
  exact awake

/-! ### An unattended passage (R88, R173) -/

/-- R172, R173: a held record whose prior state and in-yard mark have moved on is lawful by itself. -/
theorem VisitLawful.heldOn (h : VisitLawful v) (held : v.state = .held) {prior q : VisitState}
    (hp : v.prior = some prior)
    (same : w = { v with
      prior := w.prior, inYard := w.inYard, passedAt := w.passedAt, stopMark := w.stopMark, later := w.later })
    (hq : w.prior = some q) (unbooked : prior ≠ .booked ∧ q ≠ .booked) (holdable : q.isBound = true ∨ q = .inYard)
    (outside : q = .admitting → w.inYard = false) (inside : q = .inYard ∨ q = .reweighing → w.inYard = true)
    (reserved : v.reservation ≠ 0 → q = .admitting ∨ q = .inYard ∨ q = .reweighing ∨ q = .exiting) : VisitLawful w := by
  have stood := Visit.standsAs_of_held held hp
  have state : w.state = .held := by rw [same]; exact held
  have stands := Visit.standsAs_of_held state hq
  have ticket : w.ticket = v.ticket := by rw [same]
  have reservation : w.reservation = v.reservation := by rw [same]
  constructor
  case named =>
    rw [ticket, stands]
    exact ⟨fun e => absurd (stood.symm.trans (h.named.mp e)) unbooked.1, fun e => absurd e unbooked.2⟩
  case ticket => exact ticket ▸ h.ticket
  case bound =>
    rw [state, same]
    exact h.bound.trans (by rw [held])
  case held =>
    rw [stands, same]
    exact fun _ => ⟨(h.held held).1, holdable.imp_right .inr⟩
  case free => exact fun e => absurd state e
  case outside =>
    rw [stands]
    rintro (e | e | e)
    · exact absurd e unbooked.2
    · exact outside e
    · rcases holdable with b | b <;> rw [e] at b <;> cases b
  case inside =>
    rw [stands, state]
    rintro (e | e | e | e)
    · exact inside (.inl e)
    · exact inside (.inr e)
    · cases e
    · cases e
  case permit =>
    rw [same]
    exact h.permit
  case reserved =>
    rw [stands, reservation]
    intro e
    refine ⟨?_, reserved e⟩
    rw [same]
    exact (h.reserved e).1
  case places =>
    rw [same]
    exact h.places
  case legal =>
    rw [same]
    exact h.legal

/-- R173: what a credited passage makes of a held record that its lane has watched for. -/
theorem VisitLawful.credited (h : VisitLawful v) (held : v.state = .held) {mode : LaneMode} {prior : VisitState}
    (hp : v.prior = some prior) (fits : State.modeFits prior mode = true) (mark : v.inYard = decide (mode ≠ .entry))
    (now : Stamp) : MovesOn v (withUnattended (State.creditedVisit v mode now).1)
        (State.creditedVisit v mode now).2 := by
  have stands := Visit.standsAs_of_held held hp
  have lane : v.lane = none := h.lane_none (by rw [held]; rfl)
  have unbooked : v.state ≠ .booked := by rw [held]; nofun
  cases prior with
  | admitting =>
    cases mode <;> cases fits
    refine ⟨h.heldOn held (q := .inYard) hp rfl ?_ ⟨nofun, nofun⟩ (.inr rfl) nofun (fun _ => rfl)
        (fun _ => .inr (.inl rfl)),
      lane, ⟨rfl, rfl, rfl, rfl, rfl⟩, unbooked, ?_⟩
    · exact creditedPrior hp .admitting .inYard
    · rw [mark]
      rfl
  | reweighing =>
    cases mode <;> cases fits
    refine ⟨h.heldOn held (q := .inYard) hp rfl ?_ ⟨nofun, nofun⟩ (.inr rfl) nofun (fun _ => mark)
        (fun _ => .inr (.inl rfl)),
      lane, ⟨rfl, rfl, rfl, rfl, rfl⟩, unbooked, ?_⟩
    · exact creditedPrior hp .reweighing .inYard
    · exact (add_zero _).symm
  | exiting =>
    cases mode <;> cases fits
    refine ⟨h.heldOn held (q := .exiting) hp rfl hp ⟨nofun, nofun⟩ (.inl rfl) nofun (by simp)
      (fun _ => .inr (.inr (.inr rfl))), lane, ⟨rfl, rfl, rfl, rfl, rfl⟩, unbooked, ?_⟩
    rw [mark]
    rfl
  | cleared =>
    cases mode <;> cases fits
    refine ⟨h.heldOn held (q := .cleared) hp rfl hp ⟨nofun, nofun⟩ (.inl rfl) nofun (by simp) (fun reserved => ?_),
        lane,
      ⟨rfl, rfl, rfl, rfl, rfl⟩, unbooked, ?_⟩
    · obtain ⟨-, x | x | x | x⟩ := h.reserved reserved <;> rw [stands] at x <;> cases x
    · rw [mark]
      rfl
  | booked | inYard | done | held | void => cases mode <;> cases fits

theorem Kept.completeUnattended (h : Kept none s u) (tracking : (u.barrier n).tracking = .heldVisit) :
    Kept none s (u.completeUnattended n) := by
  have law := h.law.lanes n (by simp)
  obtain ⟨ticket, watches⟩ := Option.isSome_iff_exists.mp (law.held.mp tracking)
  obtain ⟨releasing, slot, v, awaited⟩ := law.watched ticket watches
  obtain ⟨prior, hp, fits⟩ := awaited.fits
  have lawful := (h.law.books.visits.each slot v awaited.stands).2
  have free : v.lane = none := lawful.lane_none (by rw [awaited.held]; rfl)
  have movesOn := lawful.credited awaited.held hp fits awaited.mark u.now
  have occupied := movesOn.occupancy h.law.books awaited.stands
  obtain ⟨good, lane, ⟨tag, vehicle, permit, named, reservation⟩, unbooked, -⟩ := movesOn
  have held : (withUnattended (State.creditedVisit v (u.lane n).mode u.now).1).state = .held := by
    rw [withUnattended]
    cases (u.lane n).mode <;> exact awaited.held
  obtain ⟨rest, vt, -⟩ := State.creditPassage_credits (n := n) (h.law.books.byTicket awaited.stands awaited.ticket)
    awaited.held
  rw [State.completeUnattended_of watches]
  generalize withUnattended (State.creditedVisit v (u.lane n).mode u.now).1 = w at *
  generalize (State.creditedVisit v (u.lane n).mode u.now).2 = d at *
  generalize u.creditPassage n ticket = y at rest vt
  have active := Visit.inProgress_of_held awaited.held
  have records : y.vt.records = u.vt.records.put slot w := by rw [vt]
  have books : BooksLawful y := by
    refine h.law.books.revise_record (v := v) (w := w) ⟨awaited.stands, good, tag, vehicle, permit,
      .inl named, fun e => absurd e unbooked, fun _ => .inl active, fun e => by rw [active.2] at e; cases e⟩
      (h.law.books.tables.write records (by rw [rest]) (by rw [rest])) records ?_ (by rw [vt]) ?_ (by rw [rest])
      (by rw [rest]) reservation
    · rw [vt]
      exact occupied
    · rw [vt, (Visit.inProgress_of_held held).2]
      rfl
  have unwatched : Kept none s ((u.setLane n { u.lane n with heldVisit := none }).setBarrier n
      { u.barrier n with tracking := .inactive, beyondSeen := (u.barrier n).beyondSeen, abandon := none }) :=
    h.unwatch releasing releasing rfl rfl rfl rfl rfl rfl
  have self : y.visit slot = some w := by rw [State.visit, records, Table.get_put_self]
  have lanes : y.lanes = u.lanes := by rw [rest]
  have barriers : y.barriers = u.barriers := by rw [rest]
  have atLane : y.lane n = u.lane n := by rw [State.lane, lanes, State.lane]
  have atBarrier : y.barrier n = u.barrier n := by rw [State.barrier, barriers, State.barrier]
  rw [atLane, State.setTracking, atBarrier]
  refine unwatched.apart (slot := slot) (books.of_books rfl) (fun x hx => ?_) (fun x hx => ?_) (fun k hk => ?_) ?_ ?_ ?_
  · have hx : u.visit slot = some x := hx
    rw [awaited.stands] at hx
    cases hx
    refine ⟨free, fun m k watching ticketed => ?_⟩
    rw [State.lane_setBarrier, State.lane_setLane] at watching
    split at watching
    · cases watching
    · rename_i hm
      rw [awaited.ticket] at ticketed
      cases ticketed
      exact absurd (h.law.once m n ticket (by simp) (by simp) watching watches).symm hm
  · have hx : y.visit slot = some x := hx
    rw [self] at hx
    cases hx
    exact lane
  · show y.visit k = u.visit k
    rw [State.visit, records]
    exact Table.get_put_of_ne _ _ hk
  · show y.lanes.set n _ = u.lanes.set n _
    rw [lanes]
  · show y.barriers.set n _ = u.barriers.set n _
    rw [barriers]
  · show y.loader = u.loader
    rw [rest]

end Sys2Proof.Machine
end

section
/-! An image that the lane's barrier judges (R75, R78 to R88). -/

namespace Sys2Proof.Machine

variable {s t u y : State} {n : Fin 4} {b b' : Barrier}

/-! ### The barrier judges (R78 to R84) -/

/-- R78 to R84: what a judgement leaves of the barrier: its order and its image; its tracking, but for a barrier that
fails; and it turns to RAISING from LOWERING alone, with GATE occupied. -/
structure Barrier.Becomes (b b' : Barrier) : Prop where
  order   : b'.order = b.order
  image   : b'.image = b.image
  failed  : b'.state = .fault → b.state ≠ .fault → b'.tracking = .inactive
  tracked : b'.state ≠ .fault ∨ b'.state = b.state → b'.tracking = b.tracking
  raising : b'.state = .raising → b.state = .raising ∨ (b.state = .lowering ∧ b.report.gate = true)

namespace Barrier.Becomes

theorem of_tie (h : b'.tie = b.tie) : Becomes b b' := by
  obtain ⟨order, tracking, state, image⟩ := Barrier.tie_eq h
  exact ⟨order, image, fun e ne => absurd (state ▸ e) ne, fun _ => tracking, fun e => .inl (state ▸ e)⟩

theorem fail (hs : b.state ≠ .fault) : Becomes b b.fail :=
  ⟨rfl, rfl, fun _ _ => rfl, fun e => e.elim (fun ne => absurd rfl ne) (fun same => absurd same.symm hs), nofun⟩

theorem of_state (h : b'.tie = (b.order, b.tracking, b'.state, b.image)) (fault : b'.state ≠ .fault)
    (raising : b'.state ≠ .raising) : Becomes b b' := by
  simp only [Barrier.tie, Prod.mk.injEq] at h
  obtain ⟨order, tracking, -, image⟩ := h
  exact ⟨order, image, fun e => absurd e fault, fun _ => tracking, fun e => absurd e raising⟩

theorem judgeRefusal (hs : b.state ≠ .fault) : Becomes b b.judgeRefusal := by
  unfold Barrier.judgeRefusal
  split
  · split
    · exact of_tie rfl
    · exact fail hs
  · exact of_tie rfl

end Barrier.Becomes

theorem Barrier.judgeRefusal_cases (b : Barrier) : b.judgeRefusal = b.fail ∨ b.judgeRefusal.tie = b.tie := by
  unfold judgeRefusal
  split
  · split
    · exact .inr rfl
    · exact .inl rfl
  · exact .inr rfl

theorem Barrier.judge_becomes (b : Barrier) (travel gate : Nat) : b.Becomes (b.judge travel gate) := by
  unfold judge
  dsimp only
  split
  · exact .of_tie rfl
  · rename_i raising
    have hs : b.state ≠ .fault := by rw [raising]; nofun
    split
    · exact .fail hs
    · split
      · split
        · exact .of_state rfl nofun nofun
        · exact .of_state rfl nofun nofun
      · exact .judgeRefusal hs
  · rename_i lowering
    have hs : b.state ≠ .fault := by rw [lowering]; nofun
    split
    · exact .fail hs
    · split
      · exact .of_state rfl nofun nofun
      · rcases b.judgeRefusal_cases with e | e
        · rw [e]
          exact .fail hs
        · obtain ⟨order, tracking, state, image⟩ := Barrier.tie_eq e
          unfold reverse
          split
          · rename_i reversed
            refine ⟨order, image, nofun, fun _ => tracking, fun _ => .inr ⟨lowering, ?_⟩⟩
            have gate := reversed.2
            rw [report, image] at gate
            exact gate
          · exact .of_tie e
  · rename_i down
    split
    · exact .fail (by rw [down]; nofun)
    · exact .of_tie rfl
  · rename_i up
    split
    · exact .fail (by rw [up]; nofun)
    · split
      · split
        · exact .of_tie rfl
        · split
          · exact .of_tie rfl
          · exact .of_tie rfl
      · exact .of_tie rfl

/-! ### The lane takes the image (R75) -/

/-- R77, R85: a lane's law reads the order and the tracking of its barrier alone. -/
theorem LawfulBut.setBarrier (h : LawfulBut none s) (order : b.order = (s.barrier n).order)
    (tracking : b.tracking = (s.barrier n).tracking) : LawfulBut none (s.setBarrier n b) := by
  refine h.lane_moves (n := n) (by simp) (.setBarrier s b) rfl rfl ?_
    (fun k hk m hm e => hm (h.once m n k (by simp) (by simp) e hk)) (fun loading => h.loading loading n)
  exact (h.lanes n (by simp)).transport (.refl _ _ _) rfl (by simpa using order) (by simpa using tracking)

/-- R83: since `s` the barrier of lane `n` has had no new order, and has turned to RAISING from LOWERING alone, with
GATE occupied. -/
structure Judged (n : Fin 4) (s y : State) : Prop where
  law    : LawfulBut none y
  order  : (y.barrier n).order = (s.barrier n).order
  state  : (y.barrier n).state = .raising →
    (s.barrier n).state = .raising ∨ ((s.barrier n).state = .lowering ∧ (y.barrier n).report.gate = true)
  others : ∀ m, m ≠ n → CalmAt s y m

theorem LawfulBut.judgeBarrier (h : LawfulBut none u) (order : (u.barrier n).order = (s.barrier n).order)
    (state : (u.barrier n).state = (s.barrier n).state) (others : ∀ m, m ≠ n → CalmAt s u m) :
    ∃ y, Judged n s y ∧ Kept none y (u.judgeBarrier n) := by
  have becomes := (u.barrier n).judge_becomes (u.frames .travel) (u.frames .gateClear)
  unfold State.judgeBarrier
  dsimp only
  generalize (u.barrier n).judge (u.frames .travel) (u.frames .gateClear) = b at becomes
  have turned (tracking : b.tracking = (u.barrier n).tracking) : Judged n s (u.setBarrier n b) := by
    refine ⟨h.setBarrier becomes.order tracking, ?_, fun e => ?_, fun m hm => ?_⟩
    · rw [State.barrier_setBarrier_self, becomes.order, order]
    · rw [State.barrier_setBarrier_self] at e ⊢
      have gate : b.report = (u.barrier n).report := by rw [Barrier.report, becomes.image, Barrier.report]
      rw [gate, ← state]
      exact becomes.raising e
    · have same := State.barrier_setBarrier_of_ne u b hm
      exact ⟨fun e => (others m hm).order (same ▸ e), fun e => (others m hm).state (same ▸ e),
        (congrArg Barrier.image same).trans (others m hm).image⟩
  split
  · rename_i same
    exact ⟨_, turned (becomes.tracked (.inr same)), .refl (turned (becomes.tracked (.inr same))).law⟩
  · rename_i moved
    split
    · rename_i fault
      refine ⟨u, ⟨h, order, fun e => .inl (state ▸ e), others⟩, (Kept.refl h).barrierFaults becomes.order
        (becomes.failed fault fun e => moved (fault.trans e.symm)) (by rw [fault]; nofun) becomes.image⟩
    · rename_i down
      have judged := turned (becomes.tracked (.inl (by rw [down]; nofun)))
      exact ⟨_, judged, (Kept.refl judged.law).endReleasing⟩
    all_goals
      rename_i st
      have judged := turned (becomes.tracked (.inl (by rw [st]; nofun)))
      exact ⟨_, judged, .refl judged.law⟩

theorem Kept.trackPassage (h : Kept none s u) : Kept none s (u.trackPassage n) := by
  have tie : (u.barrier n).track.tie = (u.barrier n).tie := by
    unfold Barrier.track
    split <;> rfl
  unfold State.trackPassage
  dsimp only
  generalize (u.barrier n).track = b at tie
  have tracked : Kept none s (u.setBarrier n b) := h.quiet ((Quiet.refl u).setBarrier tie)
  have self := State.barrier_setBarrier_self u n b
  split
  · exact tracked
  · rename_i bound
    split
    · exact tracked.completePassage ((tracked.law.lanes n (by simp)).bound (by rw [self]; exact bound))
    · exact tracked
  · rename_i held
    split
    · exact tracked.completeUnattended (by rw [self]; exact held)
    · exact tracked

theorem Barrier.watchAbandon_tie (b : Barrier) (k : Nat) : (b.watchAbandon k).tie = b.tie := by
  unfold watchAbandon
  split
  · split <;> rfl
  · rfl

/-- R75: the laws after an image. -/
theorem LawfulBut.takeImage (h : LawfulBut none s) (r : LaneReport) (frame : Nat) :
    ∃ y, Judged n s y ∧ Kept none y (s.takeImage n r frame) := by
  have seen : Quiet s (s.seeCode n r.code) := by
    unfold State.seeCode
    split
    · exact .refl s
    · exact (Quiet.refl s).setDetector
    · exact (Quiet.refl s).setDetector
  have imaged : LawfulBut none ((s.seeCode n r.code).setImage n r frame) := (h.of_quiet seen).setBarrier rfl rfl
  have captured : Quiet ((s.seeCode n r.code).setImage n r frame)
      (((s.seeCode n r.code).setImage n r frame).captureImage n r) :=
    (Quiet.refl _).captureImage
  have barrier (m : Fin 4) := Barrier.tie_eq ((captured.barriers m))
  have here := State.barrier_setBarrier_self (s.seeCode n r.code) n
    { (s.seeCode n r.code).barrier n with image := some ⟨r, frame⟩ }
  have before (m : Fin 4) := Barrier.tie_eq (seen.barriers m)
  obtain ⟨order, -, state, -⟩ := barrier n
  obtain ⟨judgedOrder, -, judgedState, -⟩ := before n
  have self : ((s.seeCode n r.code).setImage n r frame).barrier n =
      { (s.seeCode n r.code).barrier n with image := some ⟨r, frame⟩ } := here
  rw [self] at order state
  obtain ⟨y, judged, kept⟩ := (imaged.of_quiet captured).judgeBarrier (s := s) (n := n) (order.trans judgedOrder)
    (state.trans judgedState) fun m hm => by
      have other : ((s.seeCode n r.code).setImage n r frame).barrier m = (s.seeCode n r.code).barrier m :=
        State.barrier_setBarrier_of_ne _ _ hm
      refine .of_tie ((captured.barriers m).trans ?_)
      rw [other]
      exact seen.barriers m
  refine ⟨y, judged, ?_⟩
  have tracked : Kept none y (((((s.seeCode n r.code).setImage n r frame).captureImage n r).judgeBarrier n).trackPassage n) :=
    kept.trackPassage
  exact (tracked.quiet ((Quiet.refl _).setBarrier (Barrier.watchAbandon_tie _ _))).tryOnIdle

end Sys2Proof.Machine
end

section
/-! The Vehicle Register, the Permit Table and the Yard Clock (R17, R28 to R45, R188, R189): what each request keeps. -/

namespace Sys2Proof.Machine

variable {s t u : State} {i k : Nat} {slot : Nat} {v : Visit} {veh veh' : Vehicle} {p p' : Permit}

/-! ### Entries replaced, created and dropped -/

theorem VisitsLawful.of_vt (h : VisitsLawful s) (vt : t.vt = s.vt) : VisitsLawful t := by
  have visits : t.visit = s.visit := by
    funext j
    rw [State.visit, vt, State.visit]
  obtain ⟨each, tickets, booked, inProgress, next, once, finished⟩ := h
  exact ⟨by rw [visits]; exact each, by rw [visits]; exact tickets, by rw [visits]; exact booked,
    by rw [visits]; exact inProgress, by rw [vt]; exact next, by rw [vt]; exact once,
    by rw [visits, vt]; exact finished⟩

/-- R28, R34: the books where no record and no count moves. -/
theorem BooksLawful.of_still (h : BooksLawful s) (vt : t.vt = s.vt) (tables : TablesCanonical t)
    (moves : Moves s t fun _ => 0) : BooksLawful t := by
  have visits : t.visit = s.visit := by
    funext j
    rw [State.visit, vt, State.visit]
  refine ⟨tables, h.visits.of_vt vt, ?_, moves.reservations h.reservations,
      moves.retention h.retention fun slot v hv => ?_⟩
  · unfold OccupancyLawful
    rw [vt]
    exact h.occupancy
  · rw [visits] at hv
    exact ⟨h.retention.vehicle slot v hv, fun number hn => h.retention.permit slot v number hv hn⟩

theorem Moves.still (vt : t.vt = s.vt)
    (vehicle : ∀ i, (t.vehicles.get i).map (fun x => (x.tag, x.live)) = (s.vehicles.get i).map (fun x =>
        (x.tag, x.live)))
    (permit : ∀ k, (t.permits.get k).map (fun x => (x.live, x.reserved)) =
      (s.permits.get k).map (fun x => (x.live, x.reserved))) : Moves s t fun _ => 0 where
  tally f := by
    rw [add_zero]
    exact State.tally_congr f (by rw [vt])
  vehicle i veh hv := by
    have same := vehicle i
    rw [hv] at same
    obtain ⟨veh', hv', e⟩ := Option.map_eq_some_iff.mp same
    obtain ⟨tag, live⟩ := Prod.mk.inj e
    exact ⟨veh', hv', tag, by rw [live, add_zero]⟩
  vehicle' i hv := by
    have same := vehicle i
    rw [hv] at same
    exact Option.map_eq_none_iff.mp same
  permit k p hp := by
    have same := permit k
    rw [hp] at same
    obtain ⟨p', hp', e⟩ := Option.map_eq_some_iff.mp same
    obtain ⟨live, reserved⟩ := Prod.mk.inj e
    exact ⟨p', hp', by rw [live, add_zero], by rw [reserved, add_zero]⟩
  permit' k hp := by
    have same := permit k
    rw [hp] at same
    exact Option.map_eq_none_iff.mp same

/-- R30, R36, R37: an entry of the register is replaced under its tag and its count. -/
theorem BooksLawful.replaceVehicle (h : BooksLawful s) (hv : s.vehicles.get i = some veh) (tag : veh'.tag = veh.tag)
    (live : veh'.live = veh.live) : BooksLawful { s with vehicles := s.vehicles.put i veh' } := by
  refine h.of_still rfl ⟨h.tables.records, Table.put_wf _ _ h.tables.vehicles, h.tables.permits⟩
    (.still rfl (fun j => ?_) fun _ => rfl)
  rw [Table.get_put]
  split
  · rename_i e
    rw [← e, hv, Option.map_some, Option.map_some, tag, live]
  · rfl

/-- R39, R42, R43: a permit is replaced under its count and its reserved amount. -/
theorem BooksLawful.replacePermit (h : BooksLawful s) (hp : s.permits.get k = some p) (live : p'.live = p.live)
    (reserved : p'.reserved = p.reserved) : BooksLawful { s with permits := s.permits.put k p' } := by
  refine h.of_still rfl ⟨h.tables.records, h.tables.vehicles, Table.put_wf _ _ h.tables.permits⟩
    (.still rfl (fun _ => rfl) fun j => ?_)
  rw [Table.get_put]
  split
  · rename_i e
    rw [← e, hp, Option.map_some, Option.map_some, live, reserved]
  · rfl

theorem filter_eq_nil_of_visits {q : Visit → Bool} (hw : s.vt.records.wf)
    (none : ∀ slot v, s.visit slot = some v → q v = false) :
    s.vt.records.filter (fun e => q e.2) = [] := by
  refine List.filter_eq_nil_iff.mpr fun e he => ?_
  rw [none e.1 e.2 (Table.get_of_mem hw he)]
  nofun

/-- R30: a new entry of the register, under a tag that no entry has. -/
theorem BooksLawful.createVehicle (h : BooksLawful s) (free : s.vehicles.get i = none) (live : veh.live = 0)
    (fresh : ∀ j x, s.vehicles.get j = some x → x.tag ≠ veh.tag) :
    BooksLawful { s with vehicles := s.vehicles.put i veh } := by
  obtain ⟨vehicle, permit, vehicles, permits, tags⟩ := h.retention
  refine ⟨⟨h.tables.records, Table.put_wf _ _ h.tables.vehicles, h.tables.permits⟩, h.visits.of_vt rfl, h.occupancy,
      h.reservations,
    ⟨fun slot v hv => ?_, permit, fun j x hx => ?_, permits, fun a b x y ha hb htag => ?_⟩⟩
  · obtain ⟨x, hx, htag⟩ := vehicle slot v hv
    refine ⟨x, ?_, htag⟩
    rw [Table.get_put, if_neg]
    · exact hx
    · intro e
      rw [← e, free] at hx
      cases hx
  · rw [Table.get_put] at hx
    split at hx
    · rename_i e
      cases hx
      subst e
      have none : s.vt.records.filter (fun e => decide (e.2.vehicle = i)) = [] :=
        filter_eq_nil_of_visits (q := fun v => decide (v.vehicle = i)) h.tables.records fun slot v hv => by
          obtain ⟨x, hx, -⟩ := vehicle slot v hv
          simp only [decide_eq_false_iff_not]
          rintro rfl
          rw [free] at hx
          cases hx
      dsimp only
      rw [live, none]
      rfl
    · exact vehicles j x hx
  · rw [Table.get_put] at ha hb
    split at ha <;> rename_i ea <;> split at hb <;> rename_i eb
    · exact ea.symm.trans eb
    · cases ha
      exact absurd htag.symm (fresh b y hb)
    · cases hb
      exact absurd htag (fresh a x ha)
    · exact tags a b x y ha hb htag

/-- R33: an entry that no record names leaves the register. -/
theorem BooksLawful.dropVehicle (h : BooksLawful s) (hv : s.vehicles.get i = some veh) (unused : veh.live = 0) :
    BooksLawful { s with vehicles := s.vehicles.drop i } := by
  obtain ⟨vehicle, permit, vehicles, permits, tags⟩ := h.retention
  have kept {j : Nat} {x : Vehicle} (hx : (s.vehicles.drop i).get j = some x) : s.vehicles.get j = some x := by
    rw [Table.get_drop] at hx
    split at hx
    · cases hx
    · exact hx
  refine ⟨⟨h.tables.records, Table.drop_wf _ h.tables.vehicles, h.tables.permits⟩, h.visits.of_vt rfl, h.occupancy,
      h.reservations,
    ⟨fun slot v hv' => ?_, permit, fun j x hx => vehicles j x (kept hx), permits,
      fun a b x y ha hb => tags a b x y (kept ha) (kept hb)⟩⟩
  obtain ⟨x, hx, htag⟩ := vehicle slot v hv'
  refine ⟨x, ?_, htag⟩
  rw [Table.get_drop, if_neg]
  · exact hx
  · intro e
    have counted := h.vehicle_counted hv' (e ▸ hv)
    omega

/-- R39: a new permit. -/
theorem BooksLawful.createPermit (h : BooksLawful s) (free : s.permits.get k = none) (live : p.live = 0)
    (reserved : p.reserved = 0) : BooksLawful { s with permits := s.permits.put k p } := by
  obtain ⟨vehicle, permit, vehicles, permits, tags⟩ := h.retention
  have none : s.vt.records.filter (fun e => decide (e.2.permit = some k)) = [] :=
    filter_eq_nil_of_visits (q := fun v => decide (v.permit = some k)) h.tables.records fun slot v hv => by
      simp only [decide_eq_false_iff_not]
      intro hn
      have there := permit slot v k hv hn
      rw [free] at there
      cases there
  refine ⟨⟨h.tables.records, h.tables.vehicles, Table.put_wf _ _ h.tables.permits⟩, h.visits.of_vt rfl, h.occupancy,
      fun j x hx => ?_,
    ⟨vehicle, fun slot v number hv hn => ?_, vehicles, fun j x hx => ?_, tags⟩⟩
  · rw [Table.get_put] at hx
    split at hx
    · rename_i e
      cases hx
      subst e
      dsimp only
      rw [reserved, none]
      rfl
    · exact h.reservations j x hx
  · rw [Table.get_put]
    split
    · rfl
    · exact permit slot v number hv hn
  · rw [Table.get_put] at hx
    split at hx
    · rename_i e
      cases hx
      subst e
      dsimp only
      rw [live, none]
      rfl
    · exact permits j x hx

/-- R45: a permit that no record names is dropped. -/
theorem BooksLawful.dropPermit (h : BooksLawful s) (hp : s.permits.get k = some p) (unused : p.live = 0) :
    BooksLawful { s with permits := s.permits.drop k } := by
  obtain ⟨vehicle, permit, vehicles, permits, tags⟩ := h.retention
  have kept {j : Nat} {x : Permit} (hx : (s.permits.drop k).get j = some x) : s.permits.get j = some x := by
    rw [Table.get_drop] at hx
    split at hx
    · cases hx
    · exact hx
  refine ⟨⟨h.tables.records, h.tables.vehicles, Table.drop_wf _ h.tables.permits⟩, h.visits.of_vt rfl, h.occupancy,
    fun j x hx => h.reservations j x (kept hx),
    ⟨vehicle, fun slot v number hv hn => ?_, vehicles, fun j x hx => permits j x (kept hx), tags⟩⟩
  rw [Table.get_drop, if_neg]
  · exact permit slot v number hv hn
  · rintro rfl
    have counted := h.permit_counted hv hn hp
    omega

theorem BooksLawful.judgeExpiry (h : BooksLawful s) : BooksLawful s.judgeExpiry := by
  refine h.of_still rfl ⟨h.tables.records, h.tables.vehicles, Table.map_wf _ h.tables.permits⟩
    (.still rfl (fun _ => rfl) fun j => ?_)
  have judged : s.judgeExpiry.permits = s.permits.map (fun e => (e.1, e.2.judgeExpiry s.clock.day)) := rfl
  rw [judged, Table.get_map (fun p : Permit => p.judgeExpiry s.clock.day), Option.map_map]
  refine congrArg (fun f => (s.permits.get j).map f) (funext fun x => ?_)
  simp only [Function.comp, Permit.judgeExpiry]
  split <;> rfl

/-! ### The requests -/

/-- R28 to R45: the registers differ, and the books stay lawful. -/
theorem Kept.registers (h : Kept none s u) (books : BooksLawful u → BooksLawful t) (vt : t.vt = u.vt)
    (lanes : t.lanes = u.lanes) (barriers : t.barriers = u.barriers) (loader : t.loader = u.loader) : Kept none s t :=
  h.quiet ⟨books, fun j => by rw [State.visit, vt, State.visit], fun m => by rw [State.lane, lanes, State.lane],
    fun m => by rw [State.barrier, barriers, State.barrier], by rw [loader]⟩

theorem State.vehicleByTag_none {tag : Tag} (h : s.vehicleByTag tag = none) (j : Nat) (x : Vehicle)
    (hx : s.vehicles.get j = some x) : x.tag ≠ tag := by
  have := List.find?_eq_none.mp h (j, x) (Table.mem_of_get hx)
  simpa using this

namespace Kept

theorem putVehicle (h : Kept none s u) {tare : TareParam} : Kept none s (u.putVehicle veh tare).1 := by
  unfold State.putVehicle
  dsimp only
  split
  · rename_i index old found
    obtain ⟨stands, tag⟩ := State.vehicleByTag_get h.law.books.tables.vehicles found
    split
    · exact h
    · exact h.registers (fun books => books.replaceVehicle stands tag.symm rfl) rfl rfl rfl rfl
  · rename_i fresh
    split
    · exact h
    · split
      · exact h
      · rename_i index free
        obtain ⟨-, free, -⟩ := Table.lowestFree_some free
        exact h.registers (fun books => books.createVehicle free rfl (State.vehicleByTag_none fresh)) rfl rfl rfl rfl

theorem dropVehicle (h : Kept none s u) {tag : Tag} : Kept none s (u.dropVehicle tag).1 := by
  unfold State.dropVehicle
  split
  · exact h
  · rename_i index veh found
    split
    · exact h
    · rename_i unused
      exact h.registers (fun books => books.dropVehicle (State.vehicleByTag_get h.law.books.tables.vehicles found).1
        (by omega)) rfl rfl rfl rfl

theorem tareStore (h : Kept none s u) {index validity : Nat} : Kept none s (u.tareStore v index validity).1 := by
  have stored (t : Tare) : Kept none s (u.storeTare v t) := by
    unfold State.storeTare
    split
    · exact h
    · rename_i veh found
      exact h.registers (fun books => books.replaceVehicle found rfl rfl) rfl rfl rfl rfl
  unfold State.tareStore
  split
  · exact h
  · split
    · exact stored _
    · exact h

theorem putPermit (h : Kept none s u) {number primary expiry : Nat} {allowed : BitVec 32} :
    Kept none s (u.putPermit number allowed primary expiry).1 := by
  unfold State.putPermit
  split
  · rename_i p found
    exact h.registers (fun books => books.replacePermit found rfl rfl) rfl rfl rfl rfl
  · rename_i free
    split
    · exact h
    · exact h.registers (fun books => books.createPermit free rfl rfl) rfl rfl rfl rfl

theorem adjustPermit (h : Kept none s u) {number : Nat} {amount : Int} :
    Kept none s (u.adjustPermit number amount).1 := by
  unfold State.adjustPermit
  split
  · exact h
  · rename_i p found
    split
    · exact h.registers (fun books => books.replacePermit found rfl rfl) rfl rfl rfl rfl
    · exact h

theorem markPermit (h : Kept none s u) {number : Nat} {st : PermitState} : Kept none s (u.markPermit number st).1 := by
  unfold State.markPermit
  split
  · exact h
  · rename_i p found
    split
    · exact h
    · exact h.registers (fun books => books.replacePermit found rfl rfl) rfl rfl rfl rfl

theorem dropPermit (h : Kept none s u) {number : Nat} : Kept none s (u.dropPermit number).1 := by
  unfold State.dropPermit
  split
  · exact h
  · rename_i p found
    split
    · exact h
    · rename_i unused
      exact h.registers (fun books => books.dropPermit found (by omega)) rfl rfl rfl rfl

/-! ### The clock (R17, R44, R188, R189) -/

theorem judgeExpiry (h : Kept none s u) : Kept none s u.judgeExpiry :=
  h.registers (fun books => books.judgeExpiry) rfl rfl rfl rfl

theorem setClock (h : Kept none s u) {day minute : Nat} : Kept none s (u.setClock day minute) :=
  (h.quiet (Quiet.refl u).setClock).judgeExpiry

/-- R17: bookings leave the table one by one. -/
theorem removeAll (h : Kept none s u) (gone : List (Nat × Visit)) (once : (gone.map Prod.fst).Nodup)
    (bookings : ∀ e ∈ gone, u.visit e.1 = some e.2 ∧ e.2.hasHandle = true) : Kept none s (u.removeAll gone) := by
  induction gone generalizing u with
  | nil => exact h
  | cons e gone ih =>
    obtain ⟨stands, handle⟩ := bookings e (by simp)
    obtain ⟨away, later⟩ := List.nodup_cons.mp once
    rw [State.removeAll_cons]
    refine ih (h.removeBooking stands handle) later fun x hx => ?_
    obtain ⟨there, isBooking⟩ := bookings x (by simp [hx])
    have apart : e.1 ≠ x.1 := fun same => away (same ▸ List.mem_map_of_mem hx)
    refine ⟨?_, isBooking⟩
    rw [State.visit, u.removeVisit_rest e.1 e.2, Table.get_drop, if_neg apart]
    exact there

theorem lapseBookings (h : Kept none s u) : Kept none s u.lapseBookings := by
  have removed : Kept none s (u.removeAll u.lapsing) := by
    refine h.removeAll _ ?_ fun e he => ?_
    · exact (List.filter_sublist.map Prod.fst).nodup
        (List.pairwise_map.mpr (h.law.books.tables.records.imp fun lt => Nat.ne_of_lt lt))
    · obtain ⟨mem, lapses⟩ := List.mem_filter.mp he
      refine ⟨Table.get_of_mem h.law.books.tables.records mem, (Visit.hasHandle_iff e.2).mpr (.inl ?_)⟩
      simp only [State.lapses, Bool.and_eq_true, decide_eq_true_eq] at lapses
      exact lapses.1
  have out : u.lapseBookings = if u.lapsing.isEmpty then u.removeAll u.lapsing
      else (u.removeAll u.lapsing).latch .bookingLapsed 0 := rfl
  rw [out]
  split
  · exact removed
  · exact removed.quiet (Quiet.refl _).latch

theorem changeDay (h : Kept none s u) : Kept none s u.changeDay := by
  unfold State.changeDay
  split
  · exact (h.quiet (Quiet.refl u).setClock).lapseBookings.judgeExpiry
  · exact h.quiet (Quiet.refl u).setClock

theorem clockSecond (h : Kept none s u) : Kept none s u.clockSecond := by
  unfold State.clockSecond
  split
  · exact h.changeDay
  · split
    · unfold State.nextSecond
      split
      · exact h.quiet (Quiet.refl u).setClock
      · exact h.quiet (Quiet.refl u).setClock
    · exact h

end Kept

end Sys2Proof.Machine
end

section
/-! RESTART (R62, R73, R90, R178, R187): the laws after it. -/

namespace Sys2Proof.Machine

variable {s t u y : State} {n : Fin 4} {slot : Nat} {v : Visit} {r : HoldReason}

/-! ### The holds of a RESTART, with each lane's own change -/

/-- R169: what a hold claim does to the Visit Table rests on the Visit Table alone. -/
theorem State.holdClaim_vt (vt : t.vt = s.vt) (slot : Nat) (r : HoldReason) :
    (t.holdClaim slot r).vt = (s.holdClaim slot r).vt := by
  have visit : t.visit slot = s.visit slot := by rw [State.visit, vt, State.visit]
  have written (w : Visit) : ((t.setVisit slot w).touch slot).vt = ((s.setVisit slot w).touch slot).vt := by
    rw [setVisit_touch, setVisit_touch, vt]
  unfold holdClaim
  rw [visit]
  split
  · exact vt
  · split
    · rw [addLater_eq, addLater_eq]
      split
      · exact vt
      · exact written _
    · rw [followLevels_vt, followLevels_vt]
      exact written _

theorem State.holdBound_vt (vt : t.vt = s.vt) (bound : (t.lane n).bound = (s.lane n).bound) :
    (t.holdBound n r).vt = (s.holdBound n r).vt := by
  have found : t.boundRecord n = s.boundRecord n := by
    simp only [boundRecord, bound, byTicket, vt]
  unfold holdBound
  rw [found]
  split
  · exact vt
  · exact State.holdClaim_vt vt _ _

/-- R73, R90: a lane and its barrier as a RESTART leaves them. -/
def restarted (recovery : Timer) (g : Lane × Barrier) : Lane × Barrier :=
  (State.restartLane g.1 recovery, { Barrier.reset with
    tracking := if (State.restartHeld g.1).isSome then .heldVisit else .inactive })

/-- R62, R73, R90, R178: a lane's visit is held, and the lane and its barrier restart. -/
def State.restartAt (recovery : Timer) (n : Fin 4) (s : State) : State :=
  ((s.holdBound n .restart).setLane n (restarted recovery (s.gateAt n)).1).setBarrier n (restarted recovery (s.gateAt n)).2

theorem State.restartAt_gateAt (recovery : Timer) (n : Fin 4) (s : State) :
    (s.restartAt recovery n).gateAt n = restarted recovery (s.gateAt n) := by
  simp [restartAt, gateAt]

theorem State.restartAt_gateAt_of_ne (recovery : Timer) {m n : Fin 4} (s : State) (h : m ≠ n) :
    (s.restartAt recovery n).gateAt m = s.gateAt m := by
  have barrier : (s.holdBound n .restart).barrier m = s.barrier m := congrArg (fun x => x.barrier m)
      (s.holdBound_rest n _)
  simp [restartAt, gateAt, lane_setLane_of_ne _ _ h, barrier_setBarrier_of_ne _ _ h, barrier]

/-- R73, R178: the law of a lane that has restarted. -/
theorem Leaving.restarts (h : Leaving n s u) (recovery : Timer)
    (free : (u.lane n).state = .closed → (u.lane n).bound = none) :
    LawfulBut none ((u.setLane n (restarted recovery (u.gateAt n)).1).setBarrier n (restarted recovery (u.gateAt n)).2) := by
  have others : OtherLanesKept u ((u.setLane n (restarted recovery (u.gateAt n)).1).setBarrier n
      (restarted recovery (u.gateAt n)).2) n := (OtherLanesKept.setLane u _).trans (OtherLanesKept.setBarrier _ _)
  have same : State.restartHeld (u.lane n) = State.resetHeld (u.lane n) := rfl
  by_cases closed : (u.lane n).state = .closed
  · have unheld : State.restartHeld (u.lane n) = none := by
      rw [State.restartHeld, free closed, closed]
      rfl
    have lane : (restarted recovery (u.gateAt n)).1.tie = (.closed, none, none, (u.lane n).mode, false) := by
      simp [restarted, State.gateAt, State.restartLane, closed, Lane.tie, Lane.reset]
    have barrier : (restarted recovery (u.gateAt n)).2.tie = (.lower, .inactive, .lowering, none) := by
      simp [restarted, State.gateAt, Barrier.tie, Barrier.reset, unheld]
    generalize restarted recovery (u.gateAt n) = g at others lane barrier
    simp only [Lane.tie, Barrier.tie, Prod.mk.injEq] at lane barrier
    obtain ⟨state, bound, heldVisit, -, -⟩ := lane
    obtain ⟨order, tracking, -, -⟩ := barrier
    refine h.kept.law.lane_moves (n := n) (fun m e => (Option.some.inj e).symm) others rfl rfl ?_ (fun k hk =>
        ?_) fun _ => ?_
    · rw [State.lane_setBarrier, State.lane_setLane_self, State.barrier_setBarrier_self]
      exact .of_free (by rw [state]; rfl) bound heldVisit (h.kept.law.vacant n rfl)
          (fun e => by rw [order] at e; cases e)
        tracking
    · rw [State.lane_setBarrier, State.lane_setLane_self, heldVisit] at hk
      cases hk
    · rw [State.lane_setBarrier, State.lane_setLane_self, state]
  · have lane : (restarted recovery (u.gateAt n)).1.tie =
        (.releasing, none, State.resetHeld (u.lane n), (u.lane n).mode, false) := by
      simp [restarted, State.gateAt, State.restartLane, closed, Lane.tie, Lane.reset, same]
    have barrier : (restarted recovery (u.gateAt n)).2.tie =
        (.lower, if (State.resetHeld (u.lane n)).isSome then .heldVisit else .inactive, .lowering, none) := by
      simp [restarted, State.gateAt, Barrier.tie, Barrier.reset, same]
    have awake := h.awake closed
    have watch := h.watch
    generalize restarted recovery (u.gateAt n) = g at others lane barrier
    simp only [Lane.tie, Barrier.tie, Prod.mk.injEq] at lane barrier
    obtain ⟨state, bound, heldVisit, mode, -⟩ := lane
    obtain ⟨order, tracking, -, -⟩ := barrier
    refine h.kept.law.lane_moves (n := n) (fun m e => (Option.some.inj e).symm) others rfl rfl ?_ (fun k hk => ?_)
      fun loading => absurd loading awake
    · rw [State.lane_setBarrier, State.lane_setLane_self, State.barrier_setBarrier_self]
      cases hw : State.resetHeld (u.lane n) with
      | none =>
        rw [hw] at heldVisit tracking
        exact .of_free (by rw [state]; rfl) bound heldVisit (h.kept.law.vacant n rfl)
            (fun e => by rw [order] at e; cases e)
          tracking
      | some ticket =>
        rw [hw] at heldVisit tracking
        obtain ⟨⟨slot, v, awaited⟩, -⟩ := watch ticket hw
        exact .of_watch state bound heldVisit (mode ▸ awaited) (h.kept.law.vacant n rfl) order tracking
    · rw [State.lane_setBarrier, State.lane_setLane_self, heldVisit] at hk
      exact (watch k hk).2

theorem LawfulBut.restartAt (h : LawfulBut none s) (recovery : Timer) (n : Fin 4) :
    LawfulBut none (s.restartAt recovery n) := by
  have held : Leaving n s (s.holdBound n .restart) := (Kept.refl h).holdBound
  have gate : (s.holdBound n .restart).gateAt n = s.gateAt n := by
    have barrier : (s.holdBound n .restart).barrier n = s.barrier n := congrArg (fun x => x.barrier n)
        (s.holdBound_rest n _)
    simp [State.gateAt, barrier]
  unfold State.restartAt
  rw [← gate]
  refine held.restarts recovery fun closed => ?_
  rw [State.holdBound_lane] at closed ⊢
  exact (h.lanes n (by simp)).free (by rw [closed]; rfl)

/-! ### The blocks of a RESTART -/

theorem State.restartAll_gateAt (recovery : Timer) (s : State) (n : Fin 4) :
    (forLanes (State.restartAt recovery) s).gateAt n = restarted recovery (s.gateAt n) := by
  rw [forLanes_view (fun n s => s.gateAt n) (fun s h => s.restartAt_gateAt_of_ne recovery h), restartAt_gateAt]
  intro n s u h
  simp only [restartAt_gateAt, h]

theorem State.restartAt_lane_of_ne (recovery : Timer) {m n : Fin 4} (s : State) (h : m ≠ n) :
    (s.restartAt recovery n).lane m = s.lane m := congrArg Prod.fst (s.restartAt_gateAt_of_ne recovery h)

/-- R178, R187: the holds leave the same Visit Table whether or not the lanes restart in between. -/
theorem State.restartAll_vt (recovery : Timer) (s : State) :
    (forLanes (State.restartAt recovery) s).vt = s.restartHolds.vt := by
  have step {x y : State} (n : Fin 4) (vt : x.vt = y.vt) (bound : (x.lane n).bound = (y.lane n).bound) :
      (x.restartAt recovery n).vt = (y.holdBound n .restart).vt := State.holdBound_vt vt bound
  rw [restartHolds, forLanes_eq, forLanes_eq]
  refine step 3 (step 2 (step 1 (step 0 rfl rfl) ?_) ?_) ?_ <;>
    simp [State.restartAt_lane_of_ne]

/-- R187: the registers and the loader stand. -/
def RegistersKept (s t : State) : Prop := t.vehicles = s.vehicles ∧ t.permits = s.permits ∧ t.loader = s.loader

theorem State.holdBound_registers (s : State) (n : Fin 4) (r : HoldReason) : RegistersKept s (s.holdBound n r) := by
  rw [s.holdBound_rest n r]
  exact ⟨rfl, rfl, rfl⟩

theorem RegistersKept.trans (h : RegistersKept s t) (h' : RegistersKept t u) : RegistersKept s u :=
  ⟨h'.1.trans h.1, h'.2.1.trans h.2.1, h'.2.2.trans h.2.2⟩

theorem restartBlocks_books (y : State) : y.restartBlocks.books = y.books := by
  have same : y.restartBlocks.books = y.restartLanes.restartOthers.followLevels.books := rfl
  rw [same, State.books_followLevels]
  rfl

theorem restartBlocks_loader (y : State) : y.restartBlocks.loader = y.loader := rfl

theorem LawfulBut.restart (h : LawfulBut none s) : LawfulBut none s.restart := by
  have holding : LawfulBut none s.holding := h.of_quiet (.of_frame rfl rfl rfl rfl)
  rw [State.restart_eq]
  generalize s.holding = y at holding
  have barriers (m : Fin 4) : y.restartHolds.barrier m = y.barrier m :=
    congrArg (fun x => x.barrier m) (y.restartHolds_holds holding.books.tables.records).rest
  have lanes (m : Fin 4) : y.restartHolds.lane m = y.lane m :=
    congrArg (fun x => x.lane m) (y.restartHolds_holds holding.books.tables.records).rest
  obtain ⟨v1, p1, l1⟩ : RegistersKept y y.restartHolds :=
    forLanes_keeps (RegistersKept y) (fun n x hx => hx.trans (x.holdBound_registers n _)) ⟨rfl, rfl, rfl⟩
  generalize hr : Timer.load (y.restartHolds.restartBlocks.frames .recovery) = recovery
  have all : LawfulBut none (forLanes (State.restartAt recovery) y) :=
    forLanes_keeps (LawfulBut none) (fun n x hx => hx.restartAt recovery n) holding
  obtain ⟨v2, p2, l2⟩ : RegistersKept y (forLanes (State.restartAt recovery) y) :=
    forLanes_keeps (RegistersKept y) (fun n x hx => hx.trans (x.holdBound_registers n .restart)) ⟨rfl, rfl, rfl⟩
  have vt := State.restartAll_vt recovery y
  have gates := State.restartAll_gateAt recovery y
  generalize forLanes (State.restartAt recovery) y = z at *
  have lane (m : Fin 4) : y.restartHolds.restartBlocks.lane m = z.lane m := by
    rw [restartBlocks_lane, hr, lanes]
    exact (congrArg Prod.fst (gates m)).symm
  have barrier (m : Fin 4) : y.restartHolds.restartBlocks.barrier m = z.barrier m := by
    rw [restartBlocks_barrier, lanes]
    exact (congrArg Prod.snd (gates m)).symm
  refine all.of_quiet (.of_books ?_ (fun m => by rw [lane]) (fun m => by rw [barrier]) ?_)
  · rw [restartBlocks_books, State.books, State.books, v1, p1, v2, p2, vt]
  · rw [restartBlocks_loader, l1, l2]

end Sys2Proof.Machine
end

section
/-! The loop, the port, the notices and the loader's requests (R132 to R153, R182 to R184, R190 to R199): the laws read
nothing of them. -/

namespace Sys2Proof.Machine

/-- What the laws read of a state. -/
def State.core (s : State) : (VisitTable × Table Vehicle × Table Permit) × Vector Lane 4 × Vector Barrier 4 × LoadStatus :=
  (s.books, s.lanes, s.barriers, s.loader.status)

namespace State

variable {s t u : State}

theorem quiet_of_core (h : t.core = s.core) : Quiet s t := by
  obtain ⟨books, lanes, barriers, status⟩ : t.books = s.books ∧ t.lanes = s.lanes ∧ t.barriers = s.barriers ∧
    t.loader.status = s.loader.status := by simpa [core] using h
  exact .of_books books (fun n => by rw [lane, lanes, lane]) (fun n => by rw [barrier, barriers, barrier]) status

/-- A change made once for each unit leaves what the laws read where each single change does. -/
theorem core_forUnits {f : Fin 8 → State → State} (h : ∀ u s, (f u s).core = s.core) (s : State) :
    (forUnits f s).core = s.core :=
  forUnits_keeps (fun t => t.core = s.core) (fun u t ht => (h u t).trans ht) rfl

theorem core_followLevels (s : State) : s.followLevels.core = s.core := by simp [core]

/-! ### The loop -/

theorem core_endInSlot (k : Nat) (heard : Heard) : (s.endInSlot k heard).core = s.core := by
  rw [endInSlot_eq]
  rfl

theorem core_judgeOwnership : s.judgeOwnership.core = s.core := by
  unfold judgeOwnership
  rw [core_followLevels, core_forUnits]
  intro u s
  rfl

theorem core_loopPause : s.loopPause.1.core = s.core := by
  unfold loopPause
  split
  · rfl
  · split <;> rfl

theorem core_loopResume : s.loopResume.1.core = s.core := by
  unfold loopResume
  split
  · show s.callOffPause.core = s.core
    unfold callOffPause
    split <;> rfl
  · split <;> rfl
  · rfl
  · rfl

theorem core_loopStop : s.loopStop.1.core = s.core := by
  unfold loopStop
  split
  · rfl
  · split <;> rfl

theorem core_slotSet (k : Nat) (es : List Byte) : (s.slotSet k es).1.core = s.core := by
  unfold slotSet
  split
  · rfl
  · split
    · rfl
    · split
      · rfl
      · exact core_judgeOwnership

theorem core_unitAddress (u : Fin 8) (a : Nat) : (s.unitAddress u a).1.core = s.core := by
  unfold unitAddress
  split
  · rfl
  · split
    · rfl
    · split <;> rfl

theorem core_loopStatus : s.loopStatus.1.core = s.core := by
  unfold loopStatus
  split
  · rfl
  · split
    · rfl
    · split <;> rfl

theorem core_autoSwitch (u : Fin 8) (on : Nat) : (s.autoSwitch u on).1.core = s.core := by
  unfold autoSwitch
  split
  · rfl
  · split <;> rfl

theorem core_tickUnits : (forUnits tickUnit s).core = s.core := by
  refine core_forUnits (fun u s => ?_) s
  unfold tickUnit
  split <;> rfl

theorem core_sendCommand (k : Nat) (bs : List BitSamples) : (s.sendCommand k bs).core = s.core := by
  simp only [sendCommand, transmit, clearInject, setWorking, core, books]

theorem core_sendPoll (k : Nat) (bs : List BitSamples) : (s.sendPoll k bs).core = s.core := by
  simp only [sendPoll, transmit, clearInject, core, books]

theorem core_sendMarker (bs : List BitSamples) : (s.sendMarker bs).core = s.core := by
  simp only [sendMarker, transmit, setWorking, core, books]

theorem core_openFrame : s.openFrame.core = s.core := by
  simp only [openFrame, core, books]
  rfl

theorem core_enterPaused (k : Nat) : (s.enterPaused k).core = s.core := rfl

theorem core_setDetector (n : Fin 4) (k : DetectorKind) (d : Detector) : (s.setDetector n k d).core = s.core := by
  cases k <;> rfl

theorem core_assertDetector (n : Fin 4) (k : DetectorKind) : (s.assertDetector n k).core = s.core :=
  (core_followLevels _).trans (core_setDetector n k _)

theorem core_deassertDetector (n : Fin 4) (k : DetectorKind) : (s.deassertDetector n k).core = s.core :=
  (core_followLevels _).trans (core_setDetector n k _)

/-! ### The port and the loader -/

theorem core_holdReset : s.holdReset.core = s.core := by simp only [holdReset, core, books]

theorem core_beginTransaction : s.beginTransaction.core = s.core := by simp only [beginTransaction, core, books]

theorem core_noticeReport : s.noticeReport.1.core = s.core := by simp only [noticeReport, core, books]

theorem core_setMask (words : List Word) : (s.setMask words).core = s.core := by simp only [setMask, core, books]

theorem core_setEdges (words : List Word) : (s.setEdges words).core = s.core := by simp only [setEdges, core, books]

theorem core_finishStoreRead (w : Option Word) : (s.finishStoreRead w).core = s.core := by
  simp only [finishStoreRead, answer, core, books]

theorem core_finishWrite (x : StoreWrite) (w : Option Word) : (s.finishWrite x w).core = s.core := by
  simp only [finishWrite, latch, core, books]

theorem core_judgeSent (k : Byte) (rest : List Byte) (calEn : Bool) : (s.judgeSent k rest calEn).core = s.core := by
  have spent : (s.spendFrameCode rest).core = s.core := by
    unfold spendFrameCode
    split <;> rfl
  unfold judgeSent
  dsimp only
  split
  · exact spent
  · exact spent
  · split <;> exact spent

theorem core_endTransaction (x : Sending) (sent : List Byte) (calEn : Bool) :
    (s.endTransaction x sent calEn).core = s.core := by
  have read : ({ s with calEn := calEn }.judgeRead x sent).core = s.core := by
    unfold judgeRead
    split <;> rfl
  unfold endTransaction judgeBytes
  split
  · exact read
  · split
    · exact read
    · exact (core_judgeSent _ _ _).trans read

theorem core_readSetting (code : Byte) (word source : Nat) : (s.readSetting code word source).core = s.core := by
  unfold readSetting
  split
  · unfold readActive
    split <;> rfl
  · unfold readStore
    split
    · rfl
    · split <;> rfl
  · rfl

theorem core_writeSetting (word value : Nat) : (s.writeSetting word value).1.core = s.core := by
  unfold writeSetting
  split
  · rfl
  · split
    · rfl
    · split <;> rfl

/-! ### Frames, and the loop's start (R90, R145, R146) -/

theorem startLoop_quiet (s : State) : Quiet s s.startLoop := by
  refine .of_books rfl (fun _ => rfl) (fun n => ?_) rfl
  rw [startLoop_barrier]
  unfold travelStarted
  split <;> rfl

theorem autoStartLoop_quiet (s : State) : Quiet s s.autoStartLoop := by
  unfold autoStartLoop
  split
  · exact s.startLoop_quiet
  · exact .refl s

theorem loopStart_quiet (s : State) : Quiet s s.loopStart.1 := by
  unfold loopStart
  split
  · exact s.startLoop_quiet
  · exact .refl s

theorem endRestart_quiet (s : State) : Quiet s s.endRestart :=
  (Quiet.of_frame (by rfl) (by rfl) (by rfl) (by rfl)).trans (State.autoStartLoop_quiet _)

theorem blocksFrameEnd_quiet (s : State) : Quiet s s.blocksFrameEnd := by
  refine .of_books rfl (fun n => ?_) (fun n => ?_) rfl
  · have lane : s.blocksFrameEnd.lane n = (mapEach Lane.frameEnd s.lanes).get n := rfl
    rw [lane, mapEach_get]
    rfl
  · have barrier : s.blocksFrameEnd.barrier n = (mapEach Barrier.frameEnd s.barriers).get n := rfl
    rw [barrier, mapEach_get]
    rfl

theorem markerSlot_quiet (s : State) (bs : List BitSamples) : Quiet s (s.markerSlot bs) := by
  have published : Quiet s s.publish := by
    unfold publish
    dsimp only
    refine Quiet.latch (Quiet.trans (quiet_of_core ?_) (State.blocksFrameEnd_quiet _))
    rw [core_forUnits]
    · rfl
    · intro u s
      unfold unitFrameEnd
      dsimp only
      split
      · rfl
      · split <;> rfl
  unfold markerSlot
  split
  · exact quiet_of_core (core_sendMarker bs)
  · exact published.trans (quiet_of_core ((core_sendMarker bs).trans core_openFrame))

end State

end Sys2Proof.Machine
end

section
/-! Loads and the hard reset (R7, R73, R90, R180, R185, R186): the laws after them. -/

namespace Sys2Proof.Machine

variable {s t u : State} {n : Fin 4}

/-! ### Every lane vacant -/

/-- R5, R52: no record is bound, and every lane is vacant. -/
structure AllVacant (s : State) : Prop where
  unbound : ∀ slot v, s.visit slot = some v → v.lane = none
  vacant  : ∀ n, Vacant s n

theorem LawfulBut.allVacant (h : LawfulBut none s) (state : ∀ n,
    (s.lane n).state = .idle ∨ (s.lane n).state = .closed) :
    AllVacant s := by
  refine ⟨fun slot v hv => ?_, fun n => h.isVacant (state n)⟩
  by_contra bound
  obtain ⟨n, lane⟩ := Option.ne_none_iff_exists'.mp bound
  have has := ((h.lanes n (by simp)).visit slot v hv lane).1
  rcases state n with e | e <;> rw [e] at has <;> cases has

/-- R5, R60, R73: with no record bound and every lane vacant the lanes' laws hold. -/
theorem AllVacant.lawful (h : AllVacant s) (books : BooksLawful s) (state : ∀ n, (s.lane n).state.hasVisit = false)
    (loading : s.loader.status = .loading → ∀ n, (s.lane n).state = .closed) : LawfulBut none s where
  books := books
  lanes n _ := by
    have vacant := h.vacant n
    exact .of_free (state n) vacant.bound vacant.heldVisit (fun slot v hv => by simp [h.unbound slot v hv])
      (fun e => absurd e vacant.order) vacant.tracking
  vacant := by simp
  once m n t _ _ hm _ := by
    rw [(h.vacant m).heldVisit] at hm
    cases hm
  loading := loading

theorem AllVacant.of_visits (h : AllVacant s) (visits : t.visit = s.visit) (vacant : ∀ n, Vacant t n) : AllVacant t :=
  ⟨fun slot v hv => h.unbound slot v (visits ▸ hv), vacant⟩

/-! ### RELOAD (R185) -/

theorem State.reloading_lane (s : State) (n : Fin 4) :
    s.reloading.lane n = { s.lane n with state := .closed, display := ⟨.closed, 0⟩ } :=
  mapEach_get _ _ n

theorem LawfulBut.reloading (h : LawfulBut none s)
    (state : ∀ n, (s.lane n).state = .idle ∨ (s.lane n).state = .closed) : LawfulBut none s.reloading := by
  have vacant := h.allVacant state
  have after : AllVacant s.reloading := vacant.of_visits rfl fun n => by
    obtain ⟨bound, heldVisit, order, tracking⟩ := vacant.vacant n
    refine ⟨?_, ?_, order, tracking⟩ <;> rw [State.reloading_lane] <;> assumption
  exact after.lawful (h.books.of_books rfl) (fun n => by rw [State.reloading_lane]; rfl)
    fun _ n => by rw [State.reloading_lane]

theorem Kept.reload (h : Kept none s u) : Kept none s u.reload.1 := by
  cases blocked : u.reloadBlocked with
  | true => rwa [show u.reload = u.refuse .laneBusy by simp [State.reload, blocked]]
  | false =>
    have state (n : Fin 4) : (u.lane n).state = .idle ∨ (u.lane n).state = .closed := by
      by_contra other
      rw [not_or] at other
      exact Bool.false_ne_true (blocked.symm.trans (reloadBlocked_iff.mpr (.inl ⟨n, other⟩)))
    unfold State.reload
    rw [blocked]
    split
    · exact h
    · split
      · exact h
      · exact ⟨h.law.reloading state, h.calm.trans fun n => ⟨id, id, rfl⟩⟩

/-! ### LOAD_END (R7, R180) -/

theorem initialTicket_range (image : List Word) : 1 ≤ initialTicket image ∧ initialTicket image ≤ 99999999 := by
  unfold initialTicket ranged
  split
  · assumption
  · decide

theorem loadOutcome_ne_loading (read : Option (List Word)) : loadOutcome read ≠ .loading := by
  unfold loadOutcome
  split
  · nofun
  · split
    · nofun
    · split <;> nofun

theorem loadedState_hasVisit (mode : LaneMode) (fault : Bool) : (loadedState mode fault).hasVisit = false := by
  cases mode <;> cases fault <;> rfl

theorem LawfulBut.loadedAll (h : LawfulBut none s) (loading : s.loader.status = .loading) (read : Option (List Word)) :
    LawfulBut none (s.loadedAll read) := by
  have books : BooksLawful (s.loadedAll read) := by
    refine h.books.of_unread (loadedAll_ticket s read) ?_ ?_ ?_
    · split
      · exact h.books.visits.next
      · split
        · exact initialTicket_range _
        · decide
    · rw [s.loadedAll_eq read]
    · rw [s.loadedAll_eq read]
  have visits : (s.loadedAll read).visit = s.visit := by
    rw [s.loadedAll_eq read]
    rfl
  have vacant : AllVacant (s.loadedAll read) := (h.allVacant fun n => .inr (h.loading loading n)).of_visits visits
    fun n => ⟨by rw [loadedAll_lane]; rfl, by rw [loadedAll_lane]; rfl, by rw [loadedAll_barrier]; nofun,
      by rw [loadedAll_barrier]; rfl⟩
  refine vacant.lawful books (fun n => ?_) fun e => ?_
  · rw [loadedAll_lane]
    exact loadedState_hasVisit _ _
  · rw [loadedAll_loader] at e
    exact absurd e (loadOutcome_ne_loading read)

theorem LawfulBut.endLoad (h : LawfulBut none s) (loading : s.loader.status = .loading) (read : Option (List Word)) :
    Kept none s (s.endLoad read) := by
  have all : Kept none s (s.loadedAll read) := by
    refine ⟨h.loadedAll loading read, fun n => ?_⟩
    constructor <;> rw [loadedAll_barrier]
    · nofun
    · exact id
    · rfl
  rw [State.endLoad_eq]
  exact all.quiet (State.autoStartLoop_quiet _)

/-! ### HARD_RESET (R186) -/

theorem hardReset_lawful (s : State) : LawfulBut none s.hardReset :=
  ((lawful_iff _).mp lawful_reset).of_quiet (.of_frame rfl rfl rfl rfl)

theorem State.hardReset_barrier (s : State) (n : Fin 4) : s.hardReset.barrier n = Barrier.reset := State.reset_barrier n

end Sys2Proof.Machine
end

section
/-! Every command keeps the laws, and what it leaves of each barrier's order and movement (R77, R83, R85). -/

namespace Sys2Proof.Machine

variable {c : Instr} {s t u y : State} {n : Fin 4}

/-! ### A barrier's order and its movement -/

/-- R77, R83, R85: an order RAISE is new at a lane that enters PASSING, or by a BARRIER RAISE in MAINTENANCE; a barrier
turns to RAISING under an order RAISE alone, but for obstruction reversal. -/
structure Ordered (c : Instr) (s t : State) (n : Fin 4) : Prop where
  order : (t.barrier n).order = .raise → (s.barrier n).order ≠ .raise →
    ((t.lane n).state = .passing ∧ (s.lane n).state ≠ .passing) ∨ ((s.lane n).state = .maintenance ∧
        c = .barrierRaise n.val)
  state : (t.barrier n).state = .raising → (s.barrier n).state ≠ .raising →
    (t.barrier n).order = .raise ∨ ((s.barrier n).state = .lowering ∧ (t.barrier n).report.gate = true)

/-- The laws hold after a command, and each barrier's order and movement are as the rules say. -/
structure Sound (c : Instr) (s t : State) : Prop where
  law     : LawfulBut none t
  ordered : ∀ n, Ordered c s t n

theorem Ordered.of_still (order : (t.barrier n).order = .raise → (s.barrier n).order = .raise)
    (state : (t.barrier n).state = .raising → (s.barrier n).state = .raising) : Ordered c s t n :=
  ⟨fun e new => absurd (order e) new, fun e new => absurd (state e) new⟩

theorem CalmAt.ordered (h : CalmAt s t n) : Ordered c s t n := .of_still h.order h.state

theorem Kept.sound (h : Kept none s t) : Sound c s t := ⟨h.law, fun n => (h.calm n).ordered⟩

theorem Sound.of_calm (law : LawfulBut none t) (order : ∀ n, (t.barrier n).order = .raise → (s.barrier n).order = .raise)
    (state : ∀ n, (t.barrier n).state = .raising → (s.barrier n).state = .raising) : Sound c s t :=
  ⟨law, fun n => .of_still (order n) (state n)⟩

theorem Sound.quiet (h : Sound c s u) (q : Quiet u t) : Sound c s t := by
  refine ⟨h.law.of_quiet q, fun n => ?_⟩
  obtain ⟨order, -, state, image⟩ := Barrier.tie_eq (q.barriers n)
  have report : (t.barrier n).report = (u.barrier n).report := by rw [Barrier.report, image, Barrier.report]
  have before := h.ordered n
  constructor
  · rw [order, (Lane.tie_eq (q.lanes n)).1]
    exact before.order
  · rw [order, state, report]
    exact before.state

theorem Sound.before (h : Sound c u t) (q : Quiet s u) : Sound c s t := by
  refine ⟨h.law, fun n => ?_⟩
  obtain ⟨order, -, state, -⟩ := Barrier.tie_eq (q.barriers n)
  obtain ⟨ordered, moved⟩ := h.ordered n
  constructor
  · rw [← order, ← (Lane.tie_eq (q.lanes n)).1]
    exact ordered
  · rw [← state]
    exact moved

/-- R77: the lane that has new passes its visit was not in PASSING before. -/
theorem MayPass.sound (h : MayPass n s t) (before : LawfulBut none s) : Sound c s t := by
  refine ⟨h.law, fun m => ?_⟩
  by_cases hm : m = n
  · subst hm
    refine ⟨fun e new => ?_, fun e new => .inl ((h.turns.state e).resolve_left new)⟩
    have passing := (h.turns.order e).resolve_left new
    exact .inl ⟨passing, fun was => new ((before.lanes m (by simp)).passing was).1⟩
  · exact (h.turns.others m hm).ordered

/-- R83: an image turns a barrier to RAISING as it reverses. -/
theorem Judged.sound (h : Judged n s y) (later : Kept none y t) : Sound c s t := by
  refine ⟨later.law, fun m => ?_⟩
  by_cases hm : m = n
  · subst hm
    obtain ⟨order, state, image⟩ := later.calm m
    have report : (t.barrier m).report = (y.barrier m).report := by rw [Barrier.report, image, Barrier.report]
    refine ⟨fun e new => absurd (h.order ▸ order e) new, fun e new => .inr ?_⟩
    rw [report]
    exact (h.state (state e)).resolve_left new
  · obtain ⟨order, state, -⟩ := h.others m hm
    exact .of_still (order ∘ (later.calm m).order) (state ∘ (later.calm m).state)

/-- R85: a BARRIER RAISE and a BARRIER LOWER in MAINTENANCE. -/
theorem LawfulBut.workBarrier_sound (h : LawfulBut none s) (n : Fin 4) (o : BarrierOrder)
    (raise : o = .raise → c = .barrierRaise n.val) : Sound c s (s.workBarrier n o).1 := by
  obtain ⟨law, others, -⟩ := h.workBarrier n o
  refine ⟨law, fun m => ?_⟩
  by_cases hm : m = n
  · subst hm
    unfold State.workBarrier
    split
    · rename_i due
      have barrier := s.orderBarrier_barrier m o
      have order := (s.barrier m).giveOrder_order o (s.frames .travel) (s.frames .gateClear)
      rw [← barrier] at order
      refine ⟨fun e _ => .inr ⟨due.1, raise (order ▸ e)⟩, fun e new => .inl ?_⟩
      cases o with
      | raise => exact order
      | lower =>
        have state := (s.barrier m).giveOrder_lower_state (travel := s.frames .travel) (gate := s.frames .gateClear)
        rw [← barrier] at state
        exact absurd (state ▸ e) new
    · exact (Calm.refl s m).ordered
  · obtain ⟨-, barrier, -, -⟩ := others m hm
    exact (CalmAt.of_tie (by rw [barrier])).ordered

theorem LawfulBut.restart_sound (h : LawfulBut none s) : Sound c s s.restart := by
  have barrier (n : Fin 4) : (s.restart.barrier n).order = .lower ∧ (s.restart.barrier n).state = .lowering := by
    rw [State.restart_eq, restartBlocks_barrier]
    exact ⟨rfl, rfl⟩
  exact .of_calm h.restart (fun n e => by rw [(barrier n).1] at e; cases e) fun n e =>
      by rw [(barrier n).2] at e; cases e

theorem hardReset_sound (s : State) : Sound c s s.hardReset :=
  .of_calm (hardReset_lawful s) (fun n e => by rw [s.hardReset_barrier] at e; cases e)
    fun n e => by rw [s.hardReset_barrier] at e; cases e

end Sys2Proof.Machine
end

section
/-! Every command keeps the laws (R1 to R199), and the theorems that say so. -/

namespace Sys2Proof.Machine

variable {c : Instr} {s t : State}

/-- A change of the port, the loader's reads and writes, the notices, the loop or the units. -/
theorem LawfulBut.sound_of_core (h : LawfulBut none s) (core : t.core = s.core) : Sound c s t :=
  ((Kept.refl h).quiet (State.quiet_of_core core)).sound

/-- The waiting message is taken off the loop. -/
theorem quiet_delivered (s : State) : Quiet s { s with loop := { s.loop with delivery := none } } :=
  .of_frame rfl rfl rfl rfl

theorem LawfulBut.delivered (h : LawfulBut none s) :
    Kept none s { s with loop := { s.loop with delivery := none } } := (Kept.refl h).quiet (quiet_delivered s)

/-- R14: a TIP visit is booked with a permit, a LOAD visit with none. -/
theorem bookingPermit?_fits {kind : VisitKind} {permit : Nat} {p : Option Nat}
    (h : State.bookingPermit? kind permit = some p) : p.isSome = decide (kind = .tip) := by
  cases kind <;> simp only [State.bookingPermit?] at h <;> split at h <;> cases h <;> rfl

/-- The conditions of a command's effect: a request is not taken while a load is under way. -/
theorem effect_sound (c : Instr) (h : LawfulBut none s) (awake : requestCode c ≠ 0 → s.loader.status ≠ .loading) :
    Sound c s (effect c s) := by
  have here : Kept none s s := Kept.refl h
  have same : Sound c s s := here.sound
  have record {name : RecordName} {slot : Nat} {v : Visit} (found : s.byName name = some (slot, v)) :
      s.visit slot = some v := State.byName_visit h.books.tables.records found
  have ticketed {k slot : Nat} {v : Visit} (found : s.byTicket k = some (slot, v)) : s.visit slot = some v :=
    (State.byTicket_visit h.books.tables.records found).1
  cases c with
  -- start-up, port and notices
  | hardReset => exact hardReset_sound s
  | rstNLow => exact h.sound_of_core State.core_holdReset
  | loadEnd read =>
    dsimp only [effect]
    split
    · rename_i loading
      exact (h.endLoad loading read).sound
    · exact same
  | transactionStart => exact h.sound_of_core State.core_beginTransaction
  | transactionEnd sent calEn =>
    dsimp only [effect]
    split
    · exact same
    · rename_i x _
      exact h.sound_of_core (State.core_endTransaction x sent calEn)
  | noticeReport => exact h.sound_of_core State.core_noticeReport
  | noticeMask words => exact h.sound_of_core (State.core_setMask _)
  | noticeEdge words => exact h.sound_of_core (State.core_setEdges _)
  -- Visit Table
  | admitVisit lane name => exact here.admitReply.sound
  | book tag kind permit useTare day =>
    dsimp only [effect]
    split
    · split
      · exact same
      · rename_i fits
        exact inRange_fst (Sound _ s) same fun _ => (here.bookVisit (bookingPermit?_fits fits)).sound
    · exact same
  | amend name useTare day =>
    refine inRange_fst (Sound _ s) same fun _ => ?_
    split
    · exact same
    · exact onRecord_fst (Sound _ s) same fun _ _ found => (here.amendVisit (record found)).sound
  | hold name =>
    exact inRange_fst (Sound _ s) same fun _ =>
      onRecord_fst (Sound _ s) same fun _ _ found => (here.holdVisit (record found)).sound
  | releaseHold name lane => exact here.releaseReply.sound
  | voidVisit name =>
    exact inRange_fst (Sound _ s) same fun _ =>
      onRecord_fst (Sound _ s) same fun _ _ found => (here.voidRecord (record found)).sound
  | retire ticket =>
    exact inRange_fst (Sound _ s) same fun _ =>
      onRecord_fst (Sound _ s) same fun _ _ found => (here.retireVisit (ticketed found)).sound
  | takeChanges => exact here.takeChanges.sound
  | tipDeclare ticket category =>
    exact inRange_fst (Sound _ s) same fun _ =>
      onRecord_fst (Sound _ s) same fun _ _ found => (here.declareTip (ticketed found)).sound
  | call lane ticket => exact here.callReply.sound
  -- the registers
  | vehiclePut tag permit payload groups refresh banned tare =>
    dsimp only [effect]
    split
    · exact inRange_fst (Sound _ s) same fun _ => here.putVehicle.sound
    · exact same
  | vehicleDrop tag => exact here.dropVehicle.sound
  | tareStore ticket index validity =>
    exact inRange_fst (Sound _ s) same fun _ => onRecord_fst (Sound _ s) same fun _ _ _ => here.tareStore.sound
  | permitPut number allowed primary expiry => exact inRange_fst (Sound _ s) same fun _ => here.putPermit.sound
  | permitAdjust number amount => exact inRange_fst (Sound _ s) same fun _ => here.adjustPermit.sound
  | permitSuspend number => exact inRange_fst (Sound _ s) same fun _ => here.markPermit.sound
  | permitResume number => exact inRange_fst (Sound _ s) same fun _ => here.markPermit.sound
  | permitDrop number => exact inRange_fst (Sound _ s) same fun _ => here.dropPermit.sound
  -- Lane Controllers
  | laneMode lane mode autoTake walkIn walkTare autoCapture =>
    have ready : s.loader.status ≠ .loading := awake (by simp [requestCode])
    refine onLane_fst (Sound _ s) same fun n _ => ?_
    split
    · exact (here.setMode ready).sound
    · exact same
  | laneRelease lane =>
    refine onLane_fst (Sound _ s) same fun n _ => ?_
    split
    · rename_i state
      exact (here.releaseLane (by rcases state with e | e <;> rw [e] <;> rfl)).sound
    · exact same
  | laneReset lane =>
    refine onLane_fst (Sound _ s) same fun n _ => ?_
    split
    · exact same
    · rename_i opened
      exact (here.resetLane opened).sound
  | maintainOn lane => exact onLane_fst (Sound _ s) same fun n _ => here.maintainOn.sound
  | maintainOff lane => exact onLane_fst (Sound _ s) same fun n _ => here.maintainOff.sound
  | barrierRaise lane => exact onLane_fst (Sound _ s) same fun n e => h.workBarrier_sound n .raise fun _ => by rw [e]
  | barrierLower lane => exact onLane_fst (Sound _ s) same fun n _ => h.workBarrier_sound n .lower nofun
  -- Deck Processors
  | capture lane burst =>
    refine onLane_fst (Sound _ s) same fun n _ => ?_
    split
    · exact same
    · exact here.captureAt.sound
  | terminate lane => exact onLane_fst (Sound _ s) same fun n _ => here.terminateAt.sound h
  | zero deck => exact onLane_fst (Sound _ s) same fun n _ => here.zeroAt.sound
  -- Yard Loop and units
  | loopStart => exact (here.quiet s.loopStart_quiet).sound
  | loopPause => exact h.sound_of_core State.core_loopPause
  | loopResume => exact h.sound_of_core State.core_loopResume
  | loopStop => exact h.sound_of_core State.core_loopStop
  | slotSet frameLength entries => exact h.sound_of_core (State.core_slotSet _ _)
  | unitAddress unit address => exact onUnit_fst (Sound _ s) same fun u => h.sound_of_core (State.core_unitAddress _ _)
  | inject unit => exact onUnit_fst (Sound _ s) same fun u => h.sound_of_core rfl
  | loopStatus => exact h.sound_of_core State.core_loopStatus
  | counterMode unit selection report =>
    refine onUnit_fst (Sound _ s) same fun u => ?_
    split
    · exact h.sound_of_core rfl
    · exact same
  | counterReport unit => exact onUnit_fst (Sound _ s) same fun u => h.sound_of_core rfl
  | autoSwitch unit on => exact onUnit_fst (Sound _ s) same fun u => h.sound_of_core (State.core_autoSwitch _ _)
  -- Settings Loader and Yard Clock
  | settingRead word source => exact h.sound_of_core (State.core_readSetting _ _ _)
  | settingWrite word value calEn => exact h.sound_of_core (State.core_writeSetting _ _)
  | reload => exact here.reload.sound
  | restart => exact h.restart_sound
  | clockSet day minute => exact inRange_fst (Sound _ s) same fun _ => here.setClock.sound
  | storeReadEnd answer => exact h.sound_of_core (State.core_finishStoreRead _)
  | writeCycleEnd readBack =>
    dsimp only [effect]
    split
    · exact same
    · exact h.sound_of_core (State.core_finishWrite _ _)
  | restartEnd => exact (here.quiet s.endRestart_quiet).sound
  | yardClockSecond => exact here.clockSecond.sound
  | dayChange => exact here.changeDay.sound
  | reportIntervalTick => exact h.sound_of_core State.core_tickUnits
  -- slots
  | marker readBack => exact (here.quiet (s.markerSlot_quiet _)).sound
  | laneCommand slot readBack => exact h.sound_of_core (State.core_sendCommand _ _)
  | poll slot readBack => exact h.sound_of_core (State.core_sendPoll _ _)
  | inSlotEnd slot heard => exact h.sound_of_core (State.core_endInSlot _ _)
  | loopPaused slot => exact h.sound_of_core (State.core_enterPaused _)
  -- messages delivered
  | laneStatusMessage n report =>
    obtain ⟨y, judged, later⟩ := h.delivered.law.takeImage (n := n) report s.waitingFrame
    exact (judged.sound later).before (quiet_delivered s)
  | tagRead n tag => exact h.delivered.readTag.sound
  | unitAlarm u code => exact h.delivered.takeAlarm.sound
  | deckSample n raw overRange => exact h.delivered.takeDeckSample.sound h
  -- expiries and entries
  | settleTimerExpiry n =>
    dsimp only [effect]
    split
    · rename_i due
      have settling : (s.lane n).state = .settling := by
        simp only [State.settleDue, Bool.and_eq_true, decide_eq_true_eq] at due
        exact due.1
      exact (here.endSettling settling).sound h
    · exact same
  | cycleTimerExpiry n => exact here.endCycle.sound
  | recoveryTimerExpiry n => exact here.endRecovery.sound
  | passageTimeout n => exact here.endPassing.sound
  | travelTimerExpiry n => exact here.endTravel.sound
  | gateClearTimerExpiry n => exact here.endGateClear.sound
  | abandonTimerExpiry n => exact here.endPassing.sound
  | captureTimerExpiry n => exact here.endCapture.sound
  | trackingTimerExpiry n => exact h.sound_of_core rfl
  | noDataEntry n => exact here.missData.sound
  | unitLostEntry u => exact here.enterLost.sound
  | unitGoodEntry u => exact here.enterUnitState.sound
  | alarmClear u => exact here.clearAlarm.sound
  | detectorAssert n kind =>
    have asserted : Kept none s (s.assertDetector n kind) :=
      here.quiet (State.quiet_of_core (State.core_assertDetector n kind))
    dsimp only [effect]
    split
    · exact asserted.detectorMoves.sound
    · exact asserted.sound
  | detectorDeassert n kind => exact h.sound_of_core (State.core_deassertDetector n kind)
  | identify | lookup _ | nextDone | vehicleGet _ | permitGet _ | laneStatus _ | deckStatus _ | unitStatus _
  | clockRead => exact same

theorem ButForPort.quiet (h : ButForPort t s) : Quiet s t := by
  obtain ⟨p, rfl⟩ := h
  exact .of_frame rfl rfl rfl rfl

/-- R1, R5, R12, R13, R28, R34, R77, R85: a step keeps the laws. -/
theorem step_sound (lawful : Lawful s) (taken : step s = .next t) :
    LawfulBut none t ∧ ∀ n, ∃ c, Ordered c s t n ∧ (c = .barrierRaise n.val → ∃ rest, s.pending = c :: rest) := by
  have law := (lawful_iff s).mp lawful
  have sound : ∃ c, Sound c s t ∧ ∀ n : Fin 4, c = .barrierRaise n.val → ∃ rest, s.pending = c :: rest := by
    rcases step_comes taken with ⟨-, rfl⟩ | ⟨c, rest, pending, comes⟩
    · exact ⟨.identify, (Kept.refl law).sound, nofun⟩
    · have queue : Quiet s { s with pending := rest } := .of_frame rfl rfl rfl rfl
      refine ⟨c, ?_, fun _ _ => ⟨rest, pending⟩⟩
      rcases comes with kept | ⟨-, awake, kept⟩
      · exact ((Kept.refl law).quiet (queue.trans kept.quiet)).sound
      · exact ((effect_sound c (law.of_quiet queue) awake).before queue).quiet kept.quiet
  obtain ⟨c, ⟨law', ordered⟩, pending⟩ := sound
  exact ⟨law', fun n => ⟨c, ordered n, pending n⟩⟩

/-- Settles O26: each write of the Visit Table keeps its laws, carried through every command by `effect_sound`. -/
theorem visitTableStaysLawful : Obligations.VisitTableStaysLawful := by
  intro s t lawful taken
  have books := (step_sound lawful taken).1.books
  exact ⟨books.visits, books.occupancy⟩

/-- Settles O27: each claim moves a lane, its barrier and its record together; a lane whose visit has left it is out of
the laws (`LawfulBut`) until it has moved on. -/
theorem bindingsStayLawful : Obligations.BindingsStayLawful := by
  intro s t lawful taken
  obtain ⟨law, ordered⟩ := step_sound lawful taken
  have lawful' := (lawful_iff t).mpr law
  refine ⟨lawful'.bindings, lawful'.barriers, fun n => ?_⟩
  obtain ⟨c, ⟨order, state⟩, pending⟩ := ordered n
  refine ⟨fun e new => (order e new).imp_right fun ⟨maintenance, hc⟩ => ⟨maintenance, ?_⟩, state⟩
  exact hc ▸ pending hc

/-- Settles O28: what a write reserves and counts moves with the record it writes. -/
theorem claimsStayCounted : Obligations.ClaimsStayCounted := by
  intro s t lawful taken
  have books := (step_sound lawful taken).1.books
  exact ⟨books.reservations, books.retention⟩

end Sys2Proof.Machine
end

section
/-! TARE STORE (R37) and PERMIT PUT (R39, R40): what each request of the two tables writes and answers. -/

namespace Sys2Proof.Machine

/-! ### TARE STORE (R37) -/

section TareStore

variable {s : State} {ticket index validity : Nat} {v : Visit} {w : Weighing} {veh : Vehicle}

/-- R37: the parameters of a TARE STORE are in their ranges. -/
def TareStoreInRange (ticket index validity : Nat) : Prop :=
  1 ≤ ticket ∧ ticket ≤ 99999999 ∧ 1 ≤ index ∧ index ≤ 6 ∧ validity ≤ 3650

theorem tareStoreRanges_iff :
    (ticketOk ticket && decide (1 ≤ index) && decide (index ≤ 6) && decide (validity ≤ 3650)) = true ↔
      TareStoreInRange ticket index validity := by
  simp only [TareStoreInRange, Bool.and_eq_true, ticketOk_iff, decide_eq_true_eq, and_assoc]

theorem exec_tareStore (h : Accepts s (.tareStore ticket index validity))
    (hr : TareStoreInRange ticket index validity) :
    exec (.tareStore ticket index validity) s = replyTo (.tareStore ticket index validity)
      (onRecord (s.byTicket ticket) s fun _ v s => s.tareStore v index validity) := by
  show execTareStore ticket index validity s = _
  refine (request_replies _ h).trans ?_
  rw [inRange_of (tareStoreRanges_iff.mpr hr)]

theorem exec_tareStore_outOfRange (h : Accepts s (.tareStore ticket index validity))
    (hr : ¬ TareStoreInRange ticket index validity) :
    exec (.tareStore ticket index validity) s =
      .next (answered s (.tareStore ticket index validity) .badParameter .empty) := by
  show execTareStore ticket index validity s = _
  refine (request_replies _ h).trans ?_
  rw [inRange_not (Bool.eq_false_iff.mpr fun ok => hr (tareStoreRanges_iff.mp ok)), replyTo_refuse]

/-- R37: a weighing that may be stored is VALID, COMPLETE and legal for trade, and no stored tare itself. -/
theorem storable_iff (w : Weighing) : State.storable w = true ↔
    w.standing = .valid ∧ w.result = .complete ∧ w.legal = true ∧ w.role ≠ .storedTare := by
  simp only [State.storable, Weighing.counted, Bool.and_eq_true, decide_eq_true_eq, and_assoc]

theorem storable_eq_false (w : Weighing) : State.storable w = false ↔
    w.standing ≠ .valid ∨ w.result ≠ .complete ∨ w.legal = false ∨ w.role = .storedTare := by
  rw [← Bool.not_eq_true, storable_iff]
  simp only [not_and_or, Bool.not_eq_true, ne_eq, not_not]

/-- R37: the weight and the day of the weighing and the validity of the request; nothing else of the entry. -/
theorem State.storeTare_of (hv : s.vehicles.get v.vehicle = some veh) (t : Tare) :
    s.storeTare v t = { s with vehicles := s.vehicles.put v.vehicle { veh with tare := some t } } := by
  simp only [storeTare, hv]

theorem State.tareStore_missing (hw : v.weighings[index - 1]? = none) :
    s.tareStore v index validity = s.refuse .notFound := by
  simp only [tareStore, hw]

theorem State.tareStore_unfit (hw : v.weighings[index - 1]? = some w) (unfit : storable w = false) :
    s.tareStore v index validity = s.refuse .wrongState := by
  simp only [tareStore, hw, unfit, Bool.false_eq_true, if_false]

theorem State.tareStore_stores (hw : v.weighings[index - 1]? = some w) (fit : storable w = true)
    (hv : s.vehicles.get v.vehicle = some veh) : s.tareStore v index validity =
      { s with vehicles := (s.vehicles.put v.vehicle
          { veh with tare := some ⟨w.weight, w.time.day, validity⟩ }) }.done := by
  simp only [tareStore, hw, fit, if_true, storeTare_of hv]

/-- Settles O19: the ranges, the record, the weighing the index names, and whether that weighing may be stored. -/
theorem tareStoreWritesALegalWeighing : Obligations.TareStoreWritesALegalWeighing := by
  unfold Obligations.TareStoreWritesALegalWeighing
  intro s ticket index validity h inRange
  refine ⟨fun hr => exec_tareStore_outOfRange h hr, fun hr found => ?noRecord, fun slot v hr found => ?record⟩
  case noRecord =>
    rw [exec_tareStore h hr, onRecord_not found, replyTo_refuse]
  case record =>
    rw [exec_tareStore h hr, onRecord_of found]
    refine ⟨fun beyond => ?_, fun w hw unfit => ?_, fun w veh hw valid complete legal role hv => ?_⟩
    · have missing : v.weighings[index - 1]? = none := List.getElem?_eq_none (by omega)
      rw [State.tareStore_missing missing, replyTo_refuse]
    · rw [State.tareStore_unfit hw ((storable_eq_false w).mpr unfit), replyTo_refuse]
    · rw [State.tareStore_stores hw ((storable_iff w).mpr ⟨valid, complete, legal, role⟩) hv, replyTo_done]

end TareStore

/-! ### PERMIT PUT (R39, R40) -/

section PermitPut

variable {s : State} {number primary expiry : Nat} {allowed : BitVec 32} {p : Permit}

/-- R38, R39: an allowed set that holds the primary category is not empty. -/
theorem permitRanges_iff : permitRanges number allowed primary expiry = true ↔
    1 ≤ number ∧ number ≤ 65535 ∧ primary ≤ 31 ∧ allowed.getLsbD primary = true ∧ expiry ≤ 65535 := by
  have nonempty (ha : allowed.getLsbD primary = true) : allowed ≠ 0 := by
    rintro rfl
    simp at ha
  simp only [permitRanges, Bool.and_eq_true, permitOk_iff, dayOk_iff, decide_eq_true_eq]
  tauto

theorem exec_permitPut (h : Accepts s (.permitPut number allowed primary expiry)) :
    exec (.permitPut number allowed primary expiry) s = replyTo (.permitPut number allowed primary expiry)
      (inRange (permitRanges number allowed primary expiry) s fun s => s.putPermit number allowed primary expiry) :=
  show execPermitPut number allowed primary expiry s = _ from request_replies _ h

theorem State.expiredBy_iff : s.expiredBy expiry = true ↔ s.clock.isSet = true ∧ expiry < s.clock.day := by
  simp only [expiredBy, Bool.and_eq_true, decide_eq_true_eq]

/-- R40: the table of states: a permit whose day is past is EXPIRED, and of the others a SUSPENDED one stays so. -/
theorem replacedState_eq (before : PermitState) (past : Bool) : replacedState before past =
    if past = true then .expired else if before = .suspended then .suspended else .active := by
  cases past <;> cases before <;> rfl

theorem State.putPermit_created (hp : s.permits.get number = none) (room : s.permits.length < 128) :
    s.putPermit number allowed primary expiry =
      ({ s with permits := (s.permits.put number
          { state := if s.expiredBy expiry then .expired else .active, balance := 0, reserved := 0, allowed := allowed
            primary := primary, expiry := expiry, live := 0 }) }, .ok, .permitPut true) := by
  have : ¬ Config.permitCount ≤ s.permits.length := Nat.not_le.mpr room
  simp only [putPermit, hp, this, if_false]

theorem State.putPermit_full (hp : s.permits.get number = none) (full : 128 ≤ s.permits.length) :
    s.putPermit number allowed primary expiry = s.refuse .tableFull := by
  have : Config.permitCount ≤ s.permits.length := full
  simp only [putPermit, hp, this, if_true]

theorem State.putPermit_replaced (hp : s.permits.get number = some p) :
    s.putPermit number allowed primary expiry =
      ({ s with permits := s.permits.put number { p with
          allowed := allowed, primary := primary, expiry := expiry
          state := replacedState p.state (s.expiredBy expiry) } }, .ok, .permitPut false) := by
  simp only [putPermit, hp]

/-- Settles O20: by whether the number has a permit, and for a new one by the room in the table. -/
theorem permitPutCreatesOrReplaces : Obligations.PermitPutCreatesOrReplaces := by
  unfold Obligations.PermitPutCreatesOrReplaces
  intro s number primary expiry allowed h h1 h2 hprimary holds hexpiry past
  rw [exec_permitPut h, inRange_of (permitRanges_iff.mpr ⟨h1, h2, hprimary, holds, hexpiry⟩)]
  refine ⟨fun hp room => ?created, fun hp full => ?full, fun p hp => ?replaced⟩
  case created =>
    simp only [State.putPermit_created hp room, replyTo, State.expiredBy_iff, past]
  case full =>
    rw [State.putPermit_full hp full, replyTo_refuse]
  case replaced =>
    simp only [State.putPermit_replaced hp, replyTo, replacedState_eq, State.expiredBy_iff, past]

end PermitPut

end Sys2Proof.Machine
end

section
/-! Settings in frames (R51, R151, R181). -/

namespace Sys2Proof.Machine

/-- R151: the least number of frames whose total length covers a duration. -/
theorem framesOf_le_iff {ms period n : Nat} (h : 0 < period) : framesOf ms period ≤ n ↔ ms ≤ n * period := by
  unfold framesOf
  rw [Nat.div_le_iff_le_mul_add_pred h, Nat.mul_comm period n]
  omega

/-- Settles O30: the frame count is a division rounded up, and each setting reads its own word. -/
theorem settingsAreConvertedToFrames : Obligations.SettingsAreConvertedToFrames := by
  unfold Obligations.SettingsAreConvertedToFrames
  refine ⟨fun ms period n h => framesOf_le_iff h, fun s x => rfl, fun s => rfl, fun image => ?_, by decide, by decide⟩
  exact ⟨rfl, rfl, rfl, rfl, rfl, rfl, rfl, rfl, rfl, rfl⟩

end Sys2Proof.Machine
end

section
/-! The Request Port turned away, not ready, and IDENTIFY (R192, R193). -/

namespace Sys2Proof.Machine

variable {c : Instr} {s : State}

/-- R193: every listed request but IDENTIFY and SETTING READ has the common shape: judged by its block once the port has
taken it and the part is ready. -/
theorem exec_isRequest (s : State) (listed : requestCode c ≠ 0) (other : c ≠ .identify)
    (reads : ∀ word source, c ≠ .settingRead word source) : ∃ body, exec c s = request c s body := by
  cases c
  case identify => exact absurd rfl other
  case settingRead word source => exact absurd rfl (reads word source)
  case hardReset | loadEnd | transactionStart | transactionEnd | storeReadEnd | writeCycleEnd | restartEnd
    | yardClockSecond | dayChange | reportIntervalTick | marker | laneCommand | poll | inSlotEnd | laneStatusMessage
    | tagRead | unitAlarm | deckSample | loopPaused | settleTimerExpiry | cycleTimerExpiry | recoveryTimerExpiry
    | passageTimeout | travelTimerExpiry | gateClearTimerExpiry | abandonTimerExpiry | captureTimerExpiry
    | trackingTimerExpiry | noDataEntry | unitLostEntry | unitGoodEntry | alarmClear | detectorAssert
    | detectorDeassert | rstNLow => exact absurd rfl listed
  all_goals
    dsimp only [exec]
    exact ⟨_, rfl⟩

/-- R192: every listed request comes through the port. -/
theorem exec_isOnPort (s : State) (listed : requestCode c ≠ 0) : ∃ body, exec c s = onPort c s body := by
  by_cases identify : c = .identify
  · subst identify
    exact ⟨_, show execIdentify s = _ from rfl⟩
  · by_cases reads : ∃ word source, c = .settingRead word source
    · obtain ⟨word, source, rfl⟩ := reads
      exact ⟨_, show execSettingRead word source s = _ from rfl⟩
    · obtain ⟨body, step⟩ := exec_isRequest s listed identify fun word source h => reads ⟨word, source, h⟩
      exact ⟨_, step⟩

/-- Settles O4: by the common shape of the requests, with IDENTIFY and SETTING READ apart. -/
theorem portDropsOrAnswersRequests : Obligations.PortDropsOrAnswersRequests := by
  unfold Obligations.PortDropsOrAnswersRequests
  refine ⟨fun c s up listed busy => ?away, fun c s up listed other taken waits => ⟨fun reads => ?notReady, ?read⟩,
    fun s up taken => ?identify⟩
  case away =>
    obtain ⟨body, step⟩ := exec_isOnPort s listed
    rw [step]
    exact ⟨onPort_busy body up busy, onPort_early body up busy⟩
  case notReady =>
    obtain ⟨body, step⟩ := exec_isRequest s listed other reads
    exact step.trans (request_notReady body up taken waits)
  case read =>
    rintro word source rfl
    refine show execSettingRead word source s = _ from (onPort_taken _ up taken).trans ?_
    simp only [notReady_of waits, if_true]
    rfl
  case identify => exact show execIdentify s = _ from onPort_taken _ up taken

end Sys2Proof.Machine
end

section
/-! The outbound messages, byte by byte (R71, R76, R136, R140, R150). -/

namespace Sys2Proof.Machine

theorem byteSum_cons (b : Byte) (bs : List Byte) : byteSum (b :: bs) = b + bs.sum := by
  have fold (init : Byte) (l : List Byte) : l.foldl (· + ·) init = init + l.sum := by
    induction l generalizing init with
    | nil => simp
    | cons a l ih => rw [List.foldl_cons, ih, List.sum_cons, BitVec.add_assoc]
  rw [byteSum, fold, List.sum_cons]
  exact BitVec.zero_add _

/-- R136: a number's bytes, the least significant first. -/
theorem leBytes_eq (k number : Nat) :
    leBytes k number = (List.range k).map (fun j => BitVec.ofNat 8 (number / 256 ^ j)) := by
  induction k generalizing number with
  | zero => rfl
  | succ k ih =>
    rw [leBytes, ih, List.range_succ_eq_map, List.map_cons, List.map_map, pow_zero, Nat.div_one]
    congr 2
    funext j
    rw [Function.comp_apply, Nat.div_div_eq_div_mul, Nat.pow_succ']

theorem driveCode_of {k : Nat} {d : Drive} (h : [Drive.stay, .raise, .lower][k]? = some d) : driveCode d = k := by
  have : k < 3 := (List.getElem?_eq_some_iff.mp h).1
  interval_cases k <;> cases h <;> rfl

theorem signalCode_of {k : Nat} {g : Signal} (h : [Signal.red, .green, .dark][k]? = some g) : signalCode g = k := by
  have : k < 3 := (List.getElem?_eq_some_iff.mp h).1
  interval_cases k <;> cases h <;> rfl

theorem displayCode_of {k : Nat} {x : DisplayCode}
    (h : [DisplayCode.welcome, .weighing, .proceed, .seeOffice, .closed, .ticket][k]? = some x) : displayCode x = k := by
  have : k < 6 := (List.getElem?_eq_some_iff.mp h).1
  interval_cases k <;> cases h <;> rfl

/-- R71: the signal by its three cases. -/
theorem State.signal_eq (s : State) (n : Fin 4) : s.signal n =
    if (s.lane n).state = .passing ∧ (s.barrier n).state = .up then .green
    else if (s.lane n).state = .closed then .dark else .red := rfl

/-- R76: the drive command by barrier state and order. -/
theorem State.drive_eq (s : State) (n : Fin 4) : s.drive n = driveOf (s.barrier n) (s.lane n).state := rfl

/-- Settles O46: the check byte is the negated sum, and the codes of drive, signal and display are those of the lists. -/
theorem outboundMessagesSayTheLane : Obligations.OutboundMessagesSayTheLane := by
  unfold Obligations.OutboundMessagesSayTheLane
  refine ⟨fun address kind payload inverted => ⟨-(byteSum (header address kind :: payload)), ?_⟩, fun s n => ?_⟩
  · refine ⟨rfl, ?_⟩
    rw [byteSum_cons]
    exact add_neg_cancel (header address kind + payload.sum)
  · intro st order own
    refine ⟨fun h => ?_, fun h => ?_, fun open_ h => ?_, fun h o => ?_, fun h => ?_, fun h o => ?_, fun h o => ?_,
      fun h o => ?_, fun h m => ?_, fun h m => ?_, fun drive signal display hd hs hx => ?_, ?_⟩
    · rw [State.signal_eq, if_pos h]
    · rw [State.signal_eq, if_neg (by rw [h]; exact fun x => nomatch x.1), if_pos h]
    · rw [State.signal_eq, if_neg h, if_neg open_]
    · simp only [State.drive_eq, driveOf, show (s.barrier n).state = _ from h]
    · simp only [State.drive_eq, driveOf, show (s.barrier n).state = _ from h]
    · simp only [State.drive_eq, driveOf, show (s.barrier n).state = _ from h, show (s.barrier n).order = _ from o]
    · simp only [State.drive_eq, driveOf, show (s.barrier n).state = _ from h, show (s.barrier n).order = _ from o]
    · simp only [State.drive_eq, driveOf, show (s.barrier n).state = _ from h]
    · simp only [State.drive_eq, driveOf, show (s.barrier n).state = _ from h, m, if_true]
    · simp only [State.drive_eq, driveOf, show (s.barrier n).state = _ from h, m, if_false]
      rfl
    · simp only [State.outbound, served_laneUnit, commandPayload, driveCode_of hd, signalCode_of hs, displayCode_of hx,
        leBytes_eq]
      rfl
    · simp only [State.outbound, served_digitizer]
      rfl

end Sys2Proof.Machine
end

section
/-! What a lane's moves leave: FAULT and MAINTENANCE entered, a hold of the bound record, and the requests that find no
capture running (R62, R64 to R66, R68, R125, R131, R169). -/

namespace Sys2Proof.Machine

variable {s t u : State} {n : Fin 4} {slot ticket : Nat} {v : Visit} {r : HoldReason}

/-! ### A lane that moves: the lane, its barrier and the notices -/

/-- What a change of a lane's state leaves: its lane and barrier records and the notices alone differ, and nothing
latched is lost. -/
structure LaneMoves (s t : State) (n : Fin 4) : Prop where
  rest    : t = { s with lanes := t.lanes, barriers := t.barriers, notices := t.notices }
  others  : OtherLanesKept s t n
  latched : ∀ src bit, s.notices.isLatched src bit = true → t.notices.isLatched src bit = true

namespace LaneMoves

theorem refl (s : State) (n : Fin 4) : LaneMoves s s n := ⟨rfl, .refl s n, fun _ _ h => h⟩

theorem trans (h : LaneMoves s t n) (h' : LaneMoves t u n) : LaneMoves s u n where
  rest := by
    rw [h'.rest, h.rest]
  others := h.others.trans h'.others
  latched := fun src bit l => h'.latched src bit (h.latched src bit l)

theorem setLane (s : State) (n : Fin 4) (x : Lane) : LaneMoves s (s.setLane n x) n :=
  ⟨rfl, .setLane s x, fun _ _ h => h⟩

theorem setBarrier (s : State) (n : Fin 4) (x : Barrier) : LaneMoves s (s.setBarrier n x) n :=
  ⟨rfl, .setBarrier s x, fun _ _ h => h⟩

theorem followLevels (s : State) (n : Fin 4) : LaneMoves s s.followLevels n :=
  ⟨by unfold State.followLevels; rfl, .followLevels s, fun _ _ h => s.followLevels_isLatched h⟩

theorem vt (h : LaneMoves s t n) : t.vt = s.vt := by rw [h.rest]

theorem engine (h : LaneMoves s t n) (m : Fin 4) : t.engine m = s.engine m := by rw [h.rest]; rfl

theorem deck (h : LaneMoves s t n) (m : Fin 4) : t.deck m = s.deck m := by rw [h.rest]; rfl

theorem unit (h : LaneMoves s t n) (m : Fin 8) : t.unit m = s.unit m := by rw [h.rest]; rfl

theorem frames (h : LaneMoves s t n) (x : Setting) : t.frames x = s.frames x := by rw [h.rest]; rfl

theorem visit (h : LaneMoves s t n) (k : Nat) : t.visit k = s.visit k := by rw [State.visit, h.vt, State.visit]

theorem fieldKept (h : LaneMoves s t n) : FieldKept s t := by rw [h.rest]; exact ⟨rfl, rfl, rfl, rfl⟩

end LaneMoves

/-! ### FAULT and MAINTENANCE entered (R66, R68), and RELEASING without a look at its end -/

@[simp] theorem State.frames_setLane (s : State) (n : Fin 4) (l : Lane) (x : Setting) :
    (s.setLane n l).frames x = s.frames x := rfl

@[simp] theorem State.frames_setBarrier (s : State) (n : Fin 4) (b : Barrier) (x : Setting) :
    (s.setBarrier n b).frames x = s.frames x := rfl

/-- R66: a lane record as it enters FAULT. -/
def faultedLane (l : Lane) : Lane :=
  { l.unbind with
    state := .fault, heldVisit := none, boundTag := none, recovery := none, buffer := [], display := ⟨.seeOffice, 0⟩ }

/-- R68: a lane record as it enters MAINTENANCE. -/
def maintainedLane (l : Lane) : Lane :=
  { l.unbind with
    state := .maintenance, heldVisit := none, boundTag := none, recovery := none, buffer := [], display := ⟨.closed, 0⟩ }

namespace State

theorem enterFault_moves (s : State) (n : Fin 4) : LaneMoves s (s.enterFault n) n :=
  (LaneMoves.setLane s n _).trans <| (LaneMoves.setBarrier _ n _).trans <| (LaneMoves.setBarrier _ n _).trans
    (LaneMoves.followLevels _ n)

@[simp] theorem enterFault_lane (s : State) (n : Fin 4) : (s.enterFault n).lane n = faultedLane (s.lane n) := by
  simp [enterFault, faultedLane]

@[simp] theorem enterFault_barrier (s : State) (n : Fin 4) : (s.enterFault n).barrier n =
    { (s.barrier n).giveOrder .lower (s.frames .travel) (s.frames .gateClear) with
      tracking := .inactive, abandon := none } := by
  simp [enterFault]

theorem enterMaintenance_moves (s : State) (n : Fin 4) : LaneMoves s (s.enterMaintenance n) n :=
  (LaneMoves.setLane s n _).trans <| (LaneMoves.setBarrier _ n _).trans (LaneMoves.followLevels _ n)

@[simp] theorem enterMaintenance_lane (s : State) (n : Fin 4) :
    (s.enterMaintenance n).lane n = maintainedLane (s.lane n) := by
  simp [enterMaintenance, maintainedLane]

@[simp] theorem enterMaintenance_barrier (s : State) (n : Fin 4) : (s.enterMaintenance n).barrier n =
    { s.barrier n with tracking := .inactive, abandon := none } := by
  simp [enterMaintenance]

theorem beginReleasing_moves (s : State) (n : Fin 4) (held : Option Nat) : LaneMoves s (s.beginReleasing n held) n :=
  (LaneMoves.setLane s n _).trans <| (LaneMoves.setBarrier _ n _).trans <| (LaneMoves.setBarrier _ n _).trans
    (LaneMoves.followLevels _ n)

/-- R88: the BEYOND-seen mark is kept from PASSING and from RELEASING. -/
theorem beginReleasing_beyondSeen (s : State) (n : Fin 4) (held : Option Nat)
    (h : (s.lane n).state = .passing ∨ (s.lane n).state = .releasing) :
    ((s.beginReleasing n held).barrier n).beyondSeen =
      ((s.barrier n).giveOrder .lower (s.frames .travel) (s.frames .gateClear)).beyondSeen := by
  simp [beginReleasing, h]

theorem beginReleasing_state (s : State) (n : Fin 4) (held : Option Nat) :
    ((s.beginReleasing n held).barrier n).state = (s.barrier n).state := by
  simp [beginReleasing]

end State

/-- R77, R84: an order to LOWER leaves the BEYOND-seen mark. -/
@[simp] theorem Barrier.giveOrder_lower_beyondSeen (b : Barrier) (travel gate : Nat) :
    (b.giveOrder .lower travel gate).beyondSeen = b.beyondSeen := by
  cases h : b.state <;> simp only [giveOrder, h]
  split
  · rfl
  · rfl

/-! ### No capture running -/

namespace State

theorem abortCapture_idle (h : (s.engine n).run = none) : s.abortCapture n = s := by
  simp only [abortCapture, h]

/-- R131: no reading completes a capture that does not run. -/
theorem meetReading_idle (h : (s.engine n).run = none) : s.meetReading n = s := by
  have none_runs : s.visitCaptureRuns n = false := by simp only [visitCaptureRuns, h]
  unfold meetReading
  split
  · rfl
  · simp only [completesAt, none_runs, Bool.false_and, Bool.false_eq_true, if_false]

@[simp] theorem holdBound_engine (s : State) (n m : Fin 4) (r : HoldReason) :
    (s.holdBound n r).engine m = s.engine m := congrArg (fun x => x.engine m) (s.holdBound_rest n r)

@[simp] theorem holdBound_barrier (s : State) (n m : Fin 4) (r : HoldReason) :
    (s.holdBound n r).barrier m = s.barrier m := congrArg (fun x => x.barrier m) (s.holdBound_rest n r)

theorem holdAndAbort_idle (h : (s.engine n).run = none) (r : HoldReason) : s.holdAndAbort n r = s.holdBound n r :=
  abortCapture_idle (by rw [holdBound_engine, h])

theorem holdBound_free (h : (s.lane n).bound = none) (r : HoldReason) : s.holdBound n r = s := by
  simp only [holdBound, boundRecord, h]

theorem holdAndAbort_free (idle : (s.engine n).run = none) (h : (s.lane n).bound = none) (r : HoldReason) :
    s.holdAndAbort n r = s := by
  rw [holdAndAbort_idle idle, holdBound_free h]

end State

/-! ### The hold of the bound record (R62, R169) -/

/-- R169: what the hold of a record leaves. -/
structure RecordHeld (s t : State) (slot : Nat) (v : Visit) (r : HoldReason) : Prop where
  rest    : t = { s with vt := t.vt, notices := t.notices }
  vt      : t.vt = { s.vt with
    records := s.vt.records.put slot { v with
      state := .held, prior := some v.state, reason := some r, later := [], lane := none }
    changes := withChange s.vt.changes slot }
  notice  : ∀ n : Fin 4, v.lane = some n → t.notices.isLatched .visitHeld n.val = true
  latched : ∀ src bit, s.notices.isLatched src bit = true → t.notices.isLatched src bit = true

namespace RecordHeld

variable (h : RecordHeld s t slot v r)
include h

theorem lane (m : Fin 4) : t.lane m = s.lane m := by rw [h.rest]; rfl

theorem barrier (m : Fin 4) : t.barrier m = s.barrier m := by rw [h.rest]; rfl

theorem engine (m : Fin 4) : t.engine m = s.engine m := by rw [h.rest]; rfl

theorem unit (m : Fin 8) : t.unit m = s.unit m := by rw [h.rest]; rfl

theorem frames (x : Setting) : t.frames x = s.frames x := by rw [h.rest]; rfl

theorem visit : t.visit slot = some { v with
    state := .held, prior := some v.state, reason := some r, later := [], lane := none } := by
  rw [State.visit, h.vt]
  exact Table.get_put_self _ _ _

theorem othersKept : OtherVisitsKept s t slot := fun k hk => by
  rw [State.visit, h.vt]
  exact Table.get_put_of_ne _ _ hk

theorem lanesKept (n : Fin 4) : OtherLanesKept s t n := by
  rw [h.rest]
  exact .of_blocks rfl rfl rfl rfl

theorem fieldKept : FieldKept s t := by
  rw [h.rest]
  exact ⟨rfl, rfl, rfl, rfl⟩

end RecordHeld

theorem State.holdBound_held (tables : s.vt.records.wf) (bound : (s.lane n).bound = some ticket)
    (found : s.byTicket ticket = some (slot, v)) (hs : v.state ≠ .held) (r : HoldReason) :
    RecordHeld s (s.holdBound n r) slot v r := by
  have eq : s.holdBound n r =
      (((s.setVisit slot (heldVisit v r)).touch slot).latch .visitHeld (heldBit v)).followLevels := by
    simp only [holdBound, boundRecord, bound, found, holdClaim_eq (byTicket_visit tables found).1 hs]
  rw [eq, setVisit_touch]
  refine ⟨rfl, rfl, fun m hm => ?_, fun src bit h => ?_⟩
  · rw [heldBit, hm]
    exact followLevels_isLatched _ (latched_latch _ _ m)
  · exact followLevels_isLatched _ (latched_latch_of h)

theorem State.holdAndAbort_held (tables : s.vt.records.wf) (idle : (s.engine n).run = none)
    (bound : (s.lane n).bound = some ticket) (found : s.byTicket ticket = some (slot, v)) (hs : v.state ≠ .held)
    (r : HoldReason) : RecordHeld s (s.holdAndAbort n r) slot v r := by
  rw [holdAndAbort_idle idle]
  exact holdBound_held tables bound found hs r

/-- R62: the hold and the abort of no capture, and RELEASING with the visit. -/
theorem State.holdAndAbort_enterReleasing (idle : (s.engine n).run = none) (bound : (s.lane n).bound = some ticket)
    (r : HoldReason) : (s.holdAndAbort n r).enterReleasing n (some ticket) = s.holdToReleasing n r := by
  simp only [holdAndAbort_idle idle, holdToReleasing, bound]

/-! ### A visit held at its lane -/

theorem HeldAtLane.visit (h : HeldAtLane s t n ticket slot v r) : t.visit slot = some { v with
    state := .held, prior := some v.state, reason := some r, later := [], lane := none } := by
  rw [State.visit, h.vt]
  exact Table.get_put_self _ _ _

theorem HeldAtLane.othersKept (h : HeldAtLane s t n ticket slot v r) : OtherVisitsKept s t slot := fun k hk => by
  rw [State.visit, h.vt]
  exact Table.get_put_of_ne _ _ hk

theorem HeldAtLane.fieldKept (h : HeldAtLane s t n ticket slot v r) : FieldKept s t := by
  rw [h.rest]
  exact ⟨rfl, rfl, rfl, rfl⟩

theorem HeldAtLane.state (h : HeldAtLane s t n ticket slot v r) : (t.lane n).state = .releasing := by
  rw [h.releases.lane]

theorem HeldAtLane.tryOnIdle (h : HeldAtLane s t n ticket slot v r) (before : State) : t.tryOnIdle n before = t :=
  State.tryOnIdle_of_not (by rw [h.state]; nofun)

/-! ### The faults of a lane (R66, R81) -/

/-- R66: a lane that can fault holds its visit and enters FAULT. -/
theorem State.faultLane_eq (h : (s.lane n).state ≠ .closed ∧ (s.lane n).state ≠ .fault) (r : HoldReason) :
    s.faultLane n r = (s.holdAndAbort n r).enterFault n := by
  obtain ⟨open_, sound⟩ := h
  unfold faultLane
  cases hs : (s.lane n).state
  case closed => exact absurd hs open_
  case fault => exact absurd hs sound
  all_goals rfl

theorem State.faultLane_stands (h : (s.lane n).state = .closed ∨ (s.lane n).state = .fault) (r : HoldReason) :
    s.faultLane n r = s := by
  rcases h with h | h <;> simp only [faultLane, h]

end Sys2Proof.Machine
end

section
/-! LOOP START, LOOP PAUSE, LOOP RESUME and LOOP STOP: what each answers by the loop's state (R146, R147). -/

namespace Sys2Proof.Machine

namespace State

variable {s : State}

/-- R147: the lanes that keep the loop from pausing or stopping. -/
theorem laneInUse_iff : s.laneInUse = true ↔ ∃ n : Fin 4, (s.lane n).state = .settling ∨ (s.lane n).state = .bound ∨
    (s.lane n).state = .passing ∨ (s.lane n).state = .releasing := by
  have every (n : Fin 4) : n ∈ allLanes := by
    revert n
    decide
  simp only [laneInUse, List.any_eq_true, every, true_and]
  refine exists_congr fun n => ?_
  cases (s.lane n).state <;> simp

theorem loopStart_stopped (h : s.loop.state = .stopped) :
    s.loopStart = (s.startLoop, .ok, .frameNumber ((s.loop.frameNo + 1) % 256)) := if_pos h

theorem loopStart_refused (h : s.loop.state ≠ .stopped) : s.loopStart = s.refuse .loopState := if_neg h

theorem loopPause_running (h : s.loop.state = .running) : s.loopPause =
    if s.laneInUse then s.refuse .laneBusy else (s.enterLoop .pausing, .ok, .loopState .pausing) :=
  if_neg (not_not_intro h)

theorem loopPause_refused (h : s.loop.state ≠ .running) : s.loopPause = s.refuse .loopState := if_pos h

theorem loopResume_refused (h : s.loop.state = .stopped ∨ s.loop.state = .running) :
    s.loopResume = s.refuse .loopState := by
  rcases h with h | h
  · rw [loopResume, h]
  · rw [loopResume, h]

theorem loopResume_pausing (h : s.loop.state = .pausing) :
    s.loopResume = (s.callOffPause, .ok, .loopState .running) := by
  rw [loopResume, h]

theorem loopResume_paused (h : s.loop.state = .paused) : s.loopResume =
    (if s.loop.tableChanged then s.resumeAnew else s.resumeAfter, .ok, .loopState .running) := by
  rw [loopResume, h]
  cases s.loop.tableChanged
  case false => rfl
  case true => rfl

/-- R147: the slot in progress has ended, and the table is the one it belongs to: the loop goes on with the next. -/
theorem loopResume_ended (h : (s.loop.state = .pausing ∧ s.loop.slotDone = true) ∨
    (s.loop.state = .paused ∧ s.loop.tableChanged = false)) :
    s.loopResume = (s.resumeAfter, .ok, .loopState .running) := by
  rcases h with ⟨pausing, ended⟩ | ⟨paused, same⟩
  · rw [loopResume_pausing pausing, callOffPause_ended s ended]
  · rw [loopResume_paused paused, same]
    rfl

theorem loopStop_turning (h : s.loop.state ≠ .stopped) : s.loopStop =
    if s.laneInUse then s.refuse .laneBusy else (s.stopLoop, .ok, .loopState .stopped) := if_neg h

theorem loopStop_refused (h : s.loop.state = .stopped) : s.loopStop = s.refuse .loopState := if_pos h

end State

/-- Settles O44: each request by its reply in each state of the loop. -/
theorem loopRequestsFollowTheTable : Obligations.LoopRequestsFollowTheTable := by
  unfold Obligations.LoopRequestsFollowTheTable
  intro s inUse
  have busy (h : inUse) : s.laneInUse = true := State.laneInUse_iff.mpr h
  have unused (h : ¬ inUse) : ¬ s.laneInUse = true := fun used => h (State.laneInUse_iff.mp used)
  refine ⟨fun taken => ?start, fun taken => ?pause, fun taken => ?resume, fun taken => ?stop⟩
  case start =>
    have step : exec .loopStart s = replyTo .loopStart s.loopStart := request_replies _ taken
    refine ⟨fun turns => ?_, fun stopped => ⟨s.startLoop, ?_, s.startLoop_eq, s.startLoop_clears, s.startLoop_barrier⟩⟩
    · rw [step, State.loopStart_refused turns, replyTo_refuse]
    · rw [step, State.loopStart_stopped stopped, replyTo]
  case pause =>
    have step : exec .loopPause s = replyTo .loopPause s.loopPause := request_replies _ taken
    refine ⟨fun other => ?_, fun running used => ?_, fun running free => ?_⟩
    · rw [step, State.loopPause_refused other, replyTo_refuse]
    · rw [step, State.loopPause_running running, if_pos (busy used), replyTo_refuse]
    · rw [step, State.loopPause_running running, if_neg (unused free), replyTo, State.enterLoop]
  case resume =>
    have step : exec .loopResume s = replyTo .loopResume s.loopResume := request_replies _ taken
    refine ⟨fun other => ?_, fun pausing inSlot => ?_, fun ended => ?_, fun paused changed =>
      ⟨s.resumeAnew, ?_, s.resumeAnew_eq, s.resumeAnew_clears⟩⟩
    · rw [step, State.loopResume_refused other, replyTo_refuse]
    · rw [step, State.loopResume_pausing pausing, s.callOffPause_inSlot inSlot, replyTo]
    · rw [step, State.loopResume_ended ended]
      rfl
    · rw [step, State.loopResume_paused paused, if_pos changed, replyTo]
  case stop =>
    have step : exec .loopStop s = replyTo .loopStop s.loopStop := request_replies _ taken
    refine ⟨fun stopped => ?_, fun turns used => ?_, fun turns free =>
      ⟨s.stopLoop, ?_, s.stopLoop_eq, s.stopLoop_clears⟩⟩
    · rw [step, State.loopStop_refused stopped, replyTo_refuse]
    · rw [step, State.loopStop_turning turns, if_pos (busy used), replyTo_refuse]
    · rw [step, State.loopStop_turning turns, if_neg (unused free), replyTo]

end Sys2Proof.Machine
end

section
/-! What a barrier makes of an image, state by state (R78, R79, R80, R83, R84). -/

namespace Sys2Proof.Machine

namespace Barrier

variable {b : Barrier} {r : LaneReport} {travel gate : Nat}

/-- R82: no image takes a barrier out of FAULT. -/
theorem judge_fault (h : b.state = .fault) : b.judge travel gate = b := by
  simp only [judge, h]

/-- R79: both switches closed. -/
theorem judge_bothClosed (seen : b.report = r) (h : b.state ≠ .fault) (up : r.upClosed = true)
    (down : r.downClosed = true) : b.judge travel gate = b.fail := by
  cases hs : b.state
  case fault => exact absurd hs h
  all_goals simp only [judge, hs, seen, up, down, Bool.and_self, Bool.true_or, if_true]

/-- R79: a DOWN barrier whose switch has opened. -/
theorem judge_down_opened (seen : b.report = r) (h : b.state = .down) (down : r.downClosed = false) :
    b.judge travel gate = b.fail := by
  simp only [judge, h, seen, down, Bool.not_false, Bool.or_true, if_true]

/-- R79: an UP barrier whose switch has opened. -/
theorem judge_up_opened (seen : b.report = r) (h : b.state = .up) (up : r.upClosed = false) :
    b.judge travel gate = b.fail := by
  simp only [judge, h, seen, up, Bool.not_false, Bool.or_true, if_true]

/-- R78, R84: the end of travel of a RAISING barrier, which waits for GATE where its order is LOWER. -/
theorem judge_raised (seen : b.report = r) (h : b.state = .raising) (up : r.upClosed = true)
    (down : r.downClosed = false) : b.judge travel gate = { b.rest .up with
      gateClear := if b.order = .lower then if r.gate then none else some gate else b.gateClear } := by
  simp only [judge, h, seen, up, down, Bool.and_false, Bool.false_eq_true, if_false, if_true]
  show (if b.order = .lower then (b.rest .up).waitGate gate else b.rest .up) = _
  split
  · rw [← seen]
    rfl
  · rfl

/-- R78: the end of travel of a LOWERING barrier. -/
theorem judge_lowered (seen : b.report = r) (h : b.state = .lowering) (down : r.downClosed = true)
    (up : r.upClosed = false) : b.judge travel gate = b.rest .down := by
  simp only [judge, h, seen, up, down, Bool.false_and, Bool.false_eq_true, if_false, if_true]

/-- R80: a RAISING barrier on its way looks for a refusal alone. -/
theorem judge_raising (seen : b.report = r) (h : b.state = .raising) (up : r.upClosed = false) :
    b.judge travel gate = b.judgeRefusal := by
  simp only [judge, h, seen, up, Bool.false_and, Bool.false_eq_true, if_false]

/-- R80, R83: a LOWERING barrier on its way looks for a refusal, then for an obstruction (log 19). -/
theorem judge_lowering (seen : b.report = r) (h : b.state = .lowering) (down : r.downClosed = false) :
    b.judge travel gate = b.judgeRefusal.reverse travel := by
  simp only [judge, h, seen, down, Bool.and_false, Bool.false_eq_true, if_false]

theorem judgeRefusal_none (seen : b.report = r) (refused : r.refused = false) :
    b.judgeRefusal = { b with refusals := 0 } := by
  simp only [judgeRefusal, seen, refused, Bool.false_eq_true, if_false]

theorem judgeRefusal_first (seen : b.report = r) (refused : r.refused = true) (zero : b.refusals = 0) :
    b.judgeRefusal = { b with refusals := 1 } := by
  simp only [judgeRefusal, seen, refused, zero, if_true]

theorem judgeRefusal_second (seen : b.report = r) (refused : r.refused = true) (one : b.refusals = 1) :
    b.judgeRefusal = b.fail := by
  simp only [judgeRefusal, seen, refused, one, if_true, Nat.one_ne_zero, if_false]

/-- R80: a second refusal on the way down is the fault that obstruction does not reverse (log 19). -/
theorem judge_lowering_second (seen : b.report = r) (h : b.state = .lowering) (down : r.downClosed = false)
    (refused : r.refused = true) (one : b.refusals = 1) : b.judge travel gate = b.fail := by
  rw [judge_lowering seen h down, judgeRefusal_second seen refused one]
  exact if_neg fun turns => nomatch turns.1

theorem judge_lowering_first (seen : b.report = r) (h : b.state = .lowering) (down : r.downClosed = false)
    (refused : r.refused = true) (zero : b.refusals = 0) (clear : r.gate = false) :
    b.judge travel gate = { b with refusals := 1 } := by
  rw [judge_lowering seen h down, judgeRefusal_first seen refused zero]
  refine if_neg fun turns => ?_
  have occupied : b.report.gate = true := turns.2
  rw [seen, clear] at occupied
  cases occupied

/-- R83: obstruction reversal. -/
theorem judge_lowering_obstructed (seen : b.report = r) (h : b.state = .lowering) (down : r.downClosed = false)
    (refused : r.refused = false) (occupied : r.gate = true) :
    b.judge travel gate = b.startTravel .raising travel := by
  rw [judge_lowering seen h down, judgeRefusal_none seen refused]
  exact if_pos ⟨h, seen ▸ occupied⟩

/-- R84: an UP barrier that stays UP: with order LOWER its gate-clear timer follows GATE. -/
theorem judge_up_stays (seen : b.report = r) (h : b.state = .up) (up : r.upClosed = true)
    (down : r.downClosed = false) : b.judge travel gate = { b with
      gateClear := if b.order = .lower then if r.gate then none else some (b.gateClear.getD gate)
        else b.gateClear } := by
  have rest : b.judge travel gate = if b.order = .lower then
      if r.gate then { b with gateClear := none }
      else if b.gateClear = none then { b with gateClear := some gate } else b
      else b := by
    simp only [judge, h, seen, up, down, Bool.and_false, Bool.not_true, Bool.or_self, Bool.false_eq_true, if_false]
  rw [rest]
  split
  · split
    · rfl
    · cases clears : b.gateClear
      case none => rfl
      case some k => rw [if_neg nofun, Option.getD_some, ← clears]
  · rfl

/-! ### Tracking and abandonment of no vehicle (R85, R86) -/

theorem track_inactive (h : b.tracking = .inactive) : b.track = b := if_neg fun active => active.1 h

theorem watchAbandon_inactive (h : b.tracking = .inactive) (k : Nat) :
    b.watchAbandon k = { b with abandon := none } := by
  have not : b.abandonable = false := by simp [abandonable, h]
  simp only [watchAbandon, not, Bool.false_eq_true, if_false]

end Barrier

end Sys2Proof.Machine
end

section
/-! O54: the LANE_STATUS of a lane in MAINTENANCE is its barrier's alone (R75, R78 to R84). -/

namespace Sys2Proof.Machine

variable {s : State} {n : Fin 4} {r : LaneReport} {frame : Nat}

/-- R69: a lane in MAINTENANCE does not move with its barrier. -/
theorem State.judgeBarrier_maintenance (h : (s.lane n).state = .maintenance) :
    s.judgeBarrier n = s.setBarrier n ((s.barrier n).judge (s.frames .travel) (s.frames .gateClear)) := by
  unfold judgeBarrier
  generalize (s.barrier n).judge (s.frames .travel) (s.frames .gateClear) = b
  have stays : ((s.setBarrier n b).lane n).state = .maintenance := h
  have fault : (s.setBarrier n b).barrierFaultAtLane n = s.setBarrier n b := if_pos stays
  have down : (s.setBarrier n b).endReleasing n = s.setBarrier n b :=
    if_neg fun releasing => by simp only [stays, reduceCtorEq, false_and] at releasing
  dsimp only
  split
  · rfl
  · cases b.state
    case fault => exact fault
    case down => exact down
    case raising | up | lowering => rfl

/-- R85: an image of a barrier that tracks no vehicle. -/
theorem State.trackPassage_inactive (h : (s.barrier n).tracking = .inactive) :
    s.trackPassage n = s.setBarrier n (s.barrier n) := by
  simp only [trackPassage, Barrier.track_inactive h, h]

/-- R75: a barrier with a new image. -/
def Barrier.withImage (b : Barrier) (r : LaneReport) (frame : Nat) : Barrier := { b with image := some ⟨r, frame⟩ }

@[simp] theorem Barrier.withImage_report (b : Barrier) (r : LaneReport) (frame : Nat) :
    (b.withImage r frame).report = r := rfl

/-- R81, R85: a judgement makes no barrier track a vehicle. -/
theorem Barrier.judge_inactive {b : Barrier} (h : b.tracking = .inactive) (travel gate : Nat) :
    (b.judge travel gate).tracking = .inactive := by
  have becomes := b.judge_becomes travel gate
  by_cases stays : (b.judge travel gate).state ≠ .fault ∨ (b.judge travel gate).state = b.state
  · exact (becomes.tracked stays).trans h
  · obtain ⟨fault, moved⟩ := not_or.mp stays
    exact becomes.failed (not_not.mp fault) fun same => moved ((not_not.mp fault).trans same.symm)

/-- R75, R86: the image of a lane in MAINTENANCE that no capture awaits: the barrier judges it, and no abandon timer
runs. -/
theorem State.takeImage_maintenance (h : (s.lane n).state = .maintenance) (idle : (s.engine n).run = none)
    (inactive : (s.barrier n).tracking = .inactive) (code : r.code = .none) : s.takeImage n r frame = s.setBarrier n
      { ((s.barrier n).withImage r frame).judge (s.frames .travel) (s.frames .gateClear) with abandon := none } := by
  have captured : (s.setImage n r frame).captureImage n r = s.setBarrier n ((s.barrier n).withImage r frame) := by
    have : ((s.setImage n r frame).engine n).run = none := idle
    simp only [captureImage, this]
    rfl
  have judged : ((s.setImage n r frame).captureImage n r).judgeBarrier n = s.setBarrier n
      (((s.barrier n).withImage r frame).judge (s.frames .travel) (s.frames .gateClear)) := by
    rw [captured, judgeBarrier_maintenance (s := s.setBarrier n _) h, barrier_setBarrier_self, setBarrier_setBarrier,
      frames_setBarrier, frames_setBarrier]
  have quiet := Barrier.judge_inactive (b := (s.barrier n).withImage r frame) inactive (s.frames .travel)
    (s.frames .gateClear)
  unfold takeImage
  rw [code, seeCode, judged]
  generalize ((s.barrier n).withImage r frame).judge (s.frames .travel) (s.frames .gateClear) = b at quiet
  rw [trackPassage_inactive (by rw [barrier_setBarrier_self]; exact quiet), watchAbandoned, barrier_setBarrier_self,
    barrier_setBarrier_self, setBarrier_setBarrier, setBarrier_setBarrier, Barrier.watchAbandon_inactive quiet]
  exact tryOnIdle_of_same rfl

/-- R75: the delivery of such an image. -/
theorem exec_laneStatus_maintenance (up : s.rstLow = false)
    (waits : s.loop.delivery = some ⟨.laneStatusMessage n r, frame⟩) (h : (s.lane n).state = .maintenance)
    (idle : (s.engine n).run = none) (inactive : (s.barrier n).tracking = .inactive) (code : r.code = .none) :
    exec (.laneStatusMessage n r) s = .next (s.undelivered.setBarrier n
      { ((s.barrier n).withImage r frame).judge (s.frames .travel) (s.frames .gateClear) with abandon := none }) :=
  show execLaneStatusMessage n r s = _ from (deliver_taken _ up waits).trans <|
    congrArg Host.Outcome.next (State.takeImage_maintenance (s := s.undelivered) h idle inactive code)

/-- Settles O54: the image comes to the barrier's judgement, which is read off case by case. -/
theorem barrierJudgesEachImage : Obligations.BarrierJudgesEachImage := by
  unfold Obligations.BarrierJudgesEachImage
  intro s n r frame up waits maintained idle inactive code
  have step := exec_laneStatus_maintenance up waits maintained idle inactive code
  have becomes := ((s.barrier n).withImage r frame).judge_becomes (s.frames .travel) (s.frames .gateClear)
  have seen := (s.barrier n).withImage_report r frame
  have notLower (raise : (s.barrier n).order = .raise) : (s.barrier n).order ≠ .lower := by
    rw [raise]
    nofun
  refine ⟨_, step, rfl, .setBarrier s.undelivered _, ?_⟩
  rw [State.barrier_setBarrier_self]
  dsimp only
  refine ⟨becomes.image, becomes.order, fun sound hup hdown => ?bothClosed, fun raising hup hdown => ?raised,
    fun isUp hup hdown => ?staysUp, fun raising hup refused => ?raising, fun raising hup refused one => ?secondRefusal,
    fun raising hup refused zero => ?firstRefusal, fun lowering hdown hup => ?lowered,
    fun lowering hdown refused => ⟨fun one => ?refusedAgain, fun zero gate => ?refusedOnce⟩,
    fun lowering hdown refused gate => ?reversed, fun isDown hdown => ?downOpened, fun isUp hup => ?upOpened,
    fun failed => ?failed⟩
  case bothClosed => rw [Barrier.judge_bothClosed seen sound hup hdown]; rfl
  case raised =>
    rw [Barrier.judge_raised seen raising hup hdown]
    exact ⟨rfl, rfl, fun lower => if_pos lower, fun raise => if_neg (notLower raise)⟩
  case staysUp =>
    rw [Barrier.judge_up_stays seen isUp hup hdown]
    exact ⟨isUp, fun lower => if_pos lower, fun raise => if_neg (notLower raise)⟩
  case raising =>
    rw [Barrier.judge_raising seen raising hup, Barrier.judgeRefusal_none seen refused]
    exact ⟨raising, rfl⟩
  case secondRefusal =>
    rw [Barrier.judge_raising seen raising hup, Barrier.judgeRefusal_second seen refused one]
    rfl
  case firstRefusal =>
    rw [Barrier.judge_raising seen raising hup, Barrier.judgeRefusal_first seen refused zero]
    exact ⟨raising, rfl, rfl⟩
  case lowered =>
    rw [Barrier.judge_lowered seen lowering hdown hup]
    exact ⟨rfl, rfl⟩
  case refusedAgain => rw [Barrier.judge_lowering_second seen lowering hdown refused one]; rfl
  case refusedOnce =>
    rw [Barrier.judge_lowering_first seen lowering hdown refused zero gate]
    exact ⟨lowering, rfl, rfl⟩
  case reversed =>
    rw [Barrier.judge_lowering_obstructed seen lowering hdown refused gate]
    exact ⟨rfl, rfl⟩
  case downOpened => rw [Barrier.judge_down_opened seen isDown hdown]; rfl
  case upOpened => rw [Barrier.judge_up_opened seen isUp hup]; rfl
  case failed => rw [Barrier.judge_fault (b := (s.barrier n).withImage r frame) failed]; exact failed

end Sys2Proof.Machine
end

section
/-! O38: ZERO, its refusals and its effect (R102, R105). -/

namespace Sys2Proof.Machine

/-! ### The conditions ZERO judges -/

theorem DeckParams.inZeroRange_iff {p : DeckParams} {raw : Nat} :
    p.inZeroRange raw = true ↔ (p.zeroOffset raw).natAbs ≤ p.capacity / 50 := by
  rw [inZeroRange, zeroRange, decide_eq_true_eq, Int.toNat_natCast]

theorem Deck.emptyAndStable_iff {d : Deck} :
    d.emptyAndStable = true ↔ d.state = .empty ∧ ∃ w, d.window = some w ∧ w.settled = true := by
  cases hw : d.window <;> simp [emptyAndStable, hw]

/-- R105: a deck that is not EMPTY, or whose window, if there is one, is not settled, is not empty and stable. -/
theorem Deck.not_emptyAndStable {d : Deck}
    (h : d.state ≠ .empty ∨ ∀ w, d.window = some w → w.settled = false) : d.emptyAndStable = false := by
  rw [← Bool.not_eq_true, emptyAndStable_iff]
  rintro ⟨state, w, window, settled⟩
  rcases h with moving | unsettled
  · exact moving state
  · exact Bool.false_ne_true ((unsettled w window).symm.trans settled)

/-! ### What ZERO answers -/

namespace State

variable {s : State} {n : Fin 4} {p : DeckParams}

/-- R105: a deck that is not enabled. -/
theorem zeroAt_disabled (h : (s.deck n).params = none) : s.zeroAt n = s.refuse .badParameter := by
  rw [zeroAt, h]

/-- R105: an enabled deck that is not empty and stable, or has a capture running, with or without a last sample. -/
theorem zeroAt_wrongState (enabled : (s.deck n).params = some p)
    (h : (s.deck n).emptyAndStable = false ∨ (s.engine n).run ≠ none) : s.zeroAt n = s.refuse .wrongState := by
  have blocked : (!(s.deck n).emptyAndStable || (s.engine n).run.isSome) = true := by
    rw [Bool.or_eq_true, Bool.not_eq_true', Option.isSome_iff_ne_none]
    exact h
  cases last : (s.deck n).last with
  | none => simp only [zeroAt, enabled, last]
  | some x => simp only [zeroAt, enabled, last, blocked, if_true]

/-- R105: an empty and stable deck with no capture running is judged by the zero range alone. -/
theorem zeroAt_judged {x : Sample} (enabled : (s.deck n).params = some p)
    (steady : (s.deck n).emptyAndStable = true) (run : (s.engine n).run = none) (last : (s.deck n).last = some x) :
    s.zeroAt n = if p.inZeroRange x.raw then (s.zeroDeck n x.raw, .ok, .zeroOffset (p.zeroOffset x.raw))
      else s.refuse .zeroRange := by
  cases range : p.inZeroRange x.raw <;> simp [zeroAt, enabled, last, steady, run, range]

end State

/-! ### The request -/

section Zero

variable {s : State} {k : Nat} {n : Fin 4}

theorem exec_zero (h : Accepts s (.zero k)) :
    exec (.zero k) s = replyTo (.zero k) (onLane k s fun n s => s.zeroAt n) :=
  show execZero k s = _ from request_replies _ h

theorem exec_zero_fin (h : Accepts s (.zero n.val)) :
    exec (.zero n.val) s = replyTo (.zero n.val) (s.zeroAt n) := by
  rw [exec_zero h, onLane_fin]

end Zero

/-- Settles O38: the deck number, then the deck by the branches of `zeroAt` in their order. -/
theorem zeroSetsTheWorkingZero : Obligations.ZeroSetsTheWorkingZero := by
  unfold Obligations.ZeroSetsTheWorkingZero
  intro s k h
  refine ⟨fun out => ?noDeck, ?_⟩
  case noDeck => rw [exec_zero h, onLane_not out, replyTo_refuse]
  rintro n rfl
  refine ⟨fun disabled => ?disabled, fun p enabled =>
    ⟨fun blocked => ?wrongState, fun w x state window settled run last => ?judged⟩⟩
  case disabled => rw [exec_zero_fin h, State.zeroAt_disabled disabled, replyTo_refuse]
  case wrongState =>
    have blocked : (s.deck n).emptyAndStable = false ∨ (s.engine n).run ≠ none := by
      rcases blocked with state | window | run
      · exact .inl (Deck.not_emptyAndStable (.inl state))
      · exact .inl (Deck.not_emptyAndStable (.inr window))
      · exact .inr run
    rw [exec_zero_fin h, State.zeroAt_wrongState enabled blocked, replyTo_refuse]
  case judged =>
    have steady := Deck.emptyAndStable_iff.mpr ⟨state, w, window, settled⟩
    rw [exec_zero_fin h, State.zeroAt_judged enabled steady run last]
    refine ⟨fun outside => ?_, fun inside => ?_⟩
    · rw [if_neg (mt DeckParams.inZeroRange_iff.mp (Nat.not_le.mpr outside)), replyTo_refuse]
    · rw [if_pos (DeckParams.inZeroRange_iff.mpr inside)]
      rfl

end Sys2Proof.Machine
end

section
/-! The reading that completes a WHOLE capture for an ENTRY or INTERNAL visit (R118, R126 to R128, R19, R60). -/

namespace Sys2Proof.Machine

section

variable {s u t : State} {n : Fin 4} {c : Capture} {ticket slot : Nat} {v : Visit} {role : Role} {weight : Int}
  {inRange : Bool}

/-- R118: the STABLE reading of a positioned WHOLE capture settles it with the weight read. -/
theorem State.captureReading_whole (run : (u.engine n).run = some c) (whole : c.method = .whole)
    (phase : c.phase = .measuring) :
    u.captureReading n .stable weight inRange = u.settleGathered n c false ⟨weight, none, inRange⟩ := by
  simp only [captureReading, run, whole, phase, and_self, if_true]

/-- R128: the record's list then ends in the VALID COMPLETE entry of the WHOLE weighing. -/
theorem settledList_whole (whole : c.method = .whole) :
    settledList s v n c role false ⟨weight, none, inRange⟩ =
      withEntry v (wholeEntry s n role weight (gatheredLegal s n false ⟨weight, none, inRange⟩)) := by
  simp only [settledList, handedEntry, wholeEntry, whole, Bool.false_eq_true, if_false]

/-- R128: the sample leaves the clock that stamps the weighing. -/
theorem ReadingTaken.wholeEntry {st : DeckState} (h : ReadingTaken s.undelivered u n st) (legal : Bool) :
    wholeEntry u n role weight legal = wholeEntry s n role weight legal := by
  simp only [Machine.wholeEntry, h.moved.now]
  rfl

/-- R19, R60: in ADMITTING or REWEIGHING a weighing has the role of its state, and it does not clear the record. -/
theorem role_of_entering (h : (v.state = .admitting ∧ role = .entry) ∨ (v.state = .reweighing ∧ role = .reweigh)) :
    roleOf v.state = some role ∧ role ≠ .exit := by
  rcases h with ⟨state, rfl⟩ | ⟨state, rfl⟩ <;> exact ⟨by rw [state]; rfl, by decide⟩

end

/-- Settles O40: the sample gives the deck its state, the reading settles the capture, and the entry is not an EXIT one,
so the lane goes straight to PASSING. -/
theorem stableReadingLetsTheVisitPass : Obligations.StableReadingLetsTheVisitPass := by
  unfold Obligations.StableReadingLetsTheVisitPass
  intro s n raw frame ticket slot p weight c v role h r _ state bound found lane entering room run purpose method phase
  obtain ⟨u, taken, step⟩ := exec_deckSample_reads h r
  have moved := taken.moved
  obtain ⟨gives, notExit⟩ := role_of_entering entering
  have serves : Serves u n c ticket slot v role := moved.serves ⟨purpose, found, lane, gives, room⟩
  have zero : (u.deck n).zeroFault = (s.deck n).zeroFault := taken.zero (by decide)
  have settled := State.settleGathered_complete serves notExit ((congrArg Lane.state (moved.lane n)).trans state)
    ((congrArg Lane.bound (moved.lane n)).trans bound) ⟨weight, none, !(s.deck n).zeroFault⟩
  rw [zero, State.tryOnIdle_before (u := u) (congrArg Lane.state (moved.lane n)).symm,
    State.captureReading_whole ((congrArg Engine.run (moved.engine n)).trans run) method phase,
    settled.tryOnIdle] at step
  generalize u.settleGathered n c false ⟨weight, none, !(s.deck n).zeroFault⟩ = t at settled step
  have vt := settled.vt
  have engine := settled.engine
  rw [settledList_whole method, taken.wholeEntry, taken.gatheredLegal, moved.vt] at vt
  rw [taken.gatheredLegal, method, moved.engine] at engine
  refine ⟨t, _, step, ?rest, ?legal, ?stable, ?passes, engine, settled.notice, moved.othersKept.trans settled.others⟩
  case rest =>
    have decks : t.decks = u.decks := by rw [settled.rest]
    rw [decks]
    conv_lhs => rw [settled.rest, moved.rest, vt]
    rfl
  case legal =>
    rw [gatheredLegal_whole_iff (s := s.undelivered) h.enabled, Bool.not_eq_true']
    rfl
  case stable =>
    have deck : t.deck n = u.deck n := by
      rw [settled.rest]
      rfl
    rw [deck, taken.state]
  case passes => exact LetsPass.congr (s := s.undelivered) rfl rfl (moved.letsPass (settled.passes rfl))

end Sys2Proof.Machine
end

section
/-! SLOT SET, UNIT ADDRESS and INJECT: what each answers, and what a new slot table makes of the units (R138, R148 to
R150, R155). -/

namespace Sys2Proof.Machine

namespace State

variable {s : State}

theorem loopTurning_iff : s.loopTurning = true ↔ s.loop.state = .running ∨ s.loop.state = .pausing := by
  rw [loopTurning, Bool.or_eq_true, decide_eq_true_eq, decide_eq_true_eq]

theorem not_loopTurning (h : s.loop.state = .stopped ∨ s.loop.state = .paused) : ¬ s.loopTurning = true := by
  rcases h with h | h <;> simp [loopTurning, h]

/-! ### Ownership (R155) -/

/-- R155: judging some units, each once, judges those by the table and leaves the others. -/
theorem unit_judgeEach (units : List (Fin 8)) (once : units.Nodup) (s : State) (u : Fin 8) :
    (units.foldl (fun s v => s.setUnit v ((s.unit v).judgeOwnership (s.loop.ownsSlot v))) s).unit u =
      if u ∈ units then (s.unit u).judgeOwnership (s.loop.ownsSlot u) else s.unit u := by
  induction units generalizing s with
  | nil => rfl
  | cons v units ih =>
    obtain ⟨new, once⟩ := List.nodup_cons.mp once
    rw [List.foldl_cons, ih once, setUnit_loop, unit_setUnit]
    by_cases here : v = u
    · subst here
      simp only [new, if_true, if_false, List.mem_cons_self]
    · simp only [here, Ne.symm here, if_false, List.mem_cons, false_or]

theorem judgeOwnership_unit (s : State) (u : Fin 8) :
    s.judgeOwnership.unit u = (s.unit u).judgeOwnership (s.loop.ownsSlot u) := by
  have every : u ∈ allUnits := by
    revert u
    decide
  refine Eq.trans ?_ ((unit_judgeEach allUnits (by decide) s u).trans (if_pos every))
  rw [judgeOwnership, unit, followLevels_units]
  rfl

theorem judgeOwnership_rest (s : State) : s.judgeOwnership = { s with
    units := s.judgeOwnership.units, notices := s.judgeOwnership.notices } := by
  unfold judgeOwnership
  generalize judged : forUnits (fun u t => t.setUnit u ((t.unit u).judgeOwnership (t.loop.ownsSlot u))) s = t
  have rest : t = { s with units := t.units } := by
    rw [← judged]
    exact forUnits_keeps (fun t => t = { s with units := t.units }) (fun u t ht => by rw [setUnit, ht]) rfl
  exact congrArg (fun u : State => { u with notices := t.followLevels.notices }) rest

/-! ### SLOT SET (R148) -/

theorem slotSet_unspelled {entries : List Byte} (h : ∃ b ∈ entries, slotEntry? b.toNat = none) (len : Nat) :
    s.slotSet len entries = s.refuse .badParameter := by
  obtain ⟨b, mem, bad⟩ := h
  have unspelled : entries.mapM (fun b => slotEntry? b.toNat) = none := by
    rw [Option.eq_none_iff_forall_ne_some]
    intro slots spelled
    obtain ⟨count, each⟩ := mapM_eq_some_iff.mp spelled
    obtain ⟨k, hk, rfl⟩ := List.getElem_of_mem mem
    have := each k _ (slots[k]'(count ▸ hk)) (List.getElem?_eq_getElem hk) (List.getElem?_eq_getElem _)
    rw [bad] at this
    cases this
  rw [slotSet, unspelled]

theorem slotSet_spelled {entries : List Byte} {slots : List SlotEntry}
    (h : entries.mapM (fun b => slotEntry? b.toNat) = some slots) (len : Nat) : s.slotSet len entries =
      if !slotsOk len slots then s.refuse .badParameter
      else if s.loopTurning then s.refuse .loopState
      else (s.takeSlots len slots).done := by
  rw [slotSet, h]

/-! ### UNIT ADDRESS (R149) -/

theorem addressTaken_iff {u : Fin 8} {a : Nat} :
    s.addressTaken u a = true ↔ ∃ v : Fin 8, v ≠ u ∧ s.loop.addresses.get v = a := by
  have every (v : Fin 8) : v ∈ allUnits := by
    revert v
    decide
  simp only [addressTaken, List.any_eq_true, every, true_and, Bool.and_eq_true, decide_eq_true_eq]

/-- R149: an address in its range. -/
theorem unitAddress_inRange {a : Nat} (low : 1 ≤ a) (high : a ≤ 30) (u : Fin 8) : s.unitAddress u a =
    if s.loopTurning then s.refuse .loopState
    else if s.addressTaken u a then s.refuse .inUse
    else { s with loop := { s.loop with addresses := s.loop.addresses.set u a } }.done :=
  if_neg (by omega)

end State

/-! ### The entries of a SLOT SET (R148, R195) -/

theorem spellsSlots_iff {entries : List Byte} {slots : List SlotEntry} :
    SpellsSlots entries slots ↔ entries.mapM (fun b => slotEntry? b.toNat) = some slots := by
  rw [mapM_eq_some_iff, SpellsSlots]
  simp only [slotEntry_iff]

theorem slotEntry_none {w : Nat} (low : 8 ≤ w % 16) (high : w % 16 ≤ 14) : slotEntry? w = none := by
  rw [slotEntry?, if_neg (by omega), unit?, dif_neg (by omega), Option.map_none]

/-! ### The three requests -/

theorem exec_slotSet {s : State} {len : Nat} {entries : List Byte} (h : Accepts s (.slotSet len entries)) :
    exec (.slotSet len entries) s = replyTo (.slotSet len entries) (s.slotSet len entries) :=
  request_replies (fun s => s.slotSet len entries) h

theorem exec_unitAddress {s : State} {k a : Nat} (h : Accepts s (.unitAddress k a)) :
    exec (.unitAddress k a) s = replyTo (.unitAddress k a) (onUnit k s (fun u s => s.unitAddress u a)) :=
  request_replies (fun s => onUnit k s (fun u s => s.unitAddress u a)) h

theorem exec_inject {s : State} {k : Nat} (h : Accepts s (.inject k)) :
    exec (.inject k) s = replyTo (.inject k) (onUnit k s (fun u s => (s.injectUnit u).done)) :=
  request_replies (fun s => onUnit k s (fun u s => (s.injectUnit u).done)) h

/-- Settles O45: each request by its reply; the units by the judgement of ownership, unit by unit. -/
theorem loopTablesBySlotSetAndAddress : Obligations.LoopTablesBySlotSetAndAddress := by
  unfold Obligations.LoopTablesBySlotSetAndAddress
  intro s
  refine ⟨fun len entries taken bad => ?unspelled, fun len entries slots taken spells => ?table,
    fun k a taken beyond => ?noUnit, fun u a taken => ?address, fun k taken => ?inject⟩
  case unspelled =>
    obtain ⟨b, mem, low, high⟩ := bad
    rw [exec_slotSet taken, State.slotSet_unspelled ⟨b, mem, slotEntry_none low high⟩, replyTo_refuse]
  case table =>
    have step := exec_slotSet taken
    rw [State.slotSet_spelled (spellsSlots_iff.mp spells)] at step
    have suits (h : SlotsSuitUnits len slots) : ¬ (!slotsOk len slots) = true := by
      rw [(slotsOk_iff len slots).mpr h]
      decide
    refine ⟨fun unsuited => ?_, fun suited turns => ?_, fun suited still => ⟨s.takeSlots len slots, ?_,
      State.judgeOwnership_rest _, LevelsFollow.follow _, fun u => ?_⟩⟩
    · rw [← slotsOk_iff, Bool.not_eq_true] at unsuited
      rw [step, unsuited, Bool.not_false, if_pos rfl, replyTo_refuse]
    · rw [step, if_neg (suits suited), if_pos (State.loopTurning_iff.mpr turns), replyTo_refuse]
    · rw [step, if_neg (suits suited), if_neg (State.not_loopTurning still), replyTo_done]
    · intro noCode
      refine (State.judgeOwnership_unit _ u).trans ?_
      show UnitRec.judgeOwnership (s.unit u) ((s.takeSlots len slots).loop.ownsSlot u) = _
      cases (s.takeSlots len slots).loop.ownsSlot u
      case false => rfl
      case true => rfl
  case noUnit =>
    rw [exec_unitAddress taken, onUnit_not beyond, replyTo_refuse]
  case address =>
    have step := exec_unitAddress taken
    rw [onUnit_fin] at step
    refine ⟨fun out => ?_, fun low high turns => ?_, fun low high still => ⟨fun used => ?_, fun unused => ?_⟩⟩
    · rw [step, State.unitAddress, if_pos out, replyTo_refuse]
    · rw [step, State.unitAddress_inRange low high, if_pos (State.loopTurning_iff.mpr turns), replyTo_refuse]
    · rw [step, State.unitAddress_inRange low high, if_neg (State.not_loopTurning still),
        if_pos (State.addressTaken_iff.mpr used), replyTo_refuse]
    · have free : ¬ s.addressTaken u a = true := fun h => by
        obtain ⟨v, other, same⟩ := State.addressTaken_iff.mp h
        exact unused v other same
      rw [step, State.unitAddress_inRange low high, if_neg (State.not_loopTurning still), if_neg free, replyTo_done]
  case inject =>
    refine ⟨fun beyond => ?_, fun u hk => ?_⟩
    · rw [exec_inject taken, onUnit_not beyond, replyTo_refuse]
    · subst hk
      rw [exec_inject taken, onUnit_fin, replyTo_done, State.injectUnit]

end Sys2Proof.Machine
end

section
/-! The judgement of what an IN slot heard (R135 to R137, R142): a message whole, cut short or with its check byte
inverted, and the deliveries of each kind. -/

namespace Sys2Proof.Machine

/-! ### The bytes of a message (R136) -/

section

variable {address kind : Nat} {payload : List Byte}

theorem payloadLength_of {len : Nat} (h : [1, 5, 0, 2, 6, 1, 4][kind]? = some len) :
    kind < 8 ∧ payloadLength kind = some len := by
  have lt : kind < 7 := (List.getElem?_eq_some_iff.mp h).1
  refine ⟨by omega, ?_⟩
  interval_cases kind <;> cases h <;> rfl

theorem header_toNat (ha : address ≤ 31) (hk : kind < 8) : (header address kind).toNat = 8 * address + kind := by
  rw [header, BitVec.toNat_ofNat]
  omega

theorem header_kind (ha : address ≤ 31) (hk : kind < 8) : (header address kind).toNat % 8 = kind := by
  rw [header_toNat ha hk]
  omega

theorem header_address (ha : address ≤ 31) (hk : kind < 8) : (header address kind).toNat / 8 = address := by
  rw [header_toNat ha hk]
  omega

/-- R136: the check byte makes the sum 0; inverted, it makes the sum odd. -/
theorem byteSum_check (head : Byte) (payload : List Byte) (inverted : Bool) :
    byteSum (head :: (payload ++ [if inverted then ~~~(-(byteSum (head :: payload)))
      else -(byteSum (head :: payload))])) = 0 ↔ inverted = false := by
  have odd (x : Byte) : x + ~~~(-x) ≠ 0 := by
    rw [BitVec.not_neg]
    bv_omega
  rw [byteSum_cons, byteSum_cons, List.sum_append, List.sum_singleton, ← BitVec.add_assoc]
  generalize head + payload.sum = x
  cases inverted
  case false => simp
  case true => simpa using odd x

/-! ### The first message heard (R142, orders 2 and 3) -/

theorem wholeMessage_start {first : Byte} (h : first ≠ 0xC6) (more : List Byte) :
    wholeMessage (first :: more) = none := by
  cases more
  case nil => rfl
  case cons => exact if_pos h

theorem wholeMessage_noKind {head : Byte} (h : head.toNat % 8 = 7) (more : List Byte) :
    wholeMessage (0xC6 :: head :: more) = none := by
  simp only [wholeMessage, h]
  rfl

/-- R142: after the start byte and the header of a kind, its payload and its check byte decide. -/
theorem wholeMessage_body (ha : address ≤ 31) {len : Nat} (hk : [1, 5, 0, 2, 6, 1, 4][kind]? = some len)
    (rest : List Byte) : wholeMessage (0xC6 :: header address kind :: rest) =
      if (rest.take (len + 1)).length = len + 1 ∧ byteSum (header address kind :: rest.take (len + 1)) = 0
      then some (header address kind, (rest.take (len + 1)).take len) else none := by
  obtain ⟨lt, length⟩ := payloadLength_of hk
  simp only [wholeMessage, header_kind ha lt, length]
  rfl

theorem message_cons (address kind : Nat) (payload : List Byte) (inverted : Bool) :
    message address kind payload inverted = 0xC6 :: header address kind :: (payload ++
      [if inverted then ~~~(-(byteSum (header address kind :: payload)))
        else -(byteSum (header address kind :: payload))]) := rfl

/-- R142: a message is whole where its check byte stands, whatever follows it. -/
theorem wholeMessage_message (ha : address ≤ 31) (hk : [1, 5, 0, 2, 6, 1, 4][kind]? = some payload.length)
    (inverted : Bool) (more : List Byte) : wholeMessage (message address kind payload inverted ++ more) =
      if inverted = false then some (header address kind, payload) else none := by
  rw [message_cons, List.cons_append, List.cons_append, wholeMessage_body ha hk]
  have body (check : Byte) : ((payload ++ [check]) ++ more).take (payload.length + 1) = payload ++ [check] :=
    List.take_left' (by rw [List.length_append, List.length_singleton])
  simp only [body, byteSum_check, List.length_append, List.length_singleton, true_and, List.take_left]

/-- R142: a message that breaks off before its check byte is none. -/
theorem wholeMessage_cut (ha : address ≤ 31) (hk : [1, 5, 0, 2, 6, 1, 4][kind]? = some payload.length)
    (inverted : Bool) {j : Nat} (short : j < payload.length + 3) :
    wholeMessage ((message address kind payload inverted).take j) = none := by
  rw [message_cons]
  match j with
  | 0 => rfl
  | 1 => rfl
  | j + 2 =>
    rw [List.take_succ_cons, List.take_succ_cons, wholeMessage_body ha hk, if_neg]
    rintro ⟨length, -⟩
    rw [List.length_take, List.length_take] at length
    omega

end

/-! ### The deliveries (R137, R143) -/

theorem laneUnit_of {u : Fin 8} (h : u.val < 4) : ∃ n, u = laneUnit n := ⟨⟨u.val, h⟩, rfl⟩

/-- R137: a kind that a unit of its sort does not send. -/
theorem deliveryOf_foreign {u : Fin 8} {kind : Nat} (alarm : kind ≠ 5) (lane : u.val < 4 → kind ≠ 3 ∧ kind ≠ 4)
    (deck : 4 ≤ u.val → kind ≠ 6) (p : List Byte) : deliveryOf u kind p = none := by
  unfold deliveryOf
  obtain ⟨n, rfl | rfl⟩ := unit_cases u
  · obtain ⟨status, tag⟩ := lane n.isLt
    rw [served_laneUnit]
    split <;> simp_all
  · have sample := deck (Nat.le_add_left 4 n.val)
    rw [served_digitizer]
    split <;> simp_all

theorem deliveryOf_laneStatus (n : Fin 4) (p : List Byte) :
    deliveryOf (laneUnit n) 3 p = (laneReport? p).map (fun r => Instr.laneStatusMessage n r) := by
  simp only [deliveryOf, served_laneUnit]

theorem deliveryOf_tagRead (n : Fin 4) {p : List Byte} (h : p.length = 6) :
    deliveryOf (laneUnit n) 4 p = some (.tagRead n (BitVec.ofNat 48 (ofLeBytes p))) := by
  simp only [deliveryOf, served_laneUnit, h, if_true]

theorem deliveryOf_unitAlarm (u : Fin 8) (b : Byte) :
    deliveryOf u 5 [b] = (AlarmCode.ofCode? b.toNat).map (fun c => Instr.unitAlarm u c) := by
  unfold deliveryOf
  cases served u
  case lane => rfl
  case deck => rfl

theorem deliveryOf_deckSample (n : Fin 4) (x y z flags : Byte) : deliveryOf (digitizer n) 6 [x, y, z, flags] =
    some (.deckSample n (BitVec.ofNat 24 (x.toNat + 256 * (y.toNat + 256 * z.toNat))) (flags.getLsbD 0)) := by
  simp only [deliveryOf, served_digitizer]
  rfl

theorem maintCode_of {k : Nat} {code : MaintCode} (h : [MaintCode.none, .activate, .deactivate][k]? = some code) :
    MaintCode.ofCode? k = some code := by
  have : k < 3 := (List.getElem?_eq_some_iff.mp h).1
  interval_cases k <;> cases h <;> rfl

theorem alarmCode_of {k : Nat} {code : AlarmCode} (low : 1 ≤ k)
    (h : [AlarmCode.barrierMotor, .armOff, .supply, .digitizer][k - 1]? = some code) :
    AlarmCode.ofCode? k = some code := by
  have : k - 1 < 4 := (List.getElem?_eq_some_iff.mp h).1
  obtain ⟨k, rfl⟩ := Nat.exists_eq_add_of_le' low
  have : k < 4 := by omega
  interval_cases k <;> cases h <;> rfl

theorem alarmCode_none {k : Nat} (h : k = 0 ∨ 4 < k) : AlarmCode.ofCode? k = none := by
  unfold AlarmCode.ofCode?
  split
  case h_5 => rfl
  all_goals omega

/-- R136: a number that its bytes hold is read back from them. -/
theorem ofLeBytes_leBytes (k number : Nat) (h : number < 256 ^ k) : ofLeBytes (leBytes k number) = number := by
  induction k generalizing number with
  | zero =>
    rw [pow_zero] at h
    rw [leBytes, ofLeBytes, List.foldr_nil]
    omega
  | succ k ih =>
    rw [Nat.pow_succ] at h
    have rest : ofLeBytes (leBytes k (number / 256)) = number / 256 := ih _ (by omega)
    rw [ofLeBytes] at rest
    rw [leBytes, ofLeBytes, List.foldr_cons, rest, BitVec.toNat_ofNat]
    omega

/-! ### The statuses in their order (R142) -/

theorem judgeHeard_check {bs : List Byte} (h : wholeMessage bs = none) (u : Fin 8) (own : Nat) (framed : Bool) :
    judgeHeard u own (.bytes bs framed) = (.check, none) := by
  simp only [judgeHeard, h]

theorem judgeHeard_foreign {bs p : List Byte} {head : Byte} (h : wholeMessage bs = some (head, p)) (u : Fin 8)
    {own : Nat} (other : head.toNat / 8 ≠ own) (framed : Bool) :
    judgeHeard u own (.bytes bs framed) = (.address, none) := by
  simp only [judgeHeard, h]
  exact if_pos other

theorem judgeHeard_own {bs p : List Byte} {head : Byte} (h : wholeMessage bs = some (head, p)) (u : Fin 8) {own : Nat}
    (same : head.toNat / 8 = own) (framed : Bool) : judgeHeard u own (.bytes bs framed) =
      (if (deliveryOf u (head.toNat % 8) p).isSome then .ok else .kind, deliveryOf u (head.toNat % 8) p) := by
  simp only [judgeHeard, h, same, ne_eq, not_true_eq_false, if_false]
  cases deliveryOf u (head.toNat % 8) p
  case none => rfl
  case some => rfl

end Sys2Proof.Machine
end

section
/-! MARKER, LANE_COMMAND, POLL, LOOP_PAUSED and the end of an IN slot: when each takes place, and what it leaves (R139
to R143, R147). -/

namespace Sys2Proof.Machine

variable {s : State} {k q : Nat} {u : Fin 8}

namespace State

/-! ### Slots in which the part drives the line (R139 to R141) -/

theorem slotTurns_iff : s.slotTurns k = true ↔
    s.loop.state = .running ∨ (s.loop.state = .pausing ∧ s.loop.begun = some k) := by
  simp only [slotTurns, Bool.or_eq_true, Bool.and_eq_true, decide_eq_true_eq]

/-- R140: the next owned slot begins, between slots. -/
structure Begins (s : State) (k : Nat) (u : Fin 8) (d : Direction) : Prop where
  clear  : s.loopClear = true
  turns  : s.loop.state = .running ∨ (s.loop.state = .pausing ∧ s.loop.begun = some k)
  closed : s.loop.markerOpen = false
  quiet  : s.loop.polled = none
  next   : s.loop.nextOwned (s.loop.position.getD 0) = some k
  owner  : s.loop.owner k = some (u, d)

theorem Begins.slotBegins {d : Direction} (h : s.Begins k u d) : s.slotBegins k = true := by
  simp [State.slotBegins, slotNow, h.clear, slotTurns_iff.mpr h.turns, h.closed, h.quiet, h.next]

theorem Begins.slotUnit {d : Direction} (h : s.Begins k u d) : s.slotUnit k = u := by
  simp only [State.slotUnit, h.owner]

theorem Begins.commandBegins (h : s.Begins k u .out) (lane : u.val < 4) : s.commandBegins k = true := by
  simp only [State.commandBegins, h.slotBegins, h.owner, lane, decide_true, Bool.and_self]

theorem Begins.pollBegins (h : s.Begins k u .inward) (deck : 4 ≤ u.val) : s.pollBegins k = true := by
  simp only [State.pollBegins, h.slotBegins, h.owner, deck, decide_true, Bool.and_self]

theorem markerDue_opened (clear : s.loopClear = true) (opened : s.loop.markerOpen = true)
    (turns : s.loop.state = .running ∨ s.loop.state = .pausing) : s.markerDue = true := by
  rcases turns with turns | turns <;> simp [markerDue, clear, opened, turns]

theorem markerSlot_opened (opened : s.loop.markerOpen = true) (readBack : List BitSamples) :
    s.markerSlot readBack = s.sendMarker readBack := if_pos opened

/-! ### The end of a pause (R147) -/

theorem pauseDue_ended (clear : s.loopClear = true) (pausing : s.loop.state = .pausing)
    (closed : s.loop.markerOpen = false) (quiet : s.loop.polled = none) (ended : s.loop.slotDone = true)
    (here : s.loop.position = some q) : s.pauseDue q = true := by
  simp [pauseDue, slotNow, clear, pausing, closed, quiet, ended, here]

/-- R147, R152: where the slot in progress is one that no step names, the slots in which the pause may fall (logs 16,
40). -/
theorem pauseDue_inSlot (clear : s.loopClear = true) (pausing : s.loop.state = .pausing)
    (closed : s.loop.markerOpen = false) (quiet : s.loop.polled = none) (inSlot : s.loop.slotDone = false) :
    s.pauseDue q = true ↔ s.loop.begun ≠ some 0 ∧ q ≤ s.loop.frameLength ∧ s.firstInProgress ≤ q ∧
      (∀ k, s.loop.nextOwned s.slotNow = some k → q < k) ∧ (s.loop.pauseShown = true → q = s.loop.shown) := by
  have shown : (!s.loop.pauseShown || decide (q = s.loop.shown)) = true ↔
      (s.loop.pauseShown = true → q = s.loop.shown) := by
    cases s.loop.pauseShown <;> simp
  simp only [pauseDue, clear, pausing, closed, quiet, inSlot, Bool.false_eq_true, if_false, Bool.and_eq_true, shown,
    decide_eq_true_eq]
  cases s.loop.nextOwned s.slotNow
  case none => simp [and_assoc, and_left_comm]
  case some => simp [and_assoc, and_left_comm, and_comm]

end State

/-! ### The end of an IN slot (R142) -/

theorem State.pollEnds_of (clear : s.loopClear = true) (turns : s.loop.state = .running ∨ s.loop.state = .pausing)
    (here : s.loop.position = some k) {sent : Bool} (polled : s.loop.polled = some sent) : s.pollEnds k = true := by
  rcases turns with turns | turns <;> simp [pollEnds, clear, here, polled, turns]

theorem exec_inSlotEnd_unverified (up : s.rstLow = false) (clear : s.loopClear = true)
    (turns : s.loop.state = .running ∨ s.loop.state = .pausing) (here : s.loop.position = some k)
    (polled : s.loop.polled = some false) (heard : Heard) :
    exec (.inSlotEnd k heard) s = .next (slotEnded s k .txVerify none) := by
  have ends : (s.pollEnds k || s.listenEnds k) = true := by
    rw [State.pollEnds_of clear turns here polled, Bool.true_or]
  have judged : s.inSlotStatus k heard = (.txVerify, none) := if_pos polled
  refine show execInSlotEnd k heard s = _ from (when_holds _ up ends).trans ?_
  rw [State.endInSlot_eq, judged]

namespace Listens

variable {address kind : Nat} {payload bs : List Byte}

theorem heeds_check (h : Listens s k u) (broken : ∀ more, wholeMessage (bs ++ more) = none) :
    Heeds s k bs .check none := fun more framed => by
  rw [h.inSlotEnd, judgeHeard_check (broken more)]

theorem heeds_inverted (h : Listens s k u) (ha : address ≤ 31)
    (hk : [1, 5, 0, 2, 6, 1, 4][kind]? = some payload.length) :
    Heeds s k (message address kind payload true) .check none :=
  h.heeds_check fun more => (wholeMessage_message ha hk true more).trans (if_neg (by decide))

theorem heeds_address (h : Listens s k u) (ha : address ≤ 31)
    (hk : [1, 5, 0, 2, 6, 1, 4][kind]? = some payload.length) (other : address ≠ s.loop.addresses.get u) :
    Heeds s k (message address kind payload false) .address none := fun more framed => by
  have whole := (wholeMessage_message ha hk false more).trans (if_pos rfl)
  rw [h.inSlotEnd, judgeHeard_foreign whole u (by rwa [header_address ha (payloadLength_of hk).1])]

/-- R142, R143: a message of the unit's own address is OK where its kind and fields make a delivery, and KIND
otherwise. -/
theorem heeds_own (h : Listens s k u) (ha : address ≤ 31)
    (hk : [1, 5, 0, 2, 6, 1, 4][kind]? = some payload.length) (own : address = s.loop.addresses.get u)
    {d : Option Instr} (delivers : deliveryOf u kind payload = d) :
    Heeds s k (message address kind payload false) (if d.isSome then .ok else .kind) d := fun more framed => by
  obtain ⟨lt, -⟩ := payloadLength_of hk
  have whole := (wholeMessage_message ha hk false more).trans (if_pos rfl)
  rw [h.inSlotEnd, judgeHeard_own whole u ((header_address ha lt).trans own), header_kind ha lt, delivers]

theorem heeds_kind (h : Listens s k u) (ha : address ≤ 31)
    (hk : [1, 5, 0, 2, 6, 1, 4][kind]? = some payload.length) (own : address = s.loop.addresses.get u)
    (undelivered : deliveryOf u kind payload = none) : Heeds s k (message address kind payload false) .kind none :=
  h.heeds_own ha hk own undelivered

theorem heeds_ok (h : Listens s k u) (ha : address ≤ 31)
    (hk : [1, 5, 0, 2, 6, 1, 4][kind]? = some payload.length) (own : address = s.loop.addresses.get u) {c : Instr}
    (delivers : deliveryOf u kind payload = some c) :
    Heeds s k (message address kind payload false) .ok (some c) := h.heeds_own ha hk own delivers

end Listens

/-- Settles O47: each driven slot by the step that begins it, the pause by the slots in which it may fall, and the IN
slots by the judgement of what was heard. -/
theorem slotsAreDrivenAndJudged : Obligations.SlotsAreDrivenAndJudged := by
  unfold Obligations.SlotsAreDrivenAndJudged
  refine ⟨fun s up clear => ?driven, fun s k u h => ?heard⟩
  case' driven =>
    intro turns
    refine ⟨fun readBack opened moving => ?marker, fun readBack k n turns closed quiet next owner => ?command,
      fun readBack k n turns closed quiet next owner => ?poll, fun q pausing closed quiet ended here => ?ended,
      fun q pausing closed quiet inSlot => ?inSlot, fun heard k n moving _ here polled =>
        exec_inSlotEnd_unverified up clear moving here polled heard⟩
  case marker =>
    refine show execMarker readBack s = _ from (when_holds _ up (State.markerDue_opened clear opened moving)).trans ?_
    rw [State.markerSlot_opened opened]
    rfl
  case command =>
    have begins : s.Begins k (laneUnit n) .out := ⟨clear, turns, closed, quiet, next, owner⟩
    refine show execLaneCommand k readBack s = _ from (when_holds _ up (begins.commandBegins n.isLt)).trans ?_
    rw [State.sendCommand, begins.slotUnit]
    rfl
  case poll =>
    have begins : s.Begins k (digitizer n) .inward := ⟨clear, turns, closed, quiet, next, owner⟩
    refine show execPoll k readBack s = _ from
      (when_holds _ up (begins.pollBegins (Nat.le_add_left 4 n.val))).trans ?_
    rw [State.sendPoll, begins.slotUnit]
    rfl
  case ended =>
    refine show execLoopPaused q s = _ from
      (when_holds _ up (State.pauseDue_ended clear pausing closed quiet ended here)).trans ?_
    rw [State.enterPaused, ← here]
  case inSlot =>
    have falls := State.pauseDue_inSlot (q := q) clear pausing closed quiet inSlot
    intro mayFall
    refine ⟨fun may => ?_, fun may => ?_⟩
    · exact show execLoopPaused q s = _ from when_holds _ up (falls.mpr may)
    · exact show execLoopPaused q s = _ from when_fails _ (Bool.eq_false_iff.mpr (mt falls.mp may))
  case heard =>
    intro own
    refine ⟨h.inSlotEnd .nothing, fun first bad => h.heeds_check (wholeMessage_start bad),
      fun head bad => h.heeds_check (wholeMessage_noKind bad), fun a kind payload ha hk =>
      ⟨fun j framed low short => ?cut, h.heeds_inverted ha hk, h.heeds_address ha hk, fun same =>
        ⟨?foreign, ?code, ?alarmCode, ?laneStatus, ?tagRead, ?unitAlarm, ?deckSample⟩⟩⟩
    case cut => rw [h.inSlotEnd, judgeHeard_check (wholeMessage_cut ha hk false short)]
    case foreign =>
      rintro ⟨alarm, lane, deck⟩
      exact h.heeds_kind ha hk same (deliveryOf_foreign alarm lane deck payload)
    case code =>
      rintro x y rfl rfl lane code
      obtain ⟨n, rfl⟩ := laneUnit_of lane
      refine h.heeds_kind ha hk same ?_
      rw [deliveryOf_laneStatus, laneReport?, code]
      rfl
    case alarmCode =>
      rintro x rfl rfl out
      refine h.heeds_kind ha hk same ?_
      rw [deliveryOf_unitAlarm, alarmCode_none (out.imp_left (congrArg BitVec.toNat)), Option.map_none]
    case laneStatus =>
      rintro n x y code rfl rfl rfl coded
      refine h.heeds_ok ha hk same ?_
      rw [deliveryOf_laneStatus, laneReport?, maintCode_of coded]
      rfl
    case tagRead =>
      rintro n tag rfl rfl spelled
      have fits : tag.toNat < 256 ^ 6 := tag.isLt
      refine h.heeds_ok ha hk same ?_
      rw [deliveryOf_tagRead n (by rw [spelled]; rfl), spelled, ← leBytes_eq, ofLeBytes_leBytes 6 _ fits,
        BitVec.ofNat_toNat, BitVec.setWidth_eq]
    case unitAlarm =>
      rintro x code rfl rfl low coded
      refine h.heeds_ok ha hk same ?_
      rw [deliveryOf_unitAlarm, alarmCode_of low coded, Option.map_some]
    case deckSample =>
      rintro n x y z flags rfl rfl rfl
      exact h.heeds_ok ha hk same (deliveryOf_deckSample n x y z flags)

end Sys2Proof.Machine
end

section
/-! COUNTER MODE, COUNTER REPORT, AUTO SWITCH and the tick of the report interval (R162, R163, R166). -/

namespace Sys2Proof.Machine

namespace State

variable {s : State}

/-! ### AUTO SWITCH (R166) -/

theorem autoSwitch_refused {u : Fin 8} {on : Nat} (h : 4 ≤ u.val ∨ 1 < on) :
    s.autoSwitch u on = s.refuse .badParameter := by
  rw [autoSwitch]
  by_cases flag : on ≤ 1
  · rw [flag?_of_le flag]
    exact if_neg (by omega)
  · rw [flag?_of_gt (Nat.lt_of_not_le flag)]

theorem autoSwitch_set {u : Fin 8} {on : Nat} (lane : u.val < 4) (flag : on ≤ 1) :
    s.autoSwitch u on = (s.setUnit u { s.unit u with autoSwitch := decide (on = 1) }).done := by
  rw [autoSwitch, flag?_of_le flag]
  exact if_pos lane

/-! ### The tick of the report interval (R163) -/

theorem tickUnit_manual {u : Fin 8} (h : (s.unit u).report = .manual) : tickUnit u s = s :=
  if_neg (by rw [h]; decide)

theorem tickUnit_interval {u : Fin 8} (h : (s.unit u).report = .interval) :
    tickUnit u s = (s.setUnit u (s.unit u).copyCounter).latch .counterReport u.val := if_pos h

theorem tickUnit_rest (u : Fin 8) (s : State) :
    tickUnit u s = { s with units := (tickUnit u s).units, notices := (tickUnit u s).notices } := by
  unfold tickUnit
  split <;> rfl

theorem tickUnit_other {v u : Fin 8} (other : v ≠ u) (s : State) : (tickUnit v s).unit u = s.unit u := by
  unfold tickUnit
  split
  · rw [unit_latch, unit_setUnit, if_neg other]
  · rfl

theorem tickUnit_latched {src : Source} {bit : Nat} (v : Fin 8) (h : s.notices.isLatched src bit = true) :
    (tickUnit v s).notices.isLatched src bit = true := by
  unfold tickUnit
  split
  · exact latched_latch_of h
  · exact h

/-- R163: all units tick in turn, so unit `u` takes its own tick once, between ticks of other units. -/
theorem forUnits_at (f : Fin 8 → State → State) (u : Fin 8) (s : State) : ∃ before after : List (Fin 8),
    u ∉ before ∧ u ∉ after ∧
      forUnits f s = after.foldl (fun s v => f v s) (f u (before.foldl (fun s v => f v s) s)) := by
  have every : u ∈ allUnits := by
    revert u
    decide
  have once : allUnits.Nodup := by decide
  obtain ⟨before, after, parts⟩ := List.append_of_mem every
  rw [parts, List.nodup_middle, List.nodup_cons, List.mem_append, not_or] at once
  obtain ⟨⟨early, late⟩, -⟩ := once
  exact ⟨before, after, early, late, by rw [forUnits, parts, List.foldl_append, List.foldl_cons]⟩

theorem unit_tickOthers {units : List (Fin 8)} {u : Fin 8} (others : u ∉ units) (s : State) :
    (units.foldl (fun s v => tickUnit v s) s).unit u = s.unit u := by
  induction units generalizing s with
  | nil => rfl
  | cons v units ih =>
    obtain ⟨here, others⟩ := List.ne_and_not_mem_of_not_mem_cons others
    rw [List.foldl_cons, ih others, tickUnit_other here.symm]

theorem tickUnits_rest (s : State) : forUnits tickUnit s = { s with
    units := (forUnits tickUnit s).units, notices := (forUnits tickUnit s).notices } :=
  forUnits_keeps (fun t => t = { s with units := t.units, notices := t.notices })
    (fun u t ht => (tickUnit_rest u t).trans (by rw [ht])) rfl

theorem tickUnits_manual {u : Fin 8} (h : (s.unit u).report = .manual) :
    (forUnits tickUnit s).unit u = s.unit u := by
  obtain ⟨before, after, early, late, ticks⟩ := forUnits_at tickUnit u s
  have kept := unit_tickOthers early s
  rw [ticks, unit_tickOthers late, tickUnit_manual (by rw [kept, h]), kept]

/-- R163: the tick does for a unit in INTERVAL mode what COUNTER REPORT does, and latches its notice. -/
theorem tickUnits_interval {u : Fin 8} (h : (s.unit u).report = .interval) :
    (forUnits tickUnit s).notices.isLatched .counterReport u.val = true ∧
      (forUnits tickUnit s).unit u = (s.unit u).copyCounter := by
  obtain ⟨before, after, early, late, ticks⟩ := forUnits_at tickUnit u s
  have kept := unit_tickOthers early s
  rw [ticks]
  constructor
  · refine foldl_keeps (fun t => t.notices.isLatched .counterReport u.val = true)
      (fun v t ht => tickUnit_latched v ht) after _ ?_
    rw [tickUnit_interval (by rw [kept, h])]
    exact Notices.isLatched_latch _ _ _ (by omega)
  · rw [unit_tickOthers late, tickUnit_interval (by rw [kept, h]), unit_latch, unit_setUnit_self, kept]

end State

/-! ### The named values of COUNTER MODE (R195) -/

theorem countSelection_of {k : Nat} {sel : CountSelection} (h : [CountSelection.rx, .tx, .both][k]? = some sel) :
    CountSelection.ofCode? k = some sel := by
  have : k < 3 := (List.getElem?_eq_some_iff.mp h).1
  interval_cases k <;> cases h <;> rfl

theorem reportMode_of {k : Nat} {rep : ReportMode} (h : [ReportMode.manual, .interval][k]? = some rep) :
    ReportMode.ofCode? k = some rep := by
  have : k < 2 := (List.getElem?_eq_some_iff.mp h).1
  interval_cases k <;> cases h <;> rfl

/-! ### The three requests and the tick -/

section

variable {s : State} {u : Fin 8}

theorem exec_counterMode {code rcode : Nat} {sel : CountSelection} {rep : ReportMode}
    (h : Accepts s (.counterMode u.val code rcode)) (hsel : CountSelection.ofCode? code = some sel)
    (hrep : ReportMode.ofCode? rcode = some rep) : exec (.counterMode u.val code rcode) s =
      replyTo (.counterMode u.val code rcode) (s.setUnit u ((s.unit u).setCounter sel rep)).done := by
  refine show execCounterMode u.val code rcode s = _ from (request_replies _ h).trans ?_
  rw [onUnit_fin, hsel, hrep]

theorem exec_counterReport (h : Accepts s (.counterReport u.val)) :
    exec (.counterReport u.val) s = replyTo (.counterReport u.val) (s.counterReport u) := by
  refine show execCounterReport u.val s = _ from (request_replies _ h).trans ?_
  rw [onUnit_fin]

theorem exec_autoSwitch {on : Nat} (h : Accepts s (.autoSwitch u.val on)) :
    exec (.autoSwitch u.val on) s = replyTo (.autoSwitch u.val on) (s.autoSwitch u on) := by
  refine show execAutoSwitch u.val on s = _ from (request_replies _ h).trans ?_
  rw [onUnit_fin]

theorem exec_reportIntervalTick (up : s.rstLow = false) :
    exec .reportIntervalTick s = .next (forUnits State.tickUnit s) :=
  show execReportIntervalTick s = _ from whileUp_high _ up

end

/-- Settles O49: each request by its reply; the tick by the unit's own turn among the eight, which the turns of the
others neither touch nor take the notice from. -/
theorem unitCountersAndSwitches : Obligations.UnitCountersAndSwitches := by
  unfold Obligations.UnitCountersAndSwitches
  intro s u
  refine ⟨fun code rcode sel rep taken hsel hrep => ?mode, fun taken => ?report, fun on taken => ?switch,
    fun up => ?tick⟩
  case mode =>
    rw [exec_counterMode taken (countSelection_of hsel) (reportMode_of hrep), replyTo_done, UnitRec.setCounter]
  case report =>
    rw [exec_counterReport taken, State.counterReport, replyTo, UnitRec.copyCounter]
  case switch =>
    refine ⟨fun bad => ?_, fun lane flag => ?_⟩
    · rw [exec_autoSwitch taken, State.autoSwitch_refused bad, replyTo_refuse]
    · rw [exec_autoSwitch taken, State.autoSwitch_set lane flag, replyTo_done]
  case tick =>
    exact ⟨forUnits State.tickUnit s, exec_reportIntervalTick up, State.tickUnits_rest s, State.tickUnits_manual,
      State.tickUnits_interval⟩

end Sys2Proof.Machine
end

section
/-! HOLD, and the releases of RELEASE HOLD that need no lane (R169 to R171, R174, R176). -/

namespace Sys2Proof.Machine

variable {s : State} {name : RecordName} {lane : Option Nat} {slot : Nat} {v : Visit} {prior next : VisitState}

/-! ### The hold claim of a record that no lane has (R169, R171) -/

namespace State

/-- R169: the hold of a record in no lane latches VISIT_HELD for the yard. -/
theorem holdClaim_yard (hv : s.visit slot = some v) (free : v.state ≠ .held) (away : v.lane = none) (r : HoldReason) :
    s.holdClaim slot r = { s with
      vt := { s.vt with
        records := s.vt.records.put slot { v with
          state := .held, prior := some v.state, reason := some r, later := [] }
        changes := withChange s.vt.changes slot }
      notices := (s.holdClaim slot r).notices } ∧
    (s.holdClaim slot r).notices.isLatched .visitHeld 4 = true := by
  have written : heldVisit v r = { v with state := .held, prior := some v.state, reason := some r, later := [] } := by
    rw [heldVisit, ← away]
  rw [holdClaim_eq hv free, setVisit_touch, written, heldBit, away]
  exact ⟨rfl, followLevels_isLatched _ (Notices.isLatched_latch _ _ _ (by decide))⟩

/-- R171: a hold of a held record adds its reason, unless the record has it. -/
theorem holdClaim_again (hv : s.visit slot = some v) (held : v.state = .held) (r : HoldReason) :
    s.holdClaim slot r = if v.reason = some r ∨ r ∈ v.later then s else { s with vt := { s.vt with
      records := s.vt.records.put slot { v with later := v.later ++ [r] }
      changes := withChange s.vt.changes slot } } := by
  simp only [holdClaim, hv, held, if_true, addLater_eq, setVisit_touch]

/-! ### HOLD (R170) -/

theorem holdVisit_takes (state : (v.state = .booked ∧ s.byTagInProgress v.tag = none) ∨ v.state = .inYard ∨
    v.state = .held) : s.holdVisit slot v = (s.holdClaim slot .host).done := by
  rcases state with ⟨booked, alone⟩ | inYard | held
  · simp [holdVisit, booked, alone]
  · simp only [holdVisit, inYard]
  · simp only [holdVisit, held]

theorem holdVisit_inYard (booked : v.state = .booked) (busy : (s.byTagInProgress v.tag).isSome) :
    s.holdVisit slot v = s.refuse .inYard := by
  simp only [holdVisit, booked, busy, if_true]

theorem holdVisit_refused (state : v.state = .admitting ∨ v.state = .reweighing ∨ v.state = .exiting ∨
    v.state = .cleared ∨ v.state = .done ∨ v.state = .void) : s.holdVisit slot v = s.refuse .wrongState := by
  rcases state with h | h | h | h | h | h <;> simp only [holdVisit, h]

end State

theorem exec_hold (h : Accepts s (.hold name)) (ok : RecordName.inRange name = true)
    (found : s.byName name = some (slot, v)) :
    exec (.hold name) s = replyTo (.hold name) (s.holdVisit slot v) := by
  refine show execHold name s = _ from (request_replies _ h).trans ?_
  rw [inRange_of ok, onRecord_of found]

/-! ### The releases that need no lane (R174, R176) -/

namespace State

/-- R174, R176: what a release that needs no lane leaves. -/
theorem restoreTo_eq (s : State) (slot : Nat) (v : Visit) (next : VisitState) : s.restoreTo slot v next = { s with
    vt := { s.vt with
      records := s.vt.records.put slot (unheld v next)
      changes := withChange s.vt.changes slot
      completion := if (unheld v next).finished = true then withChange s.vt.completion slot else s.vt.completion }
    lanes := (s.endTracking v.ticket).lanes, barriers := (s.endTracking v.ticket).barriers } := by
  have watched := s.endTracking_eq v.ticket
  unfold restoreTo
  simp only [setVisit_touch]
  split
  · rw [complete_eq]
    simp only
    rw [watched]
  · rw [watched]

theorem restoreTo_stops (s : State) (slot : Nat) (v : Visit) (next : VisitState) (n : Fin 4) :
    StopsWatching s (s.restoreTo slot v next) n v.ticket := by
  refine (s.endTracking_stops v.ticket n).congr ?_ ?_
  · rw [restoreTo_eq]
  · rw [restoreTo_eq]

/-- R174: a record that goes back to IN_YARD or BOOKED leaves the Completion List alone. -/
theorem restoreTo_live (live : next = .inYard ∨ next = .booked) : s.restoreTo slot v next = { s with
    vt := { s.vt with records := s.vt.records.put slot (unheld v next), changes := withChange s.vt.changes slot }
    lanes := (s.restoreTo slot v next).lanes, barriers := (s.restoreTo slot v next).barriers } := by
  have unfinished : ¬ (unheld v next).finished = true := by
    rw [Visit.finished_iff]
    rcases live with rfl | rfl <;> simp [unheld]
  rw [restoreTo_eq, if_neg unfinished]

/-- R174, R25: a record whose vehicle has left joins the Completion List. -/
theorem restoreTo_finished (gone : v.inYard = false) (ends : next = .done ∨ next = .void)
    (absent : slot ∉ s.vt.completion) : s.restoreTo slot v next = { s with
      vt := { s.vt with
        records := s.vt.records.put slot (unheld v next), changes := withChange s.vt.changes slot
        completion := s.vt.completion ++ [slot] }
      lanes := (s.restoreTo slot v next).lanes, barriers := (s.restoreTo slot v next).barriers } := by
  have finished : (unheld v next).finished = true :=
    (Visit.finished_iff _).mpr (ends.imp id fun isVoid => ⟨isVoid, gone⟩)
  have joins : withChange s.vt.completion slot = s.vt.completion ++ [slot] := if_neg absent
  rw [restoreTo_eq, if_pos finished, joins]

/-! ### RELEASE HOLD by the record's state and prior state (R174, R175) -/

variable (place : Option (Fin 4))

theorem releaseVisit_notHeld (free : v.state ≠ .held) : s.releaseVisit slot v place = s.refuse .wrongState := by
  cases hs : v.state
  case held => exact absurd hs free
  all_goals simp only [releaseVisit, hs]

theorem releaseVisit_exists (held : v.state = .held) (hp : v.prior = some .booked)
    (other : (s.byTagBooked v.tag).isSome) : s.releaseVisit slot v place = s.refuse .exists := by
  simp only [releaseVisit, held, hp, other, if_true]

theorem releaseVisit_back (held : v.state = .held) (back : (v.prior = some .inYard ∧ next = .inYard) ∨
    (v.prior = some .booked ∧ next = .booked ∧ s.byTagBooked v.tag = none)) :
    s.releaseVisit slot v place = (s.restoreTo slot v next).done := by
  rcases back with ⟨hp, rfl⟩ | ⟨hp, rfl, single⟩
  · simp only [releaseVisit, held, hp]
  · simp [releaseVisit, held, hp, single]

theorem releaseVisit_left (held : v.state = .held) (hp : v.prior = some .cleared) (gone : v.inYard = false) :
    s.releaseVisit slot v place = (s.restoreTo slot v (if v.voidMark then .void else .done)).done := by
  simp [releaseVisit, held, hp, gone]

theorem releaseVisit_rebinds (held : v.state = .held) (hp : v.prior = some prior)
    (bound : prior = .admitting ∨ prior = .reweighing ∨ prior = .exiting ∨ (prior = .cleared ∧ v.inYard = true)) :
    s.releaseVisit slot v place = s.rebind slot v prior place := by
  rcases bound with rfl | rfl | rfl | ⟨rfl, inside⟩
  case inr.inr.inr => simp only [releaseVisit, held, hp, inside, if_true]
  all_goals simp only [releaseVisit, held, hp]

end State

theorem exec_releaseHold (h : Accepts s (.releaseHold name lane)) (ok : RecordName.inRange name = true)
    (lanes : ∀ k, lane = some k → k < 4) (found : s.byName name = some (slot, v)) :
    exec (.releaseHold name lane) s =
      replyTo (.releaseHold name lane) (s.releaseVisit slot v (lane.bind lane?)) := by
  have inside : (RecordName.inRange name && lane.all (fun k => decide (k < 4))) = true := by
    rw [Bool.and_eq_true, Option.all_eq_true]
    exact ⟨ok, fun k hk => decide_eq_true (lanes k hk)⟩
  refine show execReleaseHold name lane s = _ from (request_replies _ h).trans ?_
  rw [State.releaseReply, inRange_of inside, onRecord_of found]

end Sys2Proof.Machine
end

section
/-! O11: HOLD, and RELEASE HOLD with and without a lane (R169 to R171, R174 to R176). -/

namespace Sys2Proof.Machine

variable {s t y : State} {n : Fin 4} {ticket slot : Nat} {v : Visit} {prior : VisitState}

/-! ### What a rebind judges (R175) -/

theorem State.modeFits_iff {mode : LaneMode} : State.modeFits prior mode = true ↔
    (prior = .admitting ∧ mode = .entry) ∨ (prior = .reweighing ∧ mode = .internal) ∨
      ((prior = .exiting ∨ prior = .cleared) ∧ mode = .exit) := by
  constructor
  · intro fits
    unfold modeFits at fits
    split at fits
    case h_5 => cases fits
    all_goals simp
  · rintro (⟨rfl, rfl⟩ | ⟨rfl, rfl⟩ | ⟨rfl | rfl, rfl⟩) <;> rfl

theorem State.holdsWeighing_iff {role : Role} {k : Nat} : State.holdsWeighing v role k = true ↔
    ∃ w ∈ v.weighings.drop k, w.role = role ∧ w.standing = .valid ∧ w.result = .complete := by
  simp [holdsWeighing, Weighing.counted]

theorem State.eligibleAtRebind_iff : State.eligibleAtRebind v prior = true ↔ prior = .cleared ∨
    (prior = .admitting ∧ ∃ w ∈ v.weighings, w.role = .entry ∧ w.standing = .valid ∧ w.result = .complete) ∨
    (prior = .reweighing ∧ ∃ w ∈ v.weighings.drop v.stopMark,
      w.role = .reweigh ∧ w.standing = .valid ∧ w.result = .complete) := by
  cases prior
  case admitting => simp [eligibleAtRebind, holdsWeighing_iff]
  case reweighing => simp [eligibleAtRebind, holdsWeighing_iff]
  all_goals simp [eligibleAtRebind]

namespace State

theorem rebind_noLane (s : State) (slot : Nat) (v : Visit) (prior : VisitState) :
    s.rebind slot v prior none = s.refuse .badParameter := rfl

theorem rebind_unfit (unfit : ¬ State.modeFits prior (s.lane n).mode = true) :
    s.rebind slot v prior (some n) = s.refuse .badParameter := by
  simp [rebind, unfit]

theorem rebind_left (fits : State.modeFits .exiting (s.lane n).mode = true) (gone : v.inYard = false) :
    s.rebind slot v .exiting (some n) = s.refuse .wrongState := by
  simp [rebind, fits, gone]

section

variable (fits : State.modeFits prior (s.lane n).mode = true) (inside : prior = .exiting → v.inYard = true)
include fits inside

/-- R53, R175: at a lane that fits, the lane's own two checks refuse. -/
theorem rebind_refused {st : Status} (refused : s.laneRefusal n = some st) :
    s.rebind slot v prior (some n) = s.refuse st := by
  simp +contextual [rebind, fits, inside, refused]

/-- R175: at a lane that fits and is free the record is bound, once every watch for it has ended. -/
theorem rebind_granted (free : s.laneRefusal n = none) : s.rebind slot v prior (some n) =
    ((s.endTracking v.ticket).bindRecord n slot (unheld v prior) prior (eligibleAtRebind v prior)).done := by
  simp +contextual [rebind, fits, inside, free]

end

end State

/-! ### A record bound again after the end of its watch (R175, R176) -/

theorem StopsWatching.of_same {m : Fin 4} {watched : Option Nat} (h : StopsWatching s y m watched)
    (lane : t.lane m = y.lane m) (barrier : t.barrier m = y.barrier m) : StopsWatching s t m watched := by
  unfold StopsWatching
  rw [lane, barrier]
  exact h

/-- R176: a lane that is IDLE watches for no record, and stands at the end of a watch. -/
theorem State.endTracking_idleLane (idle : (s.lane n).state = .idle) (watched : Option Nat) :
    (s.endTracking watched).lane n = s.lane n ∧ (s.endTracking watched).barrier n = s.barrier n :=
  (s.endTracking_stops watched n).2 fun ⟨_, releasing, _⟩ => by
    rw [idle] at releasing
    cases releasing

theorem BoundAt.barriers {st : VisitState} {eligible : Bool} (h : BoundAt y t n ticket slot v st eligible) :
    t.barriers = y.barriers := by
  rw [h.rest]

/-- R175, R176: what a rebind leaves. -/
structure ReboundAt (s t : State) (n : Fin 4) (ticket slot : Nat) (v : Visit) (prior : VisitState) (eligible : Bool) :
    Prop where
  whole   : t = { s with
    vt := { s.vt with
      records := s.vt.records.put slot { v with
        state := prior, prior := none, reason := none, later := [], lane := some n, bindMark := v.weighings.length }
      changes := withChange s.vt.changes slot }
    lanes := t.lanes, barriers := t.barriers, engines := t.engines, notices := t.notices }
  binds   : Binds s t n ticket v.tag eligible
  barrier : t.barrier n = s.barrier n
  others  : ∀ m : Fin 4, m ≠ n → StopsWatching s t m (some ticket) ∧ t.engine m = s.engine m

/-- R175: the rebind of a record to an IDLE lane, after every watch for it has ended. -/
theorem State.bindRecord_rebinds (idle : (s.lane n).state = .idle) (named : v.ticket = some ticket) (slot : Nat)
    (prior : VisitState) (eligible : Bool) :
    ReboundAt s ((s.endTracking v.ticket).bindRecord n slot (unheld v prior) prior eligible) n ticket slot v prior
      eligible := by
  have bound := bindRecord_binds (s := s.endTracking v.ticket) (v := unheld v prior) named n slot prior eligible
  obtain ⟨sameLane, sameBarrier⟩ := endTracking_idleLane idle v.ticket
  have stops := s.endTracking_stops v.ticket
  have ended := s.endTracking_eq v.ticket
  generalize s.endTracking v.ticket = y at bound sameLane sameBarrier stops ended
  generalize y.bindRecord n slot (unheld v prior) prior eligible = t at bound
  have engines (m : Fin 4) : y.engine m = s.engine m := by
    rw [ended]
    rfl
  have frames (x : Setting) : y.frames x = s.frames x := by
    rw [ended]
    rfl
  have barrierKept (m : Fin 4) : t.barrier m = y.barrier m := by rw [barrier, bound.barriers, barrier]
  refine ⟨?_, ⟨?_, ?_⟩, (barrierKept n).trans sameBarrier, fun m hm => ?_⟩
  · refine bound.whole.trans ?_
    rw [bound.barriers, ended]
    rfl
  · rw [bound.binds.lane, sameLane, frames, frames]
    rfl
  · rw [bound.binds.engine, engines]
  · obtain ⟨laneKept, -, -, engineKept⟩ := bound.others m hm
    rw [← named]
    exact ⟨(stops m).of_same laneKept (barrierKept m), engineKept.trans (engines m)⟩

/-- Settles O11: HOLD by the record's state; RELEASE HOLD by the prior state, and where that is a bound one by the lane,
its mode and its own two checks. -/
theorem holdsSuspendAndRelease : Obligations.HoldsSuspendAndRelease := by
  unfold Obligations.HoldsSuspendAndRelease
  refine ⟨?hold, ?release, ?rebind⟩
  case hold =>
    intro s name slot v acc tables ok found
    have hv := State.byName_visit tables.records found
    rw [exec_hold acc ok found]
    refine ⟨fun booked busy => ?_, fun state away => ?_, fun held first absent => ?_, fun held known => ?_,
      fun state => ?_⟩
    · rw [State.holdVisit_inYard booked busy, replyTo_refuse]
    · have free : v.state ≠ .held := by rcases state with ⟨h, -⟩ | h <;> simp [h]
      have taken := State.holdVisit_takes (slot := slot) (state.imp id Or.inl)
      obtain ⟨writes, latches⟩ := State.holdClaim_yard hv free away .host
      exact ⟨s.holdClaim slot .host, by rw [taken, replyTo_done], writes, latches⟩
    · rw [State.holdVisit_takes (.inr (.inr held)), State.holdClaim_again hv held, if_neg (not_or.mpr ⟨first, absent⟩),
        replyTo_done]
    · rw [State.holdVisit_takes (.inr (.inr held)), State.holdClaim_again hv held, if_pos known, replyTo_done]
    · rw [State.holdVisit_refused state, replyTo_refuse]
  case release =>
    intro s name lane slot v next c freed acc ok lanes found
    rw [exec_releaseHold acc ok lanes found]
    refine ⟨fun free => ?_, fun held hp other => ?_, fun held back => ?_, fun held hp gone hnext absent => ?_⟩
    · rw [State.releaseVisit_notHeld _ free, replyTo_refuse]
    · rw [State.releaseVisit_exists _ held hp other, replyTo_refuse]
    · have live : next = .inYard ∨ next = .booked := back.imp And.right fun ⟨_, booked, _⟩ => booked
      exact ⟨s.restoreTo slot v next, by rw [State.releaseVisit_back _ held back, replyTo_done],
        State.restoreTo_live live, s.restoreTo_stops slot v next⟩
    · have ends : next = .done ∨ next = .void := by
        rw [hnext]
        split
        · exact .inr rfl
        · exact .inl rfl
      exact ⟨s.restoreTo slot v next, by rw [State.releaseVisit_left _ held hp gone, ← hnext, replyTo_done],
        State.restoreTo_finished gone ends absent, s.restoreTo_stops slot v next⟩
  case rebind =>
    intro s ticket slot lane v prior c acc low high found held hp bound
    have ok : RecordName.inRange (.ticket ticket) = true := ticketOk_iff.mpr ⟨low, high⟩
    have named : v.ticket = some ticket := by simpa using List.find?_some found
    refine ⟨?_, ?_⟩
    · rintro rfl
      rw [exec_releaseHold acc ok nofun found, State.releaseVisit_rebinds _ held hp bound, Option.bind_none,
        State.rebind_noLane, replyTo_refuse]
    · rintro n rfl fits
      have reply : exec c s = replyTo c (s.rebind slot v prior (some n)) := by
        rw [exec_releaseHold acc ok (by rintro k ⟨⟩; exact n.isLt) found, State.releaseVisit_rebinds _ held hp bound,
          Option.bind_some, lane?, dif_pos n.isLt]
      rw [reply]
      refine ⟨fun unfit => ?_, fun fit exiting gone => ?_, fun fit inside => ?_⟩
      · rw [State.rebind_unfit (fun fit => unfit (State.modeFits_iff.mp fit)), replyTo_refuse]
      · subst exiting
        rw [State.rebind_left (State.modeFits_iff.mpr fit) gone, replyTo_refuse]
      · have fit := State.modeFits_iff.mpr fit
        refine ⟨fun busy => ?_, fun k idle running => ?_, fun idle free => ?_⟩
        · rw [State.rebind_refused fit inside (State.laneRefusal_busy busy), replyTo_refuse]
        · rw [State.rebind_refused fit inside (State.laneRefusal_soon idle running), replyTo_refuse]
        · obtain ⟨whole, binds, barrier, others⟩ :=
            State.bindRecord_rebinds idle named slot prior (State.eligibleAtRebind v prior)
          refine ⟨_, _, ?_, whole, binds, State.eligibleAtRebind_iff, barrier, others⟩
          rw [State.rebind_granted fit inside (State.laneRefusal_none idle free), replyTo_done]

end Sys2Proof.Machine
end

section
/-! O51: the settings store is written behind its lock, and read (R182, R183, R184). -/

namespace Sys2Proof.Machine

variable {s : State} {word value : Nat} {calEn : Bool}

namespace State

/-! ### SETTING WRITE by its refusals in their order (R182, R183) -/

theorem writeSetting_outOfRange (h : 2047 < word ∨ 65535 < value) :
    s.writeSetting word value = s.refuse .badParameter := if_pos h

theorem writeSetting_busy (hw : word ≤ 2047) (hv : value ≤ 65535) (busy : s.loader.writing.isSome = true) :
    s.writeSetting word value = s.refuse .storeBusy := by
  rw [writeSetting, if_neg (by omega), if_pos busy]

/-- R182: a word in the locked range is refused while CAL_EN is low. -/
theorem writeSetting_locked (hw : word ≤ 2047) (hv : value ≤ 65535) (idle : s.loader.writing = none)
    (locked : 1 ≤ word ∧ word ≤ s.loader.lockBoundary) (low : s.calEn = false) :
    s.writeSetting word value = s.refuse .certifiedLock := by
  have refused : (s.locked word && !s.calEn) = true := by simp [State.locked, locked, low]
  rw [writeSetting, if_neg (by omega), if_neg (by simp [idle]), if_pos refused]

/-- R182, R183: word 0, a word past the lock boundary, or CAL_EN high: the write begins. -/
theorem writeSetting_begins (hw : word ≤ 2047) (hv : value ≤ 65535) (idle : s.loader.writing = none)
    (unlocked : word = 0 ∨ s.loader.lockBoundary < word ∨ s.calEn = true) :
    s.writeSetting word value = (s.startWrite word value, .accepted, .empty) := by
  have open' : ¬ (s.locked word && !s.calEn) = true := by
    simp only [State.locked, Bool.and_eq_true, decide_eq_true_eq, Bool.not_eq_true']
    rintro ⟨⟨low, high⟩, off⟩
    rcases unlocked with zero | past | on
    · omega
    · omega
    · simp [on] at off
  rw [writeSetting, if_neg (by omega), if_neg (by simp [idle]), if_neg open']

/-! ### SETTING READ of the store (R184) -/

theorem readStore_begins (code : Byte) (hw : word ≤ 2047) (idle : s.loader.writing = none) :
    s.readStore code word = s.startStoreRead code word := by
  rw [readStore, if_neg (by omega), if_neg (by simp [idle])]

end State

/-! ### The commands -/

/-- R183: the request is answered with the reply of its block, CAL_EN sampled as it is taken (log 7). -/
theorem exec_settingWrite (h : Accepts s (.settingWrite word value calEn)) :
    exec (.settingWrite word value calEn) s =
      replyTo (.settingWrite word value calEn) ({ s with calEn := calEn }.writeSetting word value) :=
  show execSettingWrite word value calEn s = _ from request_replies _ h

theorem exec_settingRead_store (h : Accepts s (.settingRead word 1)) :
    exec (.settingRead word 1) s = .next (s.readStore 68 word) := by
  show execSettingRead word 1 s = _
  rw [execSettingRead, onPort_taken _ h.up h.taken, h.ready]
  rfl

theorem exec_writeCycleEnd {x : StoreWrite} (readBack : Option Word) (up : s.rstLow = false)
    (writes : s.loader.writing = some x) : exec (.writeCycleEnd readBack) s = .next (s.finishWrite x readBack) := by
  show execWriteCycleEnd readBack s = _
  rw [execWriteCycleEnd, whileUp_high _ up, writes]

theorem exec_storeReadEnd (answer : Option Word) (up : s.rstLow = false) (reads : s.loader.reading.isSome = true) :
    exec (.storeReadEnd answer) s = .next (s.finishStoreRead answer) :=
  when_holds (fun s => s.finishStoreRead answer) up reads

/-- Settles O51: SETTING WRITE by the four cases of `writeSetting`, and each step of the loader by its own condition. -/
theorem settingsStoreIsWrittenAndRead : Obligations.SettingsStoreIsWrittenAndRead := by
  unfold Obligations.SettingsStoreIsWrittenAndRead
  intro s
  refine ⟨fun word value calEn acc => ⟨fun out => ?_, fun hw hv => ⟨fun busy => ?_, fun idle low high off => ?_,
    fun idle unlocked => ?_⟩⟩, fun x readBack up writes => ?_, fun word acc hw idle => ?_, fun answer up reads => ?_⟩
  · rw [exec_settingWrite acc, State.writeSetting_outOfRange out, replyTo_refuse]
  · rw [exec_settingWrite acc, State.writeSetting_busy (s := { s with calEn := calEn }) hw hv busy, replyTo_refuse]
  · rw [exec_settingWrite acc, State.writeSetting_locked (s := { s with calEn := calEn }) hw hv idle ⟨low, high⟩ off,
      replyTo_refuse]
  · rw [exec_settingWrite acc, State.writeSetting_begins (s := { s with calEn := calEn }) hw hv idle unlocked]
    rfl
  · rw [exec_writeCycleEnd readBack up writes]
    cases readBack <;> rfl
  · rw [exec_settingRead_store acc, State.readStore_begins 68 hw idle]
    rfl
  · rw [exec_storeReadEnd answer up reads]
    rfl

end Sys2Proof.Machine
end

section
/-! O2: the queue stands and the counter of free values does not fall (log 14): the records, the lanes and the
captures. -/

namespace Sys2Proof.Machine

/-- From `s` to `t` the queue stands and no free value is given back (log 14). -/
structure Onward (s t : State) : Prop where
  queue : t.pending = s.pending
  draws : s.free ≤ t.free

namespace Onward

variable {s t u : State} {n : Fin 4}

@[refl] theorem refl (s : State) : Onward s s := ⟨rfl, le_rfl⟩

theorem trans (h : Onward s u) (h' : Onward u t) : Onward s t := ⟨h'.queue.trans h.queue, h.draws.trans h'.draws⟩

/-- A change of the blocks alone: neither the queue nor the counter is written. -/
theorem frame (h : Onward s u) (stands : (t.pending, t.free) = (u.pending, u.free)) : Onward s t :=
  h.trans ⟨congrArg Prod.fst stands, (congrArg Prod.snd stands).ge⟩

/-- A free value is drawn (log 14). -/
theorem spend (h : Onward s u) {k : Nat} : Onward s { u with free := u.free + k } :=
  h.trans ⟨rfl, Nat.le_add_right _ _⟩

/-! ### The blocks -/

theorem setLane (h : Onward s u) {l : Lane} : Onward s (u.setLane n l) := h.frame rfl
theorem setBarrier (h : Onward s u) {b : Barrier} : Onward s (u.setBarrier n b) := h.frame rfl
theorem setDeck (h : Onward s u) {d : Deck} : Onward s (u.setDeck n d) := h.frame rfl
theorem setEngine (h : Onward s u) {e : Engine} : Onward s (u.setEngine n e) := h.frame rfl
theorem setUnit (h : Onward s u) {k : Fin 8} {r : UnitRec} : Onward s (u.setUnit k r) := h.frame rfl
theorem setLoop (h : Onward s u) {l : Loop} : Onward s { u with loop := l } := h.frame rfl
theorem setNotices (h : Onward s u) {x : Notices} : Onward s { u with notices := x } := h.frame rfl
theorem latch (h : Onward s u) {src : Source} {bit : Nat} : Onward s (u.latch src bit) := h.setNotices
theorem followLevels (h : Onward s u) : Onward s u.followLevels := h.setNotices
theorem recordOutcome (h : Onward s u) {o : LastOutcome} : Onward s (u.recordOutcome n o) := h.setEngine.latch

/-! ### The tables -/

theorem setTable (h : Onward s u) {x : VisitTable} : Onward s { u with vt := x } := h.frame rfl
theorem setVisit (h : Onward s u) {k : Nat} {x : Visit} : Onward s (u.setVisit k x) := h.frame rfl
theorem touch (h : Onward s u) {k : Nat} : Onward s (u.touch k) := h.frame (by simp)
theorem complete (h : Onward s u) {k : Nat} : Onward s (u.complete k) := h.frame (by simp)

theorem addLive (h : Onward s u) {x : Visit} {d : Int} : Onward s (u.addLive x d) := by
  have vehicle : Onward s (u.addVehicleLive x.vehicle d) := by
    unfold State.addVehicleLive
    split <;> exact h.frame rfl
  unfold State.addLive State.addPermitLive
  dsimp only
  split
  · exact vehicle
  · split <;> exact vehicle.frame rfl

theorem addReserved (h : Onward s u) {k : Nat} {kg : Int} : Onward s (u.addReserved k kg) := by
  unfold State.addReserved
  split <;> exact h.frame rfl

theorem debitPermit (h : Onward s u) {k : Nat} {net r : Int} : Onward s (u.debitPermit k net r) := by
  unfold State.debitPermit
  split <;> exact h.frame rfl

theorem refreshTare (h : Onward s u) {x : Visit} : Onward s (u.refreshTare x) := by
  unfold State.refreshTare
  split
  · split <;> exact h.frame rfl
  · exact h

theorem removeVisit (h : Onward s u) {k : Nat} {x : Visit} : Onward s (u.removeVisit k x) := h.setTable.addLive

/-! ### Lanes and holds -/

theorem forLanes (f : Fin 4 → State → State) (h : ∀ n u, Onward s u → Onward s (f n u)) (hu : Onward s u) :
    Onward s (Machine.forLanes f u) := forLanes_keeps (Onward s) h hu

theorem forUnits (f : Fin 8 → State → State) (h : ∀ k u, Onward s u → Onward s (f k u)) (hu : Onward s u) :
    Onward s (Machine.forUnits f u) := forUnits_keeps (Onward s) h hu

theorem endTracking (h : Onward s u) {ticket : Option Nat} : Onward s (u.endTracking ticket) := by
  unfold State.endTracking
  split
  · exact h
  · refine h.forLanes _ fun n u hu => ?_
    dsimp only
    split <;> exact hu.frame rfl

theorem endReleasing (h : Onward s u) : Onward s (u.endReleasing n) := by
  unfold State.endReleasing
  split <;> exact h.frame rfl

theorem enterReleasing (h : Onward s u) {held : Option Nat} : Onward s (u.enterReleasing n held) :=
  h.setLane.setBarrier.setBarrier.followLevels.endReleasing

theorem reportEligible (h : Onward s u) : Onward s (u.reportEligible n) := by
  unfold State.reportEligible
  split <;> exact h.frame rfl

theorem addLater (h : Onward s u) {k : Nat} {x : Visit} {r : HoldReason} : Onward s (u.addLater k x r) := by
  unfold State.addLater
  split
  · exact h
  · exact h.setVisit.touch

theorem holdClaim (h : Onward s u) {k : Nat} {r : HoldReason} : Onward s (u.holdClaim k r) := by
  unfold State.holdClaim
  split
  · exact h
  · split
    · exact h.addLater
    · exact h.setVisit.touch.latch.followLevels

theorem holdBound (h : Onward s u) {r : HoldReason} : Onward s (u.holdBound n r) := by
  unfold State.holdBound
  split
  · exact h
  · exact h.holdClaim

theorem holdToReleasing (h : Onward s u) {r : HoldReason} : Onward s (u.holdToReleasing n r) := by
  unfold State.holdToReleasing
  split
  · exact h
  · exact h.holdBound.enterReleasing

theorem passage (h : Onward s u) {k : Nat} {x : Visit} : Onward s (u.passage n k x) := by
  unfold State.passage
  split
  · exact h
  · dsimp only
    split <;> exact h.frame (by simp)

theorem creditPassage (h : Onward s u) {t : Nat} : Onward s (u.creditPassage n t) := by
  have credited (k : Nat) (x : Visit) (d : Int) :
      Onward s (((u.setVisit k x).addOccupancy d).addLater k x .unattendedPassage) := h.setTable.addLater
  unfold State.creditPassage
  split
  · exact h
  · split
    · exact (credited _ _ _).touch.latch.followLevels
    · exact h

/-! ### Captures and clearance -/

/-- R21: a clearance draws a free value for each weighing whose division it may miss (log 12). -/
theorem clearance (h : Onward s u) {k : Nat} : Onward s (u.clearance n k) := by
  unfold State.clearance
  split
  · exact h
  · dsimp only
    split
    · exact h.spend.setVisit.holdToReleasing
    · split
      · exact h.spend.debitPermit.refreshTare.setVisit.touch.latch.reportEligible
      · exact h.spend.refreshTare.setVisit.touch.latch.reportEligible


theorem weighingArrives (h : Onward s u) {ticket : Nat} {w : Weighing} : Onward s (u.weighingArrives n ticket w) := by
  have effect {x : State} (hx : Onward s x) (k : Nat) : Onward s (x.entryEffect n k w.role) := by
    unfold State.entryEffect
    split
    · exact hx.reportEligible
    · exact hx.reportEligible
    · exact hx.clearance
    · exact hx
  unfold State.weighingArrives
  split
  · exact h
  · split
    · exact h
    · split
      · split
        · exact effect h.setVisit.touch _
        · exact h.setVisit.touch
      · exact h.setVisit.touch

theorem countFailure (h : Onward s u) : Onward s (u.countFailure n) := by
  unfold State.countFailure
  dsimp only
  split
  · exact h.setEngine.holdToReleasing
  · exact h.setEngine

theorem settleGathered (h : Onward s u) {c : Capture} {p : Bool} {g : Gathered} :
    Onward s (u.settleGathered n c p g) := by
  unfold State.settleGathered
  dsimp only
  split
  · exact h.setEngine.weighingArrives.recordOutcome
  · exact h.setEngine.setLane.recordOutcome

theorem settleFailed (h : Onward s u) {c : Capture} {r : FailReason} : Onward s (u.settleFailed n c r) := by
  unfold State.settleFailed
  dsimp only
  split
  · exact h.setEngine.countFailure.recordOutcome
  · exact h.setEngine.setLane.recordOutcome

theorem abortCapture (h : Onward s u) : Onward s (u.abortCapture n) := by
  unfold State.abortCapture
  split
  · exact h
  · split
    · exact h.settleGathered
    · split
      · exact h.frame rfl
      · exact h.settleFailed

theorem truncateCapture (h : Onward s u) : Onward s (u.truncateCapture n) := by
  unfold State.truncateCapture
  split
  · exact h
  · split
    · exact h.settleGathered
    · exact h.frame rfl

theorem holdAndAbort (h : Onward s u) {r : HoldReason} : Onward s (u.holdAndAbort n r) := h.holdBound.abortCapture

theorem endBurst (h : Onward s u) {c : Capture} : Onward s (u.endBurst n c) := by
  unfold State.endBurst
  split
  · exact h.settleFailed
  · exact h.settleGathered

theorem judgeBurst (h : Onward s u) {c : Capture} : Onward s (u.judgeBurst n c) := by
  have goesOn : Onward s (u.goOn n c) := h.frame rfl
  unfold State.judgeBurst
  split
  · exact goesOn.endBurst
  · exact goesOn

theorem axleReading (h : Onward s u) {c : Capture} {st : DeckState} {kg : Int} {b : Bool} :
    Onward s (u.axleReading n c st kg b) := by
  unfold State.axleReading
  split
  · split
    · exact h.endBurst
    · exact h
  · exact h.frame rfl
  · exact h.judgeBurst
  · exact h.judgeBurst
  · exact h.judgeBurst
  · exact h.frame rfl
  · exact h

theorem captureReading (h : Onward s u) {st : DeckState} {kg : Int} {b : Bool} :
    Onward s (u.captureReading n st kg b) := by
  unfold State.captureReading
  split
  · exact h
  · split
    · exact h.settleFailed
    · exact h.settleFailed
    all_goals
      split
      · exact h.axleReading
      · split
        · exact h.settleGathered
        · exact h

theorem captureImage (h : Onward s u) {r : LaneReport} : Onward s (u.captureImage n r) := by
  unfold State.captureImage
  split <;> exact h.frame rfl

theorem startCapture (h : Onward s u) {p : Purpose} {b : Option Burst} : Onward s (u.startCapture n p b) := by
  have runs : Onward s (u.goOn n (u.newCapture n p b)) := h.frame rfl
  unfold State.startCapture
  dsimp only
  split
  · exact runs.settleFailed
  · exact runs.settleFailed
  all_goals exact runs.captureImage

theorem startVisitCapture (h : Onward s u) {b : Option Burst} : Onward s (u.startVisitCapture n b) := by
  unfold State.startVisitCapture
  split
  · exact h
  · split
    · exact h.startCapture
    · exact h

/-! ### Samples -/

theorem trackIfDue (h : Onward s u) {p : DeckParams} {raw : Nat} {kg : Int} : Onward s (u.trackIfDue n p raw kg) := by
  unfold State.trackIfDue State.trackZero
  dsimp only
  split
  · split <;> exact h.frame rfl
  · exact h

theorem takeSample (h : Onward s u) {p : DeckParams} {raw : Nat} {o : Bool} {f : Nat} :
    Onward s (u.takeSample n p raw o f) := by
  unfold State.takeSample
  dsimp only
  split
  · exact h.setDeck.followLevels.captureReading
  · exact h.setDeck.trackIfDue.followLevels.captureReading

theorem enterNoData (h : Onward s u) : Onward s (u.enterNoData n) := by
  unfold State.enterNoData
  dsimp only
  split
  · exact h.setDeck
  · exact h.setDeck.followLevels.captureReading

/-! ### Binds and the tag buffer -/

theorem bindGrant (h : Onward s u) {t : Nat} {tag : Tag} {e : Bool} : Onward s (u.bindGrant n t tag e) := h.frame rfl

theorem grantAdmission (h : Onward s u) {c : Candidate} : Onward s (u.grantAdmission n c) := by
  have counted : Onward s (if c.isNew then u.addLive c.record 1 else u) := by
    split
    · exact h.addLive
    · exact h
  have claimed : Onward s (u.admissionClaims c) := by
    unfold State.admissionClaims
    dsimp only
    split
    · exact counted.addReserved
    · exact counted
  exact claimed.setTable.setVisit.touch.latch.bindGrant.followLevels

theorem bindRecord (h : Onward s u) {k : Nat} {x : Visit} {st : VisitState} {e : Bool} :
    Onward s (u.bindRecord n k x st e) := h.setVisit.touch.bindGrant.followLevels

theorem bindExit (h : Onward s u) {k : Nat} {x : Visit} : Onward s (u.bindExit n k x) := by
  unfold State.bindExit
  split
  · exact h.bindRecord
  · dsimp only
    split
    · exact h.bindRecord.holdToReleasing
    · split
      · exact h.bindRecord
      · exact h.bindRecord.setVisit.clearance

theorem bindClaim (h : Onward s u) {found : Option (Nat × Visit)} (ht : u.bindClaim n found = .ok t) : Onward s t := by
  unfold State.bindClaim at ht
  split at ht
  · cases ht
  · cases ht
  · split at ht
    · cases ht
      exact h.bindRecord
    · cases ht
      exact h.bindExit
    · split at ht <;> cases ht
      exact h.bindRecord
    · cases ht

theorem tagClaim (h : Onward s u) {tag : Tag} (ht : u.tagClaim n tag = .ok t) : Onward s t := by
  unfold State.tagClaim at ht
  split at ht
  · split at ht <;> cases ht
    exact h.grantAdmission
  all_goals exact h.bindClaim ht

theorem tryRounds (h : Onward s u) (k : Nat) : Onward s (State.tryRounds k n u) := by
  induction k generalizing u with
  | zero => exact h
  | succ k ih =>
    have dropped : Onward s (u.dropFront n) := h.frame rfl
    unfold State.tryRounds
    split
    · exact h
    · split
      · exact ih dropped
      · split
        · rename_i t ht
          split
          · exact ih (dropped.tagClaim ht)
          · exact dropped.tagClaim ht
        · split
          · exact h
          · exact ih dropped.setLane.latch

theorem makeTry (h : Onward s u) : Onward s (u.makeTry n) := by
  unfold State.makeTry
  split
  · exact h.tryRounds _
  · exact h

theorem tryBuffer (h : Onward s u) : Onward s (u.tryBuffer n) := by
  unfold State.tryBuffer
  split
  · exact h.makeTry
  · exact h

/-! ### Host claims met within another step (R57) -/

/-- R11: the tag of a refused ADMIT may be a free value (log 11). -/
theorem refuseAdmit (h : Onward s u) {st : Status} {tag : Option Tag} : Onward s (u.refuseAdmit n st tag).1 := by
  have refused (tag : Tag) : Onward s (u.refuseAtLane n st tag) := h.setLane.latch
  unfold State.refuseAdmit
  split
  · exact h
  · split
    · exact refused _
    · exact (refused _).spend

theorem admitReply (h : Onward s u) {lane : Nat} {name : AdmitName} : Onward s (u.admitReply lane name).1 := by
  refine inRange_fst (Onward s) h fun _ => onLane_fst (Onward s) h fun n _ => ?_
  unfold State.admitAt
  split
  · exact h
  · split
    · exact h.refuseAdmit
    · exact h.grantAdmission

theorem callReply (h : Onward s u) {lane ticket : Nat} : Onward s (u.callReply lane ticket).1 := by
  refine inRange_fst (Onward s) h fun _ => onLane_fst (Onward s) h fun n _ => ?_
  unfold State.callAt
  split
  · exact h
  · split
    · exact h
    · rename_i ht
      exact (h.bindClaim ht).tryBuffer

theorem restoreTo (h : Onward s u) {k : Nat} {x : Visit} {st : VisitState} : Onward s (u.restoreTo k x st) := by
  unfold State.restoreTo
  dsimp only
  split
  · exact h.endTracking.setVisit.touch.complete
  · exact h.endTracking.setVisit.touch

theorem rebind (h : Onward s u) {k : Nat} {x : Visit} {st : VisitState} {lane : Option (Fin 4)} :
    Onward s (u.rebind k x st lane).1 := by
  unfold State.rebind
  split
  · exact h
  · split
    · exact h
    · split
      · exact h
      · split
        · exact h
        · exact h.endTracking.bindRecord

theorem releaseReply (h : Onward s u) {name : RecordName} {lane : Option Nat} :
    Onward s (u.releaseReply name lane).1 := by
  refine inRange_fst (Onward s) h fun _ => onRecord_fst (Onward s) h fun k x _ => ?_
  have restored {st : VisitState} : Onward s (u.restoreTo k x st).done.1 := h.restoreTo
  unfold State.releaseVisit
  split
  · split
    · exact h
    · exact restored
  · exact restored
  · split
    · exact h.rebind
    · exact restored
  · exact h.rebind
  · exact h.rebind
  · exact h.rebind
  · exact h

theorem claimReply (h : Onward s u) {c : Instr} {r : Reply} (hr : u.claimReply n c = some r) : Onward s r.1 := by
  unfold State.claimReply at hr
  split at hr
  · split at hr <;> cases hr
    exact h.admitReply
  · split at hr <;> cases hr
    exact h.callReply
  · split at hr <;> cases hr
    exact h.releaseReply
  · cases hr

theorem takeHandedClaim (h : Onward s u) (ht : u.takeHandedClaim n = some t) : Onward s t := by
  unfold State.takeHandedClaim at ht
  split at ht
  · split at ht
    · cases ht
    · obtain ⟨r, hr, rfl⟩ := Option.map_eq_some_iff.mp ht
      exact (h.claimReply hr).frame rfl
  · cases ht

/-- R57: whether the claim is taken before the try is a free value (log 31). -/
theorem meetClaim (h : Onward s u) : Onward s (u.meetClaim n) := by
  rcases u.meetClaim_cases n with e | e | ⟨t, ht, e⟩ <;> rw [e]
  · exact h
  · exact h.spend
  · exact (h.takeHandedClaim ht).spend

theorem tryOnIdle (h : Onward s u) {before : State} : Onward s (u.tryOnIdle n before) := by
  unfold State.tryOnIdle
  split
  · exact h.meetClaim.makeTry
  · exact h

/-! ### Faults and maintenance -/

theorem enterFault (h : Onward s u) : Onward s (u.enterFault n) := h.setLane.setBarrier.setBarrier.followLevels

theorem faultLane (h : Onward s u) {r : HoldReason} : Onward s (u.faultLane n r) := by
  unfold State.faultLane
  split
  · exact h
  · exact h
  all_goals exact h.holdAndAbort.enterFault

theorem barrierFaultAtLane (h : Onward s u) : Onward s (u.barrierFaultAtLane n) := by
  unfold State.barrierFaultAtLane
  split
  · exact h
  · exact h.faultLane

theorem failBarrier (h : Onward s u) : Onward s (u.failBarrier n) := by
  unfold State.failBarrier
  split
  · exact h
  · exact h.setBarrier.barrierFaultAtLane

theorem startMaintenance (h : Onward s u) : Onward s (u.startMaintenance n) :=
  h.holdAndAbort.setLane.setBarrier.followLevels

theorem endMaintenance (h : Onward s u) : Onward s (u.endMaintenance n) := by
  unfold State.endMaintenance
  dsimp only
  split
  · exact h.abortCapture.enterFault
  · exact h.abortCapture.enterReleasing.tryOnIdle

theorem reportDown (h : Onward s u) {k : Fin 8} {r : HoldReason} : Onward s (u.reportDown k r) := by
  unfold State.reportDown
  split
  · exact h.faultLane
  · exact h.enterNoData

theorem tryServed (h : Onward s u) {k : Fin 8} {before : State} : Onward s (u.tryServed k before) := by
  unfold State.tryServed
  split <;> exact h.tryOnIdle

/-- R131: whether a waiting reading is taken before the unbinding claim is a free value (log 39). -/
theorem meetReading (h : Onward s u) : Onward s (u.meetReading n) := by
  have taken {t : State} (ht : u.takeWaitingSample n = some t) : Onward s t := by
    unfold State.takeWaitingSample at ht
    split at ht
    · split at ht <;> cases ht
      exact h.setLoop.takeSample
    · cases ht
  unfold State.meetReading
  split
  · exact h
  · rename_i t ht
    split
    · split
      · exact (taken ht).spend.setLane.setBarrier
      · exact h.spend
    · exact h

end Onward

end Sys2Proof.Machine
end

section
/-! O2: every command answers a next state, the queue standing and the counter of free values not fallen (log 14). -/

namespace Sys2Proof.Machine

namespace Onward

variable {s t u : State} {n : Fin 4}

/-! ### The Visit Table's requests -/

theorem bookVisit (h : Onward s u) {tag : Tag} {k : VisitKind} {p : Option Nat} {b : Bool} {d : Nat} :
    Onward s (u.bookVisit tag k p b d).1 := by
  unfold State.bookVisit
  split
  · exact h
  · split
    · exact h
    · split
      · exact h
      · split
        · exact h
        · exact h.addLive.setVisit.touch

theorem amendVisit (h : Onward s u) {k : Nat} {x : Visit} {b : Bool} {d : Nat} :
    Onward s (u.amendVisit k x b d).1 := by
  unfold State.amendVisit
  split
  · exact h.setVisit.touch
  · exact h.setVisit.touch
  all_goals exact h

theorem holdVisit (h : Onward s u) {k : Nat} {x : Visit} : Onward s (u.holdVisit k x).1 := by
  unfold State.holdVisit
  split
  · split
    · exact h
    · exact h.holdClaim
  · exact h.holdClaim
  · exact h.holdClaim
  all_goals exact h

theorem voidRecord (h : Onward s u) {k : Nat} {x : Visit} : Onward s (u.voidRecord k x).1 := by
  have ended : Onward s (u.endTracking x.ticket) := h.endTracking
  unfold State.voidRecord
  split
  · exact h.removeVisit
  · split
    · unfold State.voidLive
      dsimp only [State.done]
      split
      · split
        · exact ended.setVisit.touch
        · exact ended.addReserved.setVisit.touch
      · split
        · exact ended.setVisit.touch.complete
        · exact ended.addReserved.setVisit.touch.complete
    · exact h

theorem retireVisit (h : Onward s u) {k : Nat} {x : Visit} : Onward s (u.retireVisit k x).1 := by
  unfold State.retireVisit
  split
  · exact h.removeVisit
  · exact h

theorem declareTip (h : Onward s u) {k : Nat} {x : Visit} {c : Nat} : Onward s (u.declareTip k x c).1 := by
  unfold State.declareTip
  dsimp only
  split_ifs
  exacts [h, h, h, h, h, h.setVisit.touch]

/-! ### The registers, the clock and the store -/

theorem putPermit (h : Onward s u) {k : Nat} {a : BitVec 32} {p e : Nat} : Onward s (u.putPermit k a p e).1 := by
  unfold State.putPermit
  split
  · exact h.frame rfl
  · split <;> exact h.frame rfl

theorem adjustPermit (h : Onward s u) {k : Nat} {kg : Int} : Onward s (u.adjustPermit k kg).1 := by
  unfold State.adjustPermit
  split
  · exact h
  · split <;> exact h.frame rfl

theorem markPermit (h : Onward s u) {k : Nat} {st : PermitState} : Onward s (u.markPermit k st).1 := by
  unfold State.markPermit
  split
  · exact h
  · split <;> exact h.frame rfl

theorem dropPermit (h : Onward s u) {k : Nat} : Onward s (u.dropPermit k).1 := by
  unfold State.dropPermit
  split
  · exact h
  · split <;> exact h.frame rfl

theorem putVehicle (h : Onward s u) {v : Vehicle} {x : TareParam} : Onward s (u.putVehicle v x).1 := by
  unfold State.putVehicle
  split
  · dsimp only
    split <;> exact h.frame rfl
  · dsimp only
    split
    · exact h
    · split <;> exact h.frame rfl

theorem dropVehicle (h : Onward s u) {tag : Tag} : Onward s (u.dropVehicle tag).1 := by
  unfold State.dropVehicle
  split
  · exact h
  · split <;> exact h.frame rfl

theorem tareStore (h : Onward s u) {x : Visit} {k d : Nat} : Onward s (u.tareStore x k d).1 := by
  have stored (y : Tare) : Onward s (u.storeTare x y) := by
    unfold State.storeTare
    split <;> exact h.frame rfl
  unfold State.tareStore
  split
  · exact h
  · split
    · exact stored _
    · exact h

/-- R17: the bookings that lapse leave one after the other. -/
theorem changeDay (h : Onward s u) : Onward s u.changeDay := by
  have lapsed {y : State} (hy : Onward s y) : Onward s y.lapseBookings := by
    have gone : Onward s (y.lapsing.foldl (fun x e => x.removeVisit e.1 e.2) y) :=
      foldl_keeps (Onward s) (fun e x hx => hx.removeVisit) _ _ hy
    unfold State.lapseBookings
    dsimp only
    split
    · exact gone
    · exact gone.latch
  unfold State.changeDay
  split
  · have dated {c : Clock} : Onward s { u with clock := c } := h.frame rfl
    exact (lapsed dated).frame rfl
  · exact h.frame rfl

theorem clockSecond (h : Onward s u) : Onward s u.clockSecond := by
  unfold State.clockSecond
  split
  · exact h.changeDay
  · split
    · unfold State.nextSecond
      split <;> exact h.frame rfl
    · exact h

theorem readSetting (h : Onward s u) {code : Byte} {word source : Nat} :
    Onward s (u.readSetting code word source) := by
  unfold State.readSetting
  split
  · unfold State.readActive
    split <;> exact h.frame rfl
  · unfold State.readStore
    split
    · exact h.frame rfl
    · split <;> exact h.frame rfl
  · exact h.frame rfl

theorem writeSetting (h : Onward s u) {word value : Nat} : Onward s (u.writeSetting word value).1 := by
  unfold State.writeSetting
  split_ifs <;> exact h.frame rfl

/-! ### Requests at a lane -/

theorem setMode (h : Onward s u) {m : LaneMode} {a w x c : Bool} : Onward s (u.setMode n m a w x c).1 := by
  have opened {y : State} (hy : Onward s y) : Onward s (y.openLane n) := by
    unfold State.openLane
    split
    · exact hy.enterFault
    · exact hy.setLane
  have written : Onward s (u.writeMode n m a w x c) := h.frame rfl
  unfold State.setMode
  split
  · show Onward s ((u.writeMode n m a w x c).moveByMode n)
    unfold State.moveByMode
    split
    · exact written.setLane.setBarrier
    · exact opened written
    · exact opened written
    · exact opened written
    · exact written
  · exact h

theorem releaseLane (h : Onward s u) : Onward s (u.releaseLane n).1 := by
  have met : Onward s (u.meetReading n) := h.meetReading
  have held (before : State) : Onward s (((u.meetReading n).releaseHeld n).tryOnIdle n before) :=
    met.holdAndAbort.enterReleasing.tryOnIdle
  unfold State.releaseLane State.releaseClaim
  split
  · exact held _
  · exact held _
  · exact held _
  · split
    · exact met.setVisit.touch.abortCapture.enterReleasing.tryOnIdle
    · split
      · exact met
      · exact held _

theorem resetLane (h : Onward s u) : Onward s (u.resetLane n) := by
  have move {x : State} (hx : Onward s x) (before : Lane) : Onward s (x.resetMove n before) := by
    unfold State.resetMove
    split
    · split
      · exact hx
      · exact hx.enterFault
    · exact hx.enterReleasing
  have cleared : Onward s (((u.meetReading n).holdAndAbort n .laneReset).resetBarrier n) :=
    h.meetReading.holdAndAbort.setBarrier.setBarrier
  exact (move cleared _).setLane

theorem maintainOn (h : Onward s u) : Onward s (u.maintainOn n).1 := by
  unfold State.maintainOn
  split
  · exact h
  · exact h
  · exact h
  all_goals exact h.meetReading.startMaintenance

theorem maintainOff (h : Onward s u) : Onward s (u.maintainOff n).1 := by
  unfold State.maintainOff
  split
  · exact h.endMaintenance
  · exact h

theorem workBarrier (h : Onward s u) {o : BarrierOrder} : Onward s (u.workBarrier n o).1 := by
  unfold State.workBarrier
  split <;> exact h.frame rfl

theorem captureAt (h : Onward s u) {b : Option Burst} : Onward s (u.captureAt n b).1 := by
  unfold State.captureAt
  split
  · exact h
  · split
    · split
      · exact h
      · exact h.setLane
    · split
      · exact h
      · exact h.truncateCapture.startVisitCapture.tryOnIdle
    · exact h.truncateCapture.startCapture
    all_goals exact h

theorem terminateAt (h : Onward s u) : Onward s (u.terminateAt n).1 := by
  have ended (c : Capture) : Onward s (u.endByRequest n c) := by
    unfold State.endByRequest
    split
    · exact h.settleFailed
    · exact h.settleGathered
  unfold State.terminateAt
  split
  · exact (ended _).tryOnIdle
  · split
    · exact h.setLane
    · exact h

theorem zeroAt (h : Onward s u) : Onward s (u.zeroAt n).1 := by
  unfold State.zeroAt
  split
  · exact h
  · exact h
  · split_ifs <;> exact h.frame rfl

/-! ### The loop and the units -/

theorem autoStartLoop (h : Onward s u) : Onward s u.autoStartLoop := by
  unfold State.autoStartLoop
  split <;> exact h.frame rfl

theorem loopStart (h : Onward s u) : Onward s u.loopStart.1 := by
  unfold State.loopStart
  split <;> exact h.frame rfl

theorem loopPause (h : Onward s u) : Onward s u.loopPause.1 := by
  unfold State.loopPause
  split_ifs <;> exact h.frame rfl

theorem loopResume (h : Onward s u) : Onward s u.loopResume.1 := by
  unfold State.loopResume
  split
  · show Onward s u.callOffPause
    unfold State.callOffPause
    split <;> exact h.frame rfl
  · split <;> exact h.frame rfl
  · exact h
  · exact h

theorem loopStop (h : Onward s u) : Onward s u.loopStop.1 := by
  unfold State.loopStop
  split_ifs <;> exact h.frame rfl

theorem slotSet (h : Onward s u) {k : Nat} {es : List Byte} : Onward s (u.slotSet k es).1 := by
  have judged {y : State} (hy : Onward s y) : Onward s y.judgeOwnership :=
    (hy.forUnits _ fun _ _ hx => hx.setUnit).followLevels
  unfold State.slotSet
  split
  · exact h
  · split
    · exact h
    · split
      · exact h
      · exact judged h.setLoop

theorem unitAddress (h : Onward s u) {k : Fin 8} {a : Nat} : Onward s (u.unitAddress k a).1 := by
  unfold State.unitAddress
  split_ifs <;> exact h.frame rfl

/-- R152: the slot that LOOP STATUS shows in progress may be a free value (log 40). -/
theorem loopStatus (h : Onward s u) : Onward s u.loopStatus.1 := by
  have drawn : Onward s u.drawPosition := h.spend.frame rfl
  unfold State.loopStatus
  split_ifs
  exacts [h, h, h, drawn]

theorem autoSwitch (h : Onward s u) {k : Fin 8} {on : Nat} : Onward s (u.autoSwitch k on).1 := by
  unfold State.autoSwitch
  split
  · exact h
  · split <;> exact h.frame rfl

theorem tickUnits (h : Onward s u) : Onward s (Machine.forUnits State.tickUnit u) :=
  h.forUnits _ fun k x hx => by
    unfold State.tickUnit
    split <;> exact hx.frame rfl

theorem markerSlot (h : Onward s u) {bs : List BitSamples} : Onward s (u.markerSlot bs) := by
  have counted (statuses : List SlotStatus) (k : Fin 8) (x : State) (hx : Onward s x) :
      Onward s (x.unitFrameEnd statuses k) := by
    unfold State.unitFrameEnd
    dsimp only
    split
    · exact hx
    · split <;> exact hx.frame rfl
  have published : Onward s u.publish := by
    have ended {y : State} (hy : Onward s y) : Onward s y.blocksFrameEnd := hy.frame rfl
    exact (ended (h.setLoop.forUnits _ (counted _))).latch
  have sent {y : State} (hy : Onward s y) : Onward s (y.sendMarker bs) := hy.setLoop.setLoop.setLoop
  have opened {y : State} (hy : Onward s y) : Onward s y.openFrame := hy.frame rfl
  unfold State.markerSlot
  split
  · exact sent h
  · exact sent (opened published)

/-! ### The port -/

/-- R192: the code of a frame whose byte 2 never came is a free value (log 10). -/
theorem endTransaction (h : Onward s u) {x : Sending} {sent : List Byte} {calEn : Bool} :
    Onward s (u.endTransaction x sent calEn) := by
  have judged {y : State} (hy : Onward s y) (k : Byte) (rest : List Byte) : Onward s (y.judgeSent k rest calEn) := by
    have spent : Onward s (y.spendFrameCode rest) := by
      unfold State.spendFrameCode
      split
      · exact hy.spend
      · exact hy
    unfold State.judgeSent
    dsimp only
    split
    · exact spent.frame rfl
    · exact spent.frame rfl
    · split <;> exact spent.frame rfl
  have read : Onward s ({ u with calEn := calEn }.judgeRead x sent) := by
    unfold State.judgeRead
    split <;> exact h.frame rfl
  unfold State.endTransaction State.judgeBytes
  split
  · exact read
  · split
    · exact read
    · exact judged read _ _

/-! ### Messages -/

theorem setDetector (h : Onward s u) {k : DetectorKind} {d : Detector} : Onward s (u.setDetector n k d) := by
  cases k <;> exact h.frame rfl

theorem judgeBarrier (h : Onward s u) : Onward s (u.judgeBarrier n) := by
  unfold State.judgeBarrier
  dsimp only
  split
  · exact h.setBarrier
  · split
    · exact h.setBarrier.barrierFaultAtLane
    · exact h.setBarrier.endReleasing
    all_goals exact h.setBarrier

theorem completePassage (h : Onward s u) : Onward s (u.completePassage n) := by
  unfold State.completePassage
  split
  · exact h.enterReleasing
  · exact h.passage.enterReleasing

theorem completeUnattended (h : Onward s u) : Onward s (u.completeUnattended n) := by
  unfold State.completeUnattended
  split
  · exact h.setBarrier.setLane
  · exact h.creditPassage.setBarrier.setLane

theorem trackPassage (h : Onward s u) : Onward s (u.trackPassage n) := by
  unfold State.trackPassage
  dsimp only
  split
  · exact h.setBarrier
  · split
    · exact h.setBarrier.completePassage
    · exact h.setBarrier
  · split
    · exact h.setBarrier.completeUnattended
    · exact h.setBarrier

theorem takeImage (h : Onward s u) {r : LaneReport} {f : Nat} : Onward s (u.takeImage n r f) := by
  have seen : Onward s (u.seeCode n r.code) := by
    unfold State.seeCode
    split
    · exact h
    · exact h.setDetector
    · exact h.setDetector
  exact seen.setBarrier.captureImage.judgeBarrier.trackPassage.setBarrier.tryOnIdle

theorem readTag (h : Onward s u) {tag : Tag} {f : Nat} : Onward s (u.readTag n tag f) := by
  unfold State.readTag
  split
  · exact h
  · split
    · exact h.setLane
    · split
      · exact h.setLane.tryBuffer
      · exact h.latch

/-- R79: which of its two claims the lane takes first is a free value (log 13). -/
theorem takeAlarm (h : Onward s u) {k : Fin 8} {code : AlarmCode} : Onward s (u.takeAlarm k code) := by
  have alarmed : Onward s (u.setUnit k (State.alarmed (u.unit k) code)).followLevels :=
    h.setUnit.followLevels
  have claims {x : State} (hx : Onward s x) {j : Fin 8} {e : Bool} : Onward s (x.alarmClaim j e) := by
    unfold State.alarmClaim
    split
    · exact hx.reportDown
    · exact hx
  unfold State.takeAlarm
  dsimp only
  split
  · split
    · unfold State.armClaims
      dsimp only
      split
      · exact claims alarmed.spend.failBarrier
      · exact (claims alarmed.spend).failBarrier
    · exact claims alarmed
  · exact (claims alarmed).tryOnIdle

theorem takeDeckSample (h : Onward s u) {raw : Nat} {o : Bool} {f : Nat} :
    Onward s (u.takeDeckSample n raw o f) := by
  unfold State.takeDeckSample
  split
  · exact h
  · split
    · exact h
    · exact h.takeSample.tryOnIdle

/-! ### Expiries and entries -/

theorem endSettling (h : Onward s u) : Onward s (u.endSettling n) := by
  have bound : Onward s (u.enterBound n) := h.setLane
  have captures : Onward s ((u.enterBound n).autoCaptureAt n) := by
    unfold State.autoCaptureAt
    split
    · exact bound
    · split_ifs
      exacts [bound.holdToReleasing, bound.startVisitCapture, bound]
  have settled : Onward s ((u.enterBound n).afterSettling n) := by
    unfold State.afterSettling
    split
    · exact bound.frame rfl
    · split
      · exact bound.setLane.startVisitCapture
      · split
        · exact captures
        · exact bound
  exact settled.tryOnIdle

theorem endTravel (h : Onward s u) : Onward s (u.endTravel n) := by
  unfold State.endTravel
  dsimp only
  split
  · exact h.setBarrier.failBarrier
  · exact h.setBarrier.failBarrier
  all_goals exact h.setBarrier

theorem endCapture (h : Onward s u) : Onward s (u.endCapture n) := by
  unfold State.endCapture
  split
  · exact h
  · split
    · exact h.settleGathered.tryOnIdle
    · exact h.settleFailed.tryOnIdle

theorem enterUnitState (h : Onward s u) {k : Fin 8} {st : UnitState} : Onward s (u.enterUnitState k st) :=
  h.setUnit.followLevels

theorem enterLost (h : Onward s u) {k : Fin 8} : Onward s (u.enterLost k) := h.enterUnitState.reportDown.tryServed

theorem clearAlarm (h : Onward s u) {k : Fin 8} : Onward s (u.clearAlarm k) := by
  unfold State.clearAlarm
  dsimp only
  split
  · exact h.enterUnitState.reportDown.tryServed
  · exact h.enterUnitState

theorem assertDetector (h : Onward s u) {k : DetectorKind} : Onward s (u.assertDetector n k) :=
  h.setDetector.followLevels

theorem detectorMoves (h : Onward s u) {k : DetectorKind} : Onward s (u.detectorMoves n k) := by
  unfold State.detectorMoves
  split
  case h_6 => exact h.endMaintenance
  case h_7 => exact h
  all_goals exact h.startMaintenance

/-! ### Start-up -/

theorem endLoad (h : Onward s u) {read : Option (List Word)} : Onward s (u.endLoad read) := by
  have ticket : Onward s (u.judgeLoad read).loadTicket := by
    unfold State.loadTicket
    split <;> exact h.frame rfl
  have blocks : Onward s (u.judgeLoad read).loadTicket.loadBlocks.recallLevels := ticket.frame rfl
  exact blocks.followLevels.autoStartLoop

theorem reload (h : Onward s u) : Onward s u.reload.1 := by
  unfold State.reload
  split_ifs <;> exact h.frame rfl

theorem restart (h : Onward s u) : Onward s u.restart := by
  have idle : Onward s u.restartLoop.restartEngines := h.frame rfl
  have others {y : State} (hy : Onward s y) : Onward s y.restartLanes.restartOthers := hy.frame rfl
  have marked {y : State} (hy : Onward s y) : Onward s { y with restarting := true } := hy.frame rfl
  exact marked (others (idle.forLanes _ fun _ _ hx => hx.holdBound)).followLevels

end Onward

/-! ### Every command -/

variable {c : Instr} {s t : State}

/-- The effect of a command leaves the queue and takes no free value back (log 14). -/
theorem effect_onward (c : Instr) (s : State) : Onward s (effect c s) := by
  have here : Onward s s := Onward.refl s
  cases c with
  -- start-up, port and notices
  | loadEnd read =>
    dsimp only [effect]
    split
    · exact here.endLoad
    · exact here
  | transactionEnd sent calEn =>
    dsimp only [effect]
    split
    · exact here
    · exact here.endTransaction
  | hardReset | rstNLow | transactionStart | noticeReport => exact here.frame rfl
  | noticeMask words => exact here.setNotices
  | noticeEdge words => exact here.setNotices
  -- Visit Table
  | admitVisit lane name => exact here.admitReply
  | book tag kind permit useTare day =>
    dsimp only [effect]
    split
    · split
      · exact here
      · exact inRange_fst (Onward s) here fun _ => here.bookVisit
    · exact here
  | amend name useTare day =>
    refine inRange_fst (Onward s) here fun _ => ?_
    split
    · exact here
    · exact onRecord_fst (Onward s) here fun _ _ _ => here.amendVisit
  | hold name => exact inRange_fst (Onward s) here fun _ => onRecord_fst (Onward s) here fun _ _ _ => here.holdVisit
  | releaseHold name lane => exact here.releaseReply
  | voidVisit name =>
    exact inRange_fst (Onward s) here fun _ => onRecord_fst (Onward s) here fun _ _ _ => here.voidRecord
  | retire ticket =>
    exact inRange_fst (Onward s) here fun _ => onRecord_fst (Onward s) here fun _ _ _ => here.retireVisit
  | takeChanges => exact here.frame rfl
  | tipDeclare ticket category =>
    exact inRange_fst (Onward s) here fun _ => onRecord_fst (Onward s) here fun _ _ _ => here.declareTip
  | call lane ticket => exact here.callReply
  -- the registers
  | vehiclePut tag permit payload groups refresh banned tare =>
    dsimp only [effect]
    split
    · exact inRange_fst (Onward s) here fun _ => here.putVehicle
    · exact here
  | vehicleDrop tag => exact here.dropVehicle
  | tareStore ticket index validity =>
    exact inRange_fst (Onward s) here fun _ => onRecord_fst (Onward s) here fun _ _ _ => here.tareStore
  | permitPut number allowed primary expiry => exact inRange_fst (Onward s) here fun _ => here.putPermit
  | permitAdjust number amount => exact inRange_fst (Onward s) here fun _ => here.adjustPermit
  | permitSuspend number => exact inRange_fst (Onward s) here fun _ => here.markPermit
  | permitResume number => exact inRange_fst (Onward s) here fun _ => here.markPermit
  | permitDrop number => exact inRange_fst (Onward s) here fun _ => here.dropPermit
  -- Lane Controllers
  | laneMode lane mode autoTake walkIn walkTare autoCapture =>
    refine onLane_fst (Onward s) here fun n _ => ?_
    split
    · exact here.setMode
    · exact here
  | laneRelease lane =>
    refine onLane_fst (Onward s) here fun n _ => ?_
    split
    · exact here.releaseLane
    · exact here
  | laneReset lane =>
    refine onLane_fst (Onward s) here fun n _ => ?_
    split
    · exact here
    · exact here.resetLane
  | maintainOn lane => exact onLane_fst (Onward s) here fun n _ => here.maintainOn
  | maintainOff lane => exact onLane_fst (Onward s) here fun n _ => here.maintainOff
  | barrierRaise lane => exact onLane_fst (Onward s) here fun n _ => here.workBarrier
  | barrierLower lane => exact onLane_fst (Onward s) here fun n _ => here.workBarrier
  -- Deck Processors
  | capture lane burst =>
    refine onLane_fst (Onward s) here fun n _ => ?_
    split
    · exact here
    · exact here.captureAt
  | terminate lane => exact onLane_fst (Onward s) here fun n _ => here.terminateAt
  | zero deck => exact onLane_fst (Onward s) here fun n _ => here.zeroAt
  -- Yard Loop and units
  | loopStart => exact here.loopStart
  | loopPause => exact here.loopPause
  | loopResume => exact here.loopResume
  | loopStop => exact here.loopStop
  | slotSet frameLength entries => exact here.slotSet
  | unitAddress unit address => exact onUnit_fst (Onward s) here fun _ => here.unitAddress
  | inject unit => exact onUnit_fst (Onward s) here fun _ => here.frame rfl
  | loopStatus => exact here.loopStatus
  | counterMode unit selection report =>
    refine onUnit_fst (Onward s) here fun _ => ?_
    split <;> exact here.frame rfl
  | counterReport unit => exact onUnit_fst (Onward s) here fun _ => here.frame rfl
  | autoSwitch unit on => exact onUnit_fst (Onward s) here fun _ => here.autoSwitch
  | reportIntervalTick => exact here.tickUnits
  -- Settings Loader and Yard Clock
  | settingRead word source => exact here.readSetting
  | settingWrite word value calEn =>
    have sampled : Onward s { s with calEn := calEn } := here.frame rfl
    exact sampled.writeSetting
  | reload => exact here.reload
  | restart => exact here.restart
  | restartEnd =>
    have ended : Onward s { s with restarting := false } := here.frame rfl
    exact ended.setNotices.autoStartLoop
  | clockSet day minute => exact inRange_fst (Onward s) here fun _ => here.frame rfl
  | storeReadEnd answer => exact here.frame rfl
  | writeCycleEnd readBack =>
    dsimp only [effect]
    split <;> exact here.frame rfl
  | yardClockSecond => exact here.clockSecond
  | dayChange => exact here.changeDay
  -- slots
  | marker readBack => exact here.markerSlot
  | laneCommand slot readBack => exact here.setLoop.setLoop.setLoop.setLoop
  | poll slot readBack => exact here.setLoop.setLoop.setLoop
  | inSlotEnd slot heard => exact here.setLoop.setLoop
  | loopPaused slot => exact here.setLoop
  -- messages delivered
  | laneStatusMessage n report => exact here.setLoop.takeImage
  | tagRead n tag => exact here.setLoop.readTag
  | unitAlarm u code => exact here.setLoop.takeAlarm
  | deckSample n raw overRange => exact here.setLoop.takeDeckSample
  -- expiries and entries
  | settleTimerExpiry n =>
    dsimp only [effect]
    split
    · exact here.endSettling
    · exact here
  | cycleTimerExpiry n => exact here.setLane.tryBuffer
  | recoveryTimerExpiry n => exact here.setLane.endReleasing.tryOnIdle
  | passageTimeout n => exact here.holdToReleasing.tryOnIdle
  | travelTimerExpiry n => exact here.endTravel
  | gateClearTimerExpiry n => exact here.setBarrier
  | abandonTimerExpiry n => exact here.holdToReleasing.tryOnIdle
  | captureTimerExpiry n => exact here.endCapture
  | trackingTimerExpiry n => exact here.frame rfl
  | noDataEntry n => exact here.enterNoData.tryOnIdle
  | unitLostEntry u => exact here.enterLost
  | unitGoodEntry u => exact here.enterUnitState
  | alarmClear u => exact here.clearAlarm
  | detectorAssert n kind =>
    dsimp only [effect]
    split
    · exact here.assertDetector.detectorMoves
    · exact here.assertDetector
  | detectorDeassert n kind => exact here.setDetector.followLevels
  | identify | lookup _ | nextDone | vehicleGet _ | permitGet _ | laneStatus _ | deckStatus _ | unitStatus _
  | clockRead => exact here

theorem ButForPort.onward (h : ButForPort t s) : Onward s t := by
  obtain ⟨p, rfl⟩ := h
  exact (Onward.refl s).frame rfl

theorem exec_onward (h : exec c s = .next t) : Onward s t := by
  rcases exec_comes h with kept | ⟨-, -, taken⟩
  · exact kept.onward
  · exact (effect_onward c s).trans taken.onward

/-! ### The level of RST_N (R186) -/

theorem onPort_eq_whileUp (c : Instr) (s : State) (body : State → State) : ∃ f, onPort c s body = whileUp s f :=
  ⟨_, rfl⟩

theorem request_eq_whileUp (c : Instr) (s : State) (body : State → Reply) : ∃ f, request c s body = whileUp s f :=
  onPort_eq_whileUp c s _

theorem when_eq_whileUp (b : Bool) (s : State) (g : State → State) : ∃ f, when b s g = whileUp s f := ⟨_, rfl⟩

theorem deliver_eq_whileUp (c : Instr) (s : State) (take : Nat → State → State) :
    ∃ f, deliver c s take = whileUp s f := ⟨_, rfl⟩

/-- R186: every command but the two resets, a request, a message delivered or a step of the part's own, takes place only
while RST_N is high. -/
theorem exec_eq_whileUp (h : isReset c = false) (s : State) : ∃ f, exec c s = whileUp s f := by
  cases c <;> dsimp only [exec]
  case hardReset | rstNLow => cases h
  case identify | settingRead => exact onPort_eq_whileUp _ s _
  case laneStatusMessage | tagRead | unitAlarm | deckSample => exact deliver_eq_whileUp _ s _
  case transactionEnd | writeCycleEnd | yardClockSecond | reportIntervalTick => exact ⟨_, rfl⟩
  case loadEnd | transactionStart | storeReadEnd | restartEnd | dayChange | marker | laneCommand | poll | inSlotEnd |
      loopPaused | settleTimerExpiry | cycleTimerExpiry | recoveryTimerExpiry | passageTimeout | travelTimerExpiry |
      gateClearTimerExpiry | abandonTimerExpiry | captureTimerExpiry | trackingTimerExpiry | noDataEntry |
      unitLostEntry | unitGoodEntry | alarmClear | detectorAssert | detectorDeassert =>
    exact when_eq_whileUp _ s _
  all_goals exact request_eq_whileUp _ s _

/-- R186: no command is left without a next state. -/
theorem exec_next (c : Instr) (s : State) : ∃ t, exec c s = .next t := by
  cases h : isReset c
  · obtain ⟨f, taken⟩ := exec_eq_whileUp h s
    exact ⟨_, taken⟩
  · cases c <;> cases h <;> exact ⟨_, rfl⟩

theorem isReset_iff : isReset c = true ↔ c = .hardReset ∨ c = .rstNLow := by
  cases c <;> simp [isReset]

/-- Settles O2: each command is a step of its own effect, or of nothing but the port (`exec_comes`), and no effect writes
the queue or takes a free value back. -/
theorem everyCommandAnswersNextState : Obligations.EveryCommandAnswersNextState := by
  unfold Obligations.EveryCommandAnswersNextState
  refine ⟨fun c s => ?_, fun c s low notHard notLow => ?_⟩
  · obtain ⟨t, taken⟩ := exec_next c s
    have onward := exec_onward taken
    exact ⟨t, taken, onward.queue, onward.draws⟩
  · have running : isReset c = false := by simp [Bool.eq_false_iff, isReset_iff, notHard, notLow]
    obtain ⟨f, taken⟩ := exec_eq_whileUp running s
    rw [taken, whileUp_low f low]

end Sys2Proof.Machine
end

section
/-! The Notice Unit's words, bit by bit: ATTN (R197), the driven levels, and the three requests (R197, R198). -/

namespace Sys2Proof.Machine

/-! ### Words and their bits -/

/-- A word has no bit outside a mask where each of its bits is one of the mask's. -/
theorem and_not_eq_zero_iff {n : Nat} {w m : BitVec n} :
    w &&& ~~~ m = 0 ↔ ∀ i, w.getLsbD i = true → m.getLsbD i = true := by
  refine ⟨fun h i hi => ?_, fun h => BitVec.eq_of_getLsbD_eq fun i hi => ?_⟩
  · have off := congrArg (BitVec.getLsbD · i) h
    simpa [hi, BitVec.lt_of_getLsbD hi, ← BitVec.getLsbD_eq_getElem] using off
  · cases hw : w.getLsbD i
    · simp [hw]
    · simp [hw, h i hw]

/-- R196: the sources in the order of their words. -/
def Source.inOrder : Vector Source 20 :=
  #v[.admitted, .admitRefused, .tagOverrun, .captureDone, .cleared, .passed, .visitHeld, .bookingLapsed,
    .counterReport, .counterOverflow, .frameEnd, .storeDone, .zeroRange, .unitLost, .unitAlarm, .maintActivate,
    .maintDeactivate, .laneFault, .overload, .occupancyFull]

theorem Source.inOrder_word (k : Fin 20) : (Source.inOrder.get k).word = k := by
  revert k
  decide

/-- R197: ATTN by words: some word is latched where it is not masked. -/
theorem Notices.attn_iff (x : Notices) :
    x.attn = true ↔ ∃ k : Fin 20, x.latched.get k &&& ~~~ (x.mask.get k) ≠ 0 := by
  simp [Notices.attn]

/-- R197: ATTN by positions. -/
theorem Notices.attn_iff_position (x : Notices) : x.attn = true ↔ ∃ (src : Source) (bit : Nat), bit < 16 ∧
    x.isLatched src bit = true ∧ (x.mask.get src.word).getLsbD bit = false := by
  rw [x.attn_iff]
  simp only [ne_eq, and_not_eq_zero_iff, not_forall, Bool.not_eq_true, exists_prop]
  constructor
  · rintro ⟨k, bit, latched, unmasked⟩
    rw [← Source.inOrder_word k] at latched unmasked
    exact ⟨Source.inOrder.get k, bit, BitVec.lt_of_getLsbD latched, latched, unmasked⟩
  · rintro ⟨src, bit, -, latched, unmasked⟩
    exact ⟨src.word, bit, latched, unmasked⟩

/-! ### The positions that the levels drive (R196) -/

theorem getLsbD_wordOfMarks (l : List Bool) {i : Nat} (h : (wordOfMarks l).getLsbD i = true) : i < l.length := by
  induction l generalizing i with
  | nil => simp [wordOfMarks] at h
  | cons b l ih =>
    have step : wordOfMarks (b :: l) = (wordOfMarks l <<< 1) ||| (if b then 1 else 0) := rfl
    cases i with
    | zero => simp
    | succ i =>
      have tail : (wordOfMarks l).getLsbD i = true := by
        rw [step] at h
        cases b <;> simp [BitVec.getLsbD_one] at h <;> exact h.2
      simpa using ih tail

/-- R196: the levels that the blocks drive stand at positions that the table names. -/
theorem State.drivenLevels_named (s : State) (k : Fin 7) {i : Nat} (h : (s.drivenLevels.get k).getLsbD i = true) :
    (levelBits.get k).getLsbD i = true := by
  have named : ∀ (k : Fin 7) (i : Nat), i < #v[8, 8, 4, 4, 4, 4, 1].get k → (levelBits.get k).getLsbD i = true := by
    decide
  refine named k i ?_
  have marks (l : List Bool) (m : Nat) (hl : l.length = m) : (wordOfMarks l).getLsbD i = true → i < m :=
    fun hi => hl ▸ getLsbD_wordOfMarks l hi
  fin_cases k
  all_goals exact marks _ _ (by rfl) h

/-! ### NOTICE MASK, NOTICE EDGE and NOTICE REPORT (R197, R198) -/

theorem maskOf_get (words : List Word) (k : Fin 20) :
    (maskOf words).get k = words.getD k.val 0 &&& positionBits.get k := by
  simp [maskOf, Vector.get_eq_getElem]

theorem edgesOf_get (words : List Word) (k : Fin 7) :
    (edgesOf words).get k = words.getD k.val 0 &&& levelBits.get k := by
  simp [edgesOf, Vector.get_eq_getElem]

/-- R197: with nothing latched ATTN is deasserted. -/
theorem Notices.attn_unlatched (x : Notices) : { x with latched := Vector.replicate 20 0 }.attn = false := by
  rw [Bool.eq_false_iff, ne_eq, Notices.attn_iff]
  rintro ⟨k, unmasked⟩
  exact unmasked (by simp [Vector.get_eq_getElem])

theorem exec_noticeMask {s : State} {words : List Word} (h : Accepts s (.noticeMask words)) :
    exec (.noticeMask words) s = .next (answered (s.setMask words) (.noticeMask words) .ok .empty) := by
  show execNoticeMask words s = _
  exact request_replies _ h

theorem exec_noticeEdge {s : State} {words : List Word} (h : Accepts s (.noticeEdge words)) :
    exec (.noticeEdge words) s = .next (answered (s.setEdges words) (.noticeEdge words) .ok .empty) := by
  show execNoticeEdge words s = _
  exact request_replies _ h

theorem exec_noticeReport {s : State} (h : Accepts s .noticeReport) :
    exec .noticeReport s = .next (answered s.noticeReport.1 .noticeReport .ok
      (.notices s.notices.latched s.notices.mask s.notices.levels)) := by
  show execNoticeReport s = _
  exact request_replies _ h

/-- Settles O6: each request answers with its reply; the report finds the latch cleared. -/
theorem noticeRequestsAnswer : Obligations.NoticeRequestsAnswer := by
  unfold Obligations.NoticeRequestsAnswer
  exact ⟨fun s words taken _ => ⟨s.setMask words, exec_noticeMask taken, rfl, maskOf_get words⟩,
    fun s words taken _ => ⟨s.setEdges words, exec_noticeEdge taken, rfl, edgesOf_get words⟩,
    fun s taken => ⟨s.noticeReport.1, exec_noticeReport taken, rfl, s.notices.attn_unlatched⟩⟩

end Sys2Proof.Machine
end

section
/-! What the Notice Unit makes of a step (R196, R197): `Noticed s t` says that on the way from `s` to `t` no position
has left the latch, every level that has turned is latched, and no bit that names no position has been set. It holds of
every change that leaves the notices alone, of a latched position and of the levels followed. -/

namespace Sys2Proof.Machine

/-- R196: the level of a position has risen, or has fallen where its edge selection is BOTH. -/
def LevelTurns (x y : Notices) (k : Fin 7) (bit : Nat) : Prop :=
  ((x.levels.get k).getLsbD bit = false ∧ (y.levels.get k).getLsbD bit = true) ∨
    ((x.levels.get k).getLsbD bit = true ∧ (y.levels.get k).getLsbD bit = false ∧ (x.edges.get k).getLsbD bit = true)

/-- R196: no position has been taken off the latch. -/
def KeepsLatched (x y : Notices) : Prop :=
  ∀ (k : Fin 20) (bit : Nat), (x.latched.get k).getLsbD bit = true → (y.latched.get k).getLsbD bit = true

/-- R196: each level that has turned is latched. -/
def LatchesTurns (x y : Notices) : Prop :=
  ∀ (k : Fin 7) (bit : Nat), LevelTurns x y k bit → (y.latched.get ⟨13 + k.val, by omega⟩).getLsbD bit = true

/-- R196, R197: the words are legal bit by bit. -/
theorem noticesLegal_iff (s : State) : NoticesLegal s ↔
    (∀ k i, (s.notices.latched.get k).getLsbD i = true → (positionBits.get k).getLsbD i = true) ∧
    (∀ k i, (s.notices.mask.get k).getLsbD i = true → (positionBits.get k).getLsbD i = true) ∧
    (∀ k i, (s.notices.edges.get k).getLsbD i = true → (levelBits.get k).getLsbD i = true) := by
  simp only [← and_not_eq_zero_iff]
  exact ⟨fun ⟨latched, mask, edges⟩ => ⟨latched, mask, edges⟩, fun ⟨latched, mask, edges⟩ => ⟨latched, mask, edges⟩⟩

/-- R196, R197: what the Notice Unit owes to each change of the blocks. -/
structure Noticed (s t : State) : Prop where
  edges : t.notices.edges = s.notices.edges
  kept  : KeepsLatched s.notices t.notices
  turns : LatchesTurns s.notices t.notices
  legal : NoticesLegal s → NoticesLegal t

/-- R196: a position that the table names. -/
abbrev Source.Names (src : Source) (bit : Nat) : Prop := (positionBits.get src.word).getLsbD bit = true

theorem Notices.latch_get (x : Notices) (src : Source) (bit : Nat) (k : Fin 20) : (x.latch src bit).latched.get k =
    if src.word = k then x.latched.get k ||| BitVec.twoPow 16 bit else x.latched.get k := by
  simp only [latch, Vector.get_eq_getElem, Vector.getElem_set, Fin.ext_iff]
  split
  · rename_i e
    simp only [e]
  · rfl

/-- R196: the word of a level source, or that of another source. -/
theorem word_cases (k : Fin 20) : k.val < 13 ∨ ∃ j : Fin 7, k = ⟨13 + j.val, by omega⟩ := by
  rcases Nat.lt_or_ge k.val 13 with low | high
  · exact .inl low
  · exact .inr ⟨⟨k.val - 13, by omega⟩, Fin.ext (by simp only; omega)⟩

theorem positionBits_level (j : Fin 7) : positionBits.get ⟨13 + j.val, by omega⟩ = levelBits.get j := by
  revert j
  decide

theorem edgeLatches_getLsbD (old new edge : Word) (bit : Nat) : (edgeLatches old new edge).getLsbD bit = true ↔
    (old.getLsbD bit = false ∧ new.getLsbD bit = true) ∨
      (old.getLsbD bit = true ∧ new.getLsbD bit = false ∧ edge.getLsbD bit = true) := by
  have within (h : new.getLsbD bit = true ∨ old.getLsbD bit = true) : bit < 16 :=
    h.elim BitVec.lt_of_getLsbD BitVec.lt_of_getLsbD
  simp only [edgeLatches, BitVec.getLsbD_or, BitVec.getLsbD_and, BitVec.getLsbD_not]
  cases hold : old.getLsbD bit <;> cases hnew : new.getLsbD bit <;> simp_all

namespace Noticed

variable {s t u : State} {n : Fin 4}

@[refl] theorem refl (s : State) : Noticed s s where
  edges := rfl
  kept _ _ h := h
  turns k bit h := by
    rcases h with ⟨low, high⟩ | ⟨high, low, -⟩ <;> rw [high] at low <;> cases low
  legal h := h

theorem trans (h : Noticed s u) (h' : Noticed u t) : Noticed s t where
  edges := h'.edges.trans h.edges
  kept k bit on := h'.kept k bit (h.kept k bit on)
  turns k bit turn := by
    cases between : (u.notices.levels.get k).getLsbD bit
    · rcases turn with ⟨-, risen⟩ | ⟨was, -, both⟩
      · exact h'.turns k bit (.inl ⟨between, risen⟩)
      · exact h'.kept _ bit (h.turns k bit (.inr ⟨was, between, both⟩))
    · rcases turn with ⟨was, -⟩ | ⟨-, fallen, both⟩
      · exact h'.kept _ bit (h.turns k bit (.inl ⟨was, between⟩))
      · exact h'.turns k bit (.inr ⟨between, fallen, by rw [h.edges]; exact both⟩)
  legal := h'.legal ∘ h.legal

/-- A change that leaves the notices alone. -/
theorem frame (h : Noticed s u) (stands : t.notices = u.notices) : Noticed s t := by
  refine h.trans ⟨by rw [stands], fun k bit on => by rw [stands]; exact on, fun k bit turn => ?_,
    fun ⟨latched, mask, edges⟩ => ⟨by rwa [stands], by rwa [stands], by rwa [stands]⟩⟩
  rw [stands] at turn ⊢
  exact (refl u).turns k bit turn

/-- R196: a position that the table names is latched. -/
theorem latch (h : Noticed s u) {src : Source} {bit : Nat} (named : src.Names bit) : Noticed s (u.latch src bit) := by
  have kept : KeepsLatched u.notices (u.notices.latch src bit) := fun k i on => by
    rw [Notices.latch_get]
    split
    · rw [BitVec.getLsbD_or, on, Bool.true_or]
    · exact on
  refine h.trans ⟨rfl, kept, fun k i turn => kept _ i ((refl u).turns k i turn), fun legal => ?_⟩
  obtain ⟨latched, mask, edges⟩ := (noticesLegal_iff u).mp legal
  refine (noticesLegal_iff _).mpr ⟨fun k i on => ?_, mask, edges⟩
  have bits : ((u.notices.latch src bit).latched.get k).getLsbD i = true := on
  rw [Notices.latch_get] at bits
  split at bits
  · rename_i e
    rw [BitVec.getLsbD_or, Bool.or_eq_true, BitVec.getLsbD_twoPow] at bits
    rcases bits with old | new
    · exact latched k i old
    · have same : bit = i := by simpa using (Bool.and_eq_true_iff.mp new).2
      rw [← e, ← same]
      exact named
  · exact latched k i bits

/-- R196: a position of the lane itself, or of the unit itself, is latched. -/
theorem latchAt {m : Nat} (h : Noticed s u) {src : Source} (k : Fin m)
    (named : ∀ k : Fin m, src.Names k.val := by decide) : Noticed s (u.latch src k.val) := h.latch (named k)

/-- R196: new levels, at positions that the table names, are taken and their edges latched. -/
theorem takeLevels (h : Noticed s u) {new : Vector Word 7}
    (named : ∀ k i, (new.get k).getLsbD i = true → (levelBits.get k).getLsbD i = true) :
    Noticed s { u with notices := u.notices.takeLevels new } := by
  have low {k : Fin 20} (hk : k.val < 13) := u.notices.takeLevels_latched_low new hk
  have level := u.notices.takeLevels_latched_level new
  have levels : (u.notices.takeLevels new).levels = new := by simp only [Notices.takeLevels]
  have mask : (u.notices.takeLevels new).mask = u.notices.mask := by simp only [Notices.takeLevels]
  have edges : (u.notices.takeLevels new).edges = u.notices.edges := by simp only [Notices.takeLevels]
  generalize u.notices.takeLevels new = y at *
  refine h.trans ⟨edges, fun k i on => ?_, fun k i turn => ?_, fun legal => ?_⟩
  · rcases word_cases k with hk | ⟨j, rfl⟩
    · rw [low hk]
      exact on
    · rw [level, BitVec.getLsbD_or, on, Bool.true_or]
  · rw [LevelTurns, levels] at turn
    rw [level, BitVec.getLsbD_or, (edgeLatches_getLsbD _ _ _ i).mpr turn, Bool.or_true]
  · obtain ⟨latchLegal, maskLegal, edgesLegal⟩ := (noticesLegal_iff u).mp legal
    refine (noticesLegal_iff _).mpr ⟨fun k i on => ?_, by rwa [mask], by rwa [edges]⟩
    rcases word_cases k with hk | ⟨j, rfl⟩
    · rw [low hk] at on
      exact latchLegal k i on
    · rw [level, BitVec.getLsbD_or, Bool.or_eq_true, edgeLatches_getLsbD] at on
      rcases on with old | ⟨-, risen⟩ | ⟨-, -, both⟩
      · exact latchLegal _ i old
      · rw [positionBits_level]
        exact named j i risen
      · rw [positionBits_level]
        exact edgesLegal j i both

theorem followLevels (h : Noticed s u) : Noticed s u.followLevels := h.takeLevels u.drivenLevels_named

end Noticed

end Sys2Proof.Machine
end

section
/-! The notices of the operations on records, lanes, captures and binds (R196): those that leave the notices alone, and
those that latch a position or have the levels followed. -/

namespace Sys2Proof.Machine

/-! ### Operations that leave the notices alone -/

namespace State

variable (s : State) (n : Fin 4)

@[simp] theorem addLive_notices (v : Visit) (d : Int) : (s.addLive v d).notices = s.notices := by
  have vehicle : (s.addVehicleLive v.vehicle d).notices = s.notices := by
    unfold addVehicleLive
    split <;> rfl
  unfold addLive addPermitLive
  dsimp only
  split
  · exact vehicle
  · split <;> exact vehicle

@[simp] theorem addReserved_notices (k : Nat) (kg : Int) : (s.addReserved k kg).notices = s.notices := by
  unfold addReserved
  split <;> rfl

@[simp] theorem debitPermit_notices (k : Nat) (net r : Int) : (s.debitPermit k net r).notices = s.notices := by
  unfold debitPermit
  split <;> rfl

@[simp] theorem refreshTare_notices (v : Visit) : (s.refreshTare v).notices = s.notices := by
  unfold refreshTare
  split
  · split <;> rfl
  · rfl

@[simp] theorem removeVisit_notices (k : Nat) (v : Visit) : (s.removeVisit k v).notices = s.notices :=
  addLive_notices _ v _

@[simp] theorem endTracking_notices (ticket : Option Nat) : (s.endTracking ticket).notices = s.notices := by
  unfold endTracking
  split
  · rfl
  · refine forLanes_keeps (fun u => u.notices = s.notices) (fun m u same => ?_) rfl
    dsimp only
    split <;> exact same

@[simp] theorem endReleasing_notices : (s.endReleasing n).notices = s.notices := by
  unfold endReleasing
  split <;> rfl

@[simp] theorem reportEligible_notices : (s.reportEligible n).notices = s.notices := by
  unfold reportEligible
  split <;> rfl

@[simp] theorem addLater_notices (k : Nat) (v : Visit) (r : HoldReason) : (s.addLater k v r).notices = s.notices := by
  unfold addLater
  split <;> simp

@[simp] theorem captureImage_notices (r : LaneReport) : (s.captureImage n r).notices = s.notices := by
  unfold captureImage
  split <;> rfl

@[simp] theorem admissionClaims_notices (c : Candidate) : (s.admissionClaims c).notices = s.notices := by
  have counted : (if c.isNew then s.addLive c.record 1 else s).notices = s.notices := by split <;> simp
  unfold admissionClaims
  dsimp only
  split <;> simp [counted]

@[simp] theorem restoreTo_notices (k : Nat) (v : Visit) (st : VisitState) :
    (s.restoreTo k v st).notices = s.notices := by
  unfold restoreTo
  dsimp only
  split <;> simp

end State

/-- R169: VISIT_HELD names the lane of a record, or the yard. -/
theorem names_heldBit (v : Visit) : Source.visitHeld.Names (State.heldBit v) := by
  have lanes : ∀ n : Fin 4, Source.visitHeld.Names n.val := by decide
  unfold State.heldBit
  split
  · exact lanes _
  · decide

namespace Noticed

variable {s t u : State} {n : Fin 4}

theorem setLane (h : Noticed s u) {l : Lane} : Noticed s (u.setLane n l) := h.frame rfl
theorem setBarrier (h : Noticed s u) {b : Barrier} : Noticed s (u.setBarrier n b) := h.frame rfl
theorem setDeck (h : Noticed s u) {d : Deck} : Noticed s (u.setDeck n d) := h.frame rfl
theorem setEngine (h : Noticed s u) {e : Engine} : Noticed s (u.setEngine n e) := h.frame rfl
theorem setUnit (h : Noticed s u) {k : Fin 8} {r : UnitRec} : Noticed s (u.setUnit k r) := h.frame rfl
theorem setLoop (h : Noticed s u) {l : Loop} : Noticed s { u with loop := l } := h.frame rfl
theorem setVisit (h : Noticed s u) {k : Nat} {v : Visit} : Noticed s (u.setVisit k v) := h.frame rfl
theorem revise (h : Noticed s u) {k : Nat} {v : Visit} : Noticed s ((u.setVisit k v).touch k) := h.frame (by simp)

theorem setDetector (h : Noticed s u) {k : DetectorKind} {d : Detector} : Noticed s (u.setDetector n k d) := by
  cases k <;> exact h.frame rfl

theorem recordOutcome (h : Noticed s u) {o : LastOutcome} : Noticed s (u.recordOutcome n o) := h.setEngine.latchAt n

theorem forLanes (f : Fin 4 → State → State) (h : ∀ n u, Noticed s u → Noticed s (f n u)) (hu : Noticed s u) :
    Noticed s (Machine.forLanes f u) := forLanes_keeps (Noticed s) h hu

theorem forUnits (f : Fin 8 → State → State) (h : ∀ k u, Noticed s u → Noticed s (f k u)) (hu : Noticed s u) :
    Noticed s (Machine.forUnits f u) := forUnits_keeps (Noticed s) h hu

/-! ### Holds and passages (R62, R63, R169, R173) -/

theorem enterReleasing (h : Noticed s u) {held : Option Nat} : Noticed s (u.enterReleasing n held) :=
  h.setLane.setBarrier.setBarrier.followLevels.frame (State.endReleasing_notices _ n)

theorem holdClaim (h : Noticed s u) {k : Nat} {r : HoldReason} : Noticed s (u.holdClaim k r) := by
  unfold State.holdClaim
  split
  · exact h
  · split
    · exact h.frame (by simp)
    · exact (h.revise.latch (names_heldBit _)).followLevels

theorem holdBound (h : Noticed s u) {r : HoldReason} : Noticed s (u.holdBound n r) := by
  unfold State.holdBound
  split
  · exact h
  · exact h.holdClaim

theorem holdToReleasing (h : Noticed s u) {r : HoldReason} : Noticed s (u.holdToReleasing n r) := by
  unfold State.holdToReleasing
  split
  · exact h
  · exact h.holdBound.enterReleasing

theorem passage (h : Noticed s u) {k : Nat} {v : Visit} : Noticed s (u.passage n k v) := by
  unfold State.passage
  split
  · exact h
  · rename_i v' d _
    have passed : Noticed s ((((u.setVisit k v').addOccupancy d).touch k).latch .passed n.val) :=
      (h.frame (by simp)).latchAt n
    dsimp only
    split
    · exact (passed.frame (State.complete_notices _ k)).followLevels
    · exact passed.followLevels

theorem creditPassage (h : Noticed s u) {ticket : Nat} : Noticed s (u.creditPassage n ticket) := by
  unfold State.creditPassage
  split
  · exact h
  · split
    · exact Noticed.followLevels ((h.frame (by simp)).latchAt n)
    · exact h

/-! ### Captures and clearance (R21, R22, R62, R111, R126) -/

theorem clearance (h : Noticed s u) {k : Nat} : Noticed s (u.clearance n k) := by
  unfold State.clearance
  split
  · exact h
  · dsimp only
    split
    · exact holdToReleasing (h.frame (by rfl))
    · refine Noticed.frame (Noticed.latchAt (h.frame ?_) n) (State.reportEligible_notices _ n)
      split <;> simp

theorem weighingArrives (h : Noticed s u) {ticket : Nat} {w : Weighing} :
    Noticed s (u.weighingArrives n ticket w) := by
  have effect {x : State} (hx : Noticed s x) (k : Nat) : Noticed s (x.entryEffect n k w.role) := by
    unfold State.entryEffect
    split
    · exact hx.frame (by simp)
    · exact hx.frame (by simp)
    · exact hx.clearance
    · exact hx
  unfold State.weighingArrives
  split
  · exact h
  · split
    · exact h
    · split
      · split
        · exact effect h.revise _
        · exact h.revise
      · exact h.revise

theorem countFailure (h : Noticed s u) : Noticed s (u.countFailure n) := by
  unfold State.countFailure
  dsimp only
  split
  · exact h.setEngine.holdToReleasing
  · exact h.setEngine

theorem settleGathered (h : Noticed s u) {c : Capture} {p : Bool} {g : Gathered} :
    Noticed s (u.settleGathered n c p g) := by
  unfold State.settleGathered
  dsimp only
  split
  · exact h.setEngine.weighingArrives.recordOutcome
  · exact h.setEngine.setLane.recordOutcome

theorem settleFailed (h : Noticed s u) {c : Capture} {r : FailReason} : Noticed s (u.settleFailed n c r) := by
  unfold State.settleFailed
  dsimp only
  split
  · exact h.setEngine.countFailure.recordOutcome
  · exact h.setEngine.setLane.recordOutcome

theorem abortCapture (h : Noticed s u) : Noticed s (u.abortCapture n) := by
  unfold State.abortCapture
  split
  · exact h
  · split
    · exact h.settleGathered
    · split
      · exact h.setEngine
      · exact h.settleFailed

theorem truncateCapture (h : Noticed s u) : Noticed s (u.truncateCapture n) := by
  unfold State.truncateCapture
  split
  · exact h
  · split
    · exact h.settleGathered
    · exact h.setEngine

theorem holdAndAbort (h : Noticed s u) {r : HoldReason} : Noticed s (u.holdAndAbort n r) := h.holdBound.abortCapture

theorem endBurst (h : Noticed s u) {c : Capture} : Noticed s (u.endBurst n c) := by
  unfold State.endBurst
  split
  · exact h.settleFailed
  · exact h.settleGathered

theorem judgeBurst (h : Noticed s u) {c : Capture} : Noticed s (u.judgeBurst n c) := by
  unfold State.judgeBurst
  split
  · exact h.setEngine.endBurst
  · exact h.setEngine

theorem axleReading (h : Noticed s u) {c : Capture} {st : DeckState} {kg : Int} {b : Bool} :
    Noticed s (u.axleReading n c st kg b) := by
  unfold State.axleReading
  split
  · split
    · exact h.endBurst
    · exact h
  · exact h.setEngine
  · exact h.judgeBurst
  · exact h.judgeBurst
  · exact h.judgeBurst
  · exact h.setEngine
  · exact h

theorem captureReading (h : Noticed s u) {st : DeckState} {kg : Int} {b : Bool} :
    Noticed s (u.captureReading n st kg b) := by
  unfold State.captureReading
  split
  · exact h
  · split
    · exact h.settleFailed
    · exact h.settleFailed
    all_goals
      split
      · exact h.axleReading
      · split
        · exact h.settleGathered
        · exact h

theorem startCapture (h : Noticed s u) {p : Purpose} {b : Option Burst} : Noticed s (u.startCapture n p b) := by
  unfold State.startCapture
  dsimp only
  split
  · exact h.setEngine.settleFailed
  · exact h.setEngine.settleFailed
  all_goals exact h.setEngine.frame (State.captureImage_notices _ n _)

theorem startVisitCapture (h : Noticed s u) {b : Option Burst} : Noticed s (u.startVisitCapture n b) := by
  unfold State.startVisitCapture
  split
  · exact h
  · split
    · exact h.startCapture
    · exact h

/-! ### Samples (R97, R99, R104) -/

theorem trackIfDue (h : Noticed s u) {p : DeckParams} {raw : Nat} {kg : Int} :
    Noticed s (u.trackIfDue n p raw kg) := by
  unfold State.trackIfDue State.trackZero
  dsimp only
  split
  · split
    · exact h.setDeck.latchAt n
    · exact h.setDeck
  · exact h

theorem takeSample (h : Noticed s u) {p : DeckParams} {raw : Nat} {o : Bool} {f : Nat} :
    Noticed s (u.takeSample n p raw o f) := by
  unfold State.takeSample
  dsimp only
  split
  · exact h.setDeck.followLevels.captureReading
  · exact h.setDeck.trackIfDue.followLevels.captureReading

theorem enterNoData (h : Noticed s u) : Noticed s (u.enterNoData n) := by
  unfold State.enterNoData
  dsimp only
  split
  · exact h.setDeck
  · exact h.setDeck.followLevels.captureReading

/-! ### Binds and the tag buffer (R10, R11, R18, R53, R56) -/

theorem grantAdmission (h : Noticed s u) {c : Candidate} : Noticed s (u.grantAdmission n c) :=
  Noticed.followLevels (Noticed.frame (Noticed.latchAt (h.frame (by simp)) n) rfl)

theorem bindRecord (h : Noticed s u) {k : Nat} {v : Visit} {st : VisitState} {e : Bool} :
    Noticed s (u.bindRecord n k v st e) := Noticed.followLevels (h.revise.frame rfl)

theorem bindExit (h : Noticed s u) {k : Nat} {v : Visit} : Noticed s (u.bindExit n k v) := by
  unfold State.bindExit
  split
  · exact h.bindRecord
  · dsimp only
    split
    · exact h.bindRecord.holdToReleasing
    · split
      · exact h.bindRecord
      · exact h.bindRecord.setVisit.clearance

theorem bindClaim (h : Noticed s u) {found : Option (Nat × Visit)} (ht : u.bindClaim n found = .ok t) :
    Noticed s t := by
  unfold State.bindClaim at ht
  split at ht
  · cases ht
  · cases ht
  · split at ht
    · cases ht
      exact h.bindRecord
    · cases ht
      exact h.bindExit
    · split at ht <;> cases ht
      exact h.bindRecord
    · cases ht

theorem tagClaim (h : Noticed s u) {tag : Tag} (ht : u.tagClaim n tag = .ok t) : Noticed s t := by
  unfold State.tagClaim at ht
  split at ht
  · split at ht <;> cases ht
    exact h.grantAdmission
  all_goals exact h.bindClaim ht

theorem refuseAtLane (h : Noticed s u) {st : Status} {tag : Tag} : Noticed s (u.refuseAtLane n st tag) :=
  h.setLane.latchAt n

theorem tryRounds (h : Noticed s u) (k : Nat) : Noticed s (State.tryRounds k n u) := by
  induction k generalizing u with
  | zero => exact h
  | succ k ih =>
    have dropped : Noticed s (u.dropFront n) := h.setLane
    unfold State.tryRounds
    split
    · exact h
    · split
      · exact ih dropped
      · split
        · rename_i t ht
          split
          · exact ih (dropped.tagClaim ht)
          · exact dropped.tagClaim ht
        · split
          · exact h
          · exact ih dropped.refuseAtLane

theorem makeTry (h : Noticed s u) : Noticed s (u.makeTry n) := by
  unfold State.makeTry
  split
  · exact h.tryRounds _
  · exact h

theorem tryBuffer (h : Noticed s u) : Noticed s (u.tryBuffer n) := by
  unfold State.tryBuffer
  split
  · exact h.makeTry
  · exact h

/-! ### Host claims met within another step (R57) -/

theorem admitReply (h : Noticed s u) {lane : Nat} {name : AdmitName} : Noticed s (u.admitReply lane name).1 := by
  refine inRange_fst (Noticed s) h fun _ => onLane_fst (Noticed s) h fun n _ => ?_
  unfold State.admitAt
  split
  · exact h
  · split
    · unfold State.refuseAdmit
      split
      · exact h
      · split
        · exact h.refuseAtLane
        · exact h.refuseAtLane.frame rfl
    · exact h.grantAdmission

theorem callReply (h : Noticed s u) {lane ticket : Nat} : Noticed s (u.callReply lane ticket).1 := by
  refine inRange_fst (Noticed s) h fun _ => onLane_fst (Noticed s) h fun n _ => ?_
  unfold State.callAt
  split
  · exact h
  · split
    · exact h
    · rename_i ht
      exact (h.bindClaim ht).tryBuffer

theorem rebind (h : Noticed s u) {k : Nat} {v : Visit} {st : VisitState} {lane : Option (Fin 4)} :
    Noticed s (u.rebind k v st lane).1 := by
  unfold State.rebind
  split
  · exact h
  · split
    · exact h
    · split
      · exact h
      · split
        · exact h
        · exact bindRecord (h.frame (State.endTracking_notices u v.ticket))

theorem releaseReply (h : Noticed s u) {name : RecordName} {lane : Option Nat} :
    Noticed s (u.releaseReply name lane).1 := by
  refine inRange_fst (Noticed s) h fun _ => onRecord_fst (Noticed s) h fun k v _ => ?_
  have restored {st : VisitState} : Noticed s (u.restoreTo k v st).done.1 := h.frame (u.restoreTo_notices k v st)
  unfold State.releaseVisit
  split
  · split
    · exact h
    · exact restored
  · exact restored
  · split
    · exact h.rebind
    · exact restored
  · exact h.rebind
  · exact h.rebind
  · exact h.rebind
  · exact h

theorem takeHandedClaim (h : Noticed s u) (ht : u.takeHandedClaim n = some t) : Noticed s t := by
  have claimed {c : Instr} {r : Reply} (hr : u.claimReply n c = some r) : Noticed s r.1 := by
    unfold State.claimReply at hr
    split at hr
    · split at hr <;> cases hr
      exact h.admitReply
    · split at hr <;> cases hr
      exact h.callReply
    · split at hr <;> cases hr
      exact h.releaseReply
    · cases hr
  unfold State.takeHandedClaim at ht
  split at ht
  · split at ht
    · cases ht
    · obtain ⟨r, hr, rfl⟩ := Option.map_eq_some_iff.mp ht
      exact (claimed hr).frame rfl
  · cases ht

theorem tryOnIdle (h : Noticed s u) {before : State} : Noticed s (u.tryOnIdle n before) := by
  have met : Noticed s (u.meetClaim n) := by
    rcases u.meetClaim_cases n with e | e | ⟨t, ht, e⟩ <;> rw [e]
    · exact h
    · exact h.frame rfl
    · exact (h.takeHandedClaim ht).frame rfl
  unfold State.tryOnIdle
  split
  · exact met.makeTry
  · exact h

/-! ### Faults and maintenance (R66, R68, R70, R81) -/

theorem enterFault (h : Noticed s u) : Noticed s (u.enterFault n) := h.setLane.setBarrier.setBarrier.followLevels

theorem faultLane (h : Noticed s u) {r : HoldReason} : Noticed s (u.faultLane n r) := by
  unfold State.faultLane
  split
  · exact h
  · exact h
  all_goals exact h.holdAndAbort.enterFault

theorem barrierFaultAtLane (h : Noticed s u) : Noticed s (u.barrierFaultAtLane n) := by
  unfold State.barrierFaultAtLane
  split
  · exact h
  · exact h.faultLane

theorem failBarrier (h : Noticed s u) : Noticed s (u.failBarrier n) := by
  unfold State.failBarrier
  split
  · exact h
  · exact h.setBarrier.barrierFaultAtLane

theorem startMaintenance (h : Noticed s u) : Noticed s (u.startMaintenance n) :=
  h.holdAndAbort.setLane.setBarrier.followLevels

theorem endMaintenance (h : Noticed s u) : Noticed s (u.endMaintenance n) := by
  unfold State.endMaintenance
  dsimp only
  split
  · exact h.abortCapture.enterFault
  · exact h.abortCapture.enterReleasing.tryOnIdle

theorem reportDown (h : Noticed s u) {k : Fin 8} {r : HoldReason} : Noticed s (u.reportDown k r) := by
  unfold State.reportDown
  split
  · exact h.faultLane
  · exact h.enterNoData

theorem tryServed (h : Noticed s u) {k : Fin 8} {before : State} : Noticed s (u.tryServed k before) := by
  unfold State.tryServed
  split <;> exact h.tryOnIdle

theorem meetReading (h : Noticed s u) : Noticed s (u.meetReading n) := by
  have taken {t : State} (ht : u.takeWaitingSample n = some t) : Noticed s t := by
    unfold State.takeWaitingSample at ht
    split at ht
    · split at ht <;> cases ht
      exact takeSample (h.frame (by rfl))
    · cases ht
  unfold State.meetReading
  split
  · exact h
  · rename_i t ht
    split
    · split
      · exact (taken ht).frame rfl
      · exact h.frame rfl
    · exact h

end Noticed

end Sys2Proof.Machine
end

section
/-! What the Notice Unit makes of every command but those that set its words or its levels themselves (R196, R197). -/

namespace Sys2Proof.Machine

/-! ### Requests and steps that leave the notices alone -/

namespace State

variable (s : State) (n : Fin 4)

@[simp] theorem bookVisit_notices (tag : Tag) (k : VisitKind) (p : Option Nat) (b : Bool) (d : Nat) :
    (s.bookVisit tag k p b d).1.notices = s.notices := by
  unfold bookVisit
  split
  · rfl
  · split
    · rfl
    · split
      · rfl
      · split
        · rfl
        · simp

@[simp] theorem amendVisit_notices (k : Nat) (v : Visit) (b : Bool) (d : Nat) :
    (s.amendVisit k v b d).1.notices = s.notices := by
  unfold amendVisit
  split <;> simp [done, refuse]

@[simp] theorem voidRecord_notices (k : Nat) (v : Visit) : (s.voidRecord k v).1.notices = s.notices := by
  unfold voidRecord
  split
  · simp [done]
  · split
    · unfold voidLive
      dsimp only [done]
      split <;> split <;> simp
    · rfl

@[simp] theorem retireVisit_notices (k : Nat) (v : Visit) : (s.retireVisit k v).1.notices = s.notices := by
  unfold retireVisit
  split
  · simp
  · rfl

@[simp] theorem declareTip_notices (k : Nat) (v : Visit) (c : Nat) : (s.declareTip k v c).1.notices = s.notices := by
  unfold declareTip
  dsimp only
  split_ifs <;> simp [done, refuse]

theorem putPermit_notices (k : Nat) (a : BitVec 32) (p e : Nat) : (s.putPermit k a p e).1.notices = s.notices := by
  unfold putPermit
  split
  · rfl
  · split <;> rfl

theorem adjustPermit_notices (k : Nat) (kg : Int) : (s.adjustPermit k kg).1.notices = s.notices := by
  unfold adjustPermit
  split
  · rfl
  · split <;> rfl

theorem markPermit_notices (k : Nat) (st : PermitState) : (s.markPermit k st).1.notices = s.notices := by
  unfold markPermit
  split
  · rfl
  · split <;> rfl

theorem dropPermit_notices (k : Nat) : (s.dropPermit k).1.notices = s.notices := by
  unfold dropPermit
  split
  · rfl
  · split <;> rfl

theorem putVehicle_notices (v : Vehicle) (x : TareParam) : (s.putVehicle v x).1.notices = s.notices := by
  unfold putVehicle
  split
  · dsimp only
    split <;> rfl
  · dsimp only
    split
    · rfl
    · split <;> rfl

theorem dropVehicle_notices (tag : Tag) : (s.dropVehicle tag).1.notices = s.notices := by
  unfold dropVehicle
  split
  · rfl
  · split <;> rfl

theorem tareStore_notices (v : Visit) (k d : Nat) : (s.tareStore v k d).1.notices = s.notices := by
  have stored (y : Tare) : (s.storeTare v y).notices = s.notices := by
    unfold storeTare
    split <;> rfl
  unfold tareStore
  split
  · rfl
  · split
    · exact stored _
    · rfl

theorem readSetting_notices (code : Byte) (word source : Nat) :
    (s.readSetting code word source).notices = s.notices := by
  unfold readSetting
  split
  · unfold readActive
    split <;> rfl
  · unfold readStore
    split
    · rfl
    · split <;> rfl
  · rfl

theorem writeSetting_notices (word value : Nat) : (s.writeSetting word value).1.notices = s.notices := by
  unfold writeSetting
  split_ifs <;> rfl

theorem workBarrier_notices (o : BarrierOrder) : (s.workBarrier n o).1.notices = s.notices := by
  unfold workBarrier
  split <;> rfl

theorem zeroAt_notices : (s.zeroAt n).1.notices = s.notices := by
  unfold zeroAt
  split
  · rfl
  · rfl
  · split_ifs <;> rfl

@[simp] theorem autoStartLoop_notices : s.autoStartLoop.notices = s.notices := by
  unfold autoStartLoop
  split <;> rfl

theorem loopStart_notices : s.loopStart.1.notices = s.notices := by
  unfold loopStart
  split <;> rfl

theorem loopPause_notices : s.loopPause.1.notices = s.notices := by
  unfold loopPause
  split_ifs <;> rfl

theorem loopResume_notices : s.loopResume.1.notices = s.notices := by
  unfold loopResume
  split
  · show s.callOffPause.notices = s.notices
    unfold callOffPause
    split <;> rfl
  · split <;> rfl
  · rfl
  · rfl

theorem loopStop_notices : s.loopStop.1.notices = s.notices := by
  unfold loopStop
  split_ifs <;> rfl

theorem unitAddress_notices (k : Fin 8) (a : Nat) : (s.unitAddress k a).1.notices = s.notices := by
  unfold unitAddress
  split_ifs <;> rfl

theorem loopStatus_notices : s.loopStatus.1.notices = s.notices := by
  unfold loopStatus
  split_ifs <;> rfl

theorem autoSwitch_notices (k : Fin 8) (on : Nat) : (s.autoSwitch k on).1.notices = s.notices := by
  unfold autoSwitch
  split
  · rfl
  · split <;> rfl

theorem endTransaction_notices (x : Sending) (sent : List Byte) (calEn : Bool) :
    (s.endTransaction x sent calEn).notices = s.notices := by
  have judged (y : State) (k : Byte) (rest : List Byte) : (y.judgeSent k rest calEn).notices = y.notices := by
    have spent : (y.spendFrameCode rest).notices = y.notices := by
      unfold spendFrameCode
      split <;> rfl
    unfold judgeSent
    dsimp only
    split
    · exact spent
    · exact spent
    · split <;> exact spent
  have read : ({ s with calEn := calEn }.judgeRead x sent).notices = s.notices := by
    unfold judgeRead
    split <;> rfl
  unfold endTransaction judgeBytes
  split
  · exact read
  · split
    · exact read
    · exact (judged _ _ _).trans read

end State

namespace Noticed

variable {s t u : State} {n : Fin 4}

/-! ### Requests (R52, R64, R65, R68, R70, R114, R123, R148, R170) -/

theorem holdVisit (h : Noticed s u) {k : Nat} {v : Visit} : Noticed s (u.holdVisit k v).1 := by
  unfold State.holdVisit
  split
  · split
    · exact h
    · exact h.holdClaim
  · exact h.holdClaim
  · exact h.holdClaim
  all_goals exact h

theorem setMode (h : Noticed s u) {m : LaneMode} {a w x c : Bool} : Noticed s (u.setMode n m a w x c).1 := by
  have opened {y : State} (hy : Noticed s y) : Noticed s (y.openLane n) := by
    unfold State.openLane
    split
    · exact hy.enterFault
    · exact hy.setLane
  have written : Noticed s (u.writeMode n m a w x c) := h.frame rfl
  unfold State.setMode
  split
  · show Noticed s ((u.writeMode n m a w x c).moveByMode n)
    unfold State.moveByMode
    split
    · exact written.setLane.setBarrier
    · exact opened written
    · exact opened written
    · exact opened written
    · exact written
  · exact h

theorem releaseLane (h : Noticed s u) : Noticed s (u.releaseLane n).1 := by
  have met : Noticed s (u.meetReading n) := h.meetReading
  have held (before : State) : Noticed s (((u.meetReading n).releaseHeld n).tryOnIdle n before) :=
    met.holdAndAbort.enterReleasing.tryOnIdle
  unfold State.releaseLane State.releaseClaim
  split
  · exact held _
  · exact held _
  · exact held _
  · split
    · exact met.revise.abortCapture.enterReleasing.tryOnIdle
    · split
      · exact met
      · exact held _

theorem resetLane (h : Noticed s u) : Noticed s (u.resetLane n) := by
  have move {x : State} (hx : Noticed s x) (before : Lane) : Noticed s (x.resetMove n before) := by
    unfold State.resetMove
    split
    · split
      · exact hx
      · exact hx.enterFault
    · exact hx.enterReleasing
  have cleared : Noticed s (((u.meetReading n).holdAndAbort n .laneReset).resetBarrier n) :=
    h.meetReading.holdAndAbort.setBarrier.setBarrier
  exact (move cleared _).setLane

theorem maintainOn (h : Noticed s u) : Noticed s (u.maintainOn n).1 := by
  unfold State.maintainOn
  split
  · exact h
  · exact h
  · exact h
  all_goals exact h.meetReading.startMaintenance

theorem maintainOff (h : Noticed s u) : Noticed s (u.maintainOff n).1 := by
  unfold State.maintainOff
  split
  · exact h.endMaintenance
  · exact h

theorem captureAt (h : Noticed s u) {b : Option Burst} : Noticed s (u.captureAt n b).1 := by
  unfold State.captureAt
  split
  · exact h
  · split
    · split
      · exact h
      · exact h.setLane
    · split
      · exact h
      · exact h.truncateCapture.startVisitCapture.tryOnIdle
    · exact h.truncateCapture.startCapture
    all_goals exact h

theorem terminateAt (h : Noticed s u) : Noticed s (u.terminateAt n).1 := by
  have ended (c : Capture) : Noticed s (u.endByRequest n c) := by
    unfold State.endByRequest
    split
    · exact h.settleFailed
    · exact h.settleGathered
  unfold State.terminateAt
  split
  · exact (ended _).tryOnIdle
  · split
    · exact h.setLane
    · exact h

theorem judgeOwnership (h : Noticed s u) : Noticed s u.judgeOwnership :=
  (h.forUnits _ fun _ _ hx => hx.setUnit).followLevels

theorem slotSet (h : Noticed s u) {k : Nat} {es : List Byte} : Noticed s (u.slotSet k es).1 := by
  unfold State.slotSet
  split
  · exact h
  · split
    · exact h
    · split
      · exact h
      · exact judgeOwnership (h.frame (by rfl))

/-! ### The clock, the store and the frame end (R17, R145, R161, R163, R183) -/

/-- R17: the bookings that lapse leave one after the other. -/
theorem changeDay (h : Noticed s u) : Noticed s u.changeDay := by
  have lapsed {y : State} (hy : Noticed s y) : Noticed s y.lapseBookings := by
    have gone : Noticed s (y.lapsing.foldl (fun x e => x.removeVisit e.1 e.2) y) :=
      foldl_keeps (Noticed s) (fun e x hx => hx.frame (x.removeVisit_notices e.1 e.2)) _ _ hy
    unfold State.lapseBookings
    dsimp only
    split
    · exact gone
    · exact gone.latch (by decide)
  unfold State.changeDay
  split
  · exact (lapsed (h.frame (by rfl))).frame rfl
  · exact h.frame rfl

theorem clockSecond (h : Noticed s u) : Noticed s u.clockSecond := by
  unfold State.clockSecond
  split
  · exact h.changeDay
  · split
    · unfold State.nextSecond
      split <;> exact h.frame rfl
    · exact h

theorem finishWrite (h : Noticed s u) {x : StoreWrite} {readBack : Option Word} :
    Noticed s (u.finishWrite x readBack) := (h.frame (by rfl)).latch (by decide)

theorem tickUnits (h : Noticed s u) : Noticed s (Machine.forUnits State.tickUnit u) :=
  h.forUnits _ fun k x hx => by
    unfold State.tickUnit
    split
    · exact hx.setUnit.latchAt k
    · exact hx

theorem publish (h : Noticed s u) : Noticed s u.publish := by
  have counted (statuses : List SlotStatus) (k : Fin 8) (x : State) (hx : Noticed s x) :
      Noticed s (x.unitFrameEnd statuses k) := by
    unfold State.unitFrameEnd
    dsimp only
    split
    · exact hx
    · split
      · exact hx.setUnit.latchAt k
      · exact hx.setUnit
  have ended {y : State} (hy : Noticed s y) : Noticed s y.blocksFrameEnd := hy.frame rfl
  exact (ended (h.setLoop.forUnits _ (counted _))).latch (by decide)

theorem markerSlot (h : Noticed s u) {bs : List BitSamples} : Noticed s (u.markerSlot bs) := by
  unfold State.markerSlot
  split
  · exact h.frame rfl
  · exact h.publish.frame rfl

/-! ### Messages (R55, R61, R75 to R88, R94, R158) -/

theorem judgeBarrier (h : Noticed s u) : Noticed s (u.judgeBarrier n) := by
  unfold State.judgeBarrier
  dsimp only
  split
  · exact h.setBarrier
  · split
    · exact h.setBarrier.barrierFaultAtLane
    · exact h.setBarrier.frame (State.endReleasing_notices _ n)
    all_goals exact h.setBarrier

theorem completePassage (h : Noticed s u) : Noticed s (u.completePassage n) := by
  unfold State.completePassage
  split
  · exact h.enterReleasing
  · exact h.passage.enterReleasing

theorem completeUnattended (h : Noticed s u) : Noticed s (u.completeUnattended n) := by
  unfold State.completeUnattended
  split
  · exact h.setBarrier.setLane
  · exact h.creditPassage.setBarrier.setLane

theorem trackPassage (h : Noticed s u) : Noticed s (u.trackPassage n) := by
  unfold State.trackPassage
  dsimp only
  split
  · exact h.setBarrier
  · split
    · exact h.setBarrier.completePassage
    · exact h.setBarrier
  · split
    · exact h.setBarrier.completeUnattended
    · exact h.setBarrier

theorem takeImage (h : Noticed s u) {r : LaneReport} {f : Nat} : Noticed s (u.takeImage n r f) := by
  have seen : Noticed s (u.seeCode n r.code) := by
    unfold State.seeCode
    split
    · exact h
    · exact h.setDetector
    · exact h.setDetector
  have imaged {x : State} (hx : Noticed s x) : Noticed s (x.captureImage n r) :=
    hx.frame (x.captureImage_notices n r)
  exact (imaged seen.setBarrier).judgeBarrier.trackPassage.setBarrier.tryOnIdle

theorem readTag (h : Noticed s u) {tag : Tag} {f : Nat} : Noticed s (u.readTag n tag f) := by
  unfold State.readTag
  split
  · exact h
  · split
    · exact h.setLane
    · split
      · exact h.setLane.tryBuffer
      · exact h.latchAt n

theorem takeAlarm (h : Noticed s u) {k : Fin 8} {code : AlarmCode} : Noticed s (u.takeAlarm k code) := by
  have alarmed : Noticed s (u.setUnit k (State.alarmed (u.unit k) code)).followLevels := h.setUnit.followLevels
  have claims {x : State} (hx : Noticed s x) {j : Fin 8} {e : Bool} : Noticed s (x.alarmClaim j e) := by
    unfold State.alarmClaim
    split
    · exact hx.reportDown
    · exact hx
  have drawn {x : State} (hx : Noticed s x) : Noticed s { x with free := x.free + 1 } := hx.frame rfl
  unfold State.takeAlarm
  dsimp only
  split
  · split
    · unfold State.armClaims
      dsimp only
      split
      · exact claims (drawn alarmed).failBarrier
      · exact (claims (drawn alarmed)).failBarrier
    · exact claims alarmed
  · exact (claims alarmed).tryOnIdle

theorem takeDeckSample (h : Noticed s u) {raw : Nat} {o : Bool} {f : Nat} :
    Noticed s (u.takeDeckSample n raw o f) := by
  unfold State.takeDeckSample
  split
  · exact h
  · split
    · exact h
    · exact h.takeSample.tryOnIdle

/-! ### Expiries and entries (R58, R78, R84, R121, R157, R159, R165, R166) -/

theorem endSettling (h : Noticed s u) : Noticed s (u.endSettling n) := by
  have bound : Noticed s (u.enterBound n) := h.setLane
  have captures : Noticed s ((u.enterBound n).autoCaptureAt n) := by
    unfold State.autoCaptureAt
    split
    · exact bound
    · split_ifs
      exacts [bound.holdToReleasing, bound.startVisitCapture, bound]
  have settled : Noticed s ((u.enterBound n).afterSettling n) := by
    unfold State.afterSettling
    split
    · exact bound.frame rfl
    · split
      · exact bound.setLane.startVisitCapture
      · split
        · exact captures
        · exact bound
  exact settled.tryOnIdle

theorem endTravel (h : Noticed s u) : Noticed s (u.endTravel n) := by
  unfold State.endTravel
  dsimp only
  split
  · exact h.setBarrier.failBarrier
  · exact h.setBarrier.failBarrier
  all_goals exact h.setBarrier

theorem endCapture (h : Noticed s u) : Noticed s (u.endCapture n) := by
  unfold State.endCapture
  split
  · exact h
  · split
    · exact h.settleGathered.tryOnIdle
    · exact h.settleFailed.tryOnIdle

theorem enterUnitState (h : Noticed s u) {k : Fin 8} {st : UnitState} : Noticed s (u.enterUnitState k st) :=
  h.setUnit.followLevels

theorem clearAlarm (h : Noticed s u) {k : Fin 8} : Noticed s (u.clearAlarm k) := by
  unfold State.clearAlarm
  dsimp only
  split
  · exact h.enterUnitState.reportDown.tryServed
  · exact h.enterUnitState

theorem detectorMoves (h : Noticed s u) {k : DetectorKind} : Noticed s (u.detectorMoves n k) := by
  unfold State.detectorMoves
  split
  case h_6 => exact h.endMaintenance
  case h_7 => exact h
  all_goals exact h.startMaintenance

end Noticed

/-! ### Every command -/

/-- R186, R187, R197 to R199: the commands that set the words, the latch or the levels of the Notice Unit themselves. -/
def setsNotices : Instr → Bool
  | .hardReset | .restart | .restartEnd | .reload | .loadEnd _ | .noticeMask _ | .noticeEdge _ | .noticeReport => true
  | _ => false

theorem effect_noticed {c : Instr} (s : State) (hc : setsNotices c = false) : Noticed s (effect c s) := by
  have here : Noticed s s := Noticed.refl s
  cases c with
  | hardReset | restart | restartEnd | reload | loadEnd _ | noticeMask _ | noticeEdge _ | noticeReport => cases hc
  | rstNLow | transactionStart | takeChanges | storeReadEnd _ | laneCommand _ _ | poll _ _ | inSlotEnd _ _
  | loopPaused _ | gateClearTimerExpiry _ | trackingTimerExpiry _ | identify | lookup _ | nextDone | vehicleGet _
  | permitGet _ | laneStatus _ | deckStatus _ | unitStatus _ | clockRead => exact here.frame rfl
  | transactionEnd sent calEn =>
    dsimp only [effect]
    split
    · exact here
    · exact here.frame (State.endTransaction_notices s _ _ _)
  -- Visit Table
  | admitVisit lane name => exact here.admitReply
  | book tag kind permit useTare day =>
    dsimp only [effect]
    split
    · split
      · exact here
      · exact inRange_fst (Noticed s) here fun _ => here.frame (State.bookVisit_notices s _ _ _ _ _)
    · exact here
  | amend name useTare day =>
    refine inRange_fst (Noticed s) here fun _ => ?_
    split
    · exact here
    · exact onRecord_fst (Noticed s) here fun k v _ => here.frame (State.amendVisit_notices s k v _ _)
  | hold name => exact inRange_fst (Noticed s) here fun _ => onRecord_fst (Noticed s) here fun _ _ _ => here.holdVisit
  | releaseHold name lane => exact here.releaseReply
  | voidVisit name =>
    exact inRange_fst (Noticed s) here fun _ => onRecord_fst (Noticed s) here fun k v _ =>
      here.frame (State.voidRecord_notices s k v)
  | retire ticket =>
    exact inRange_fst (Noticed s) here fun _ => onRecord_fst (Noticed s) here fun k v _ =>
      here.frame (State.retireVisit_notices s k v)
  | tipDeclare ticket category =>
    exact inRange_fst (Noticed s) here fun _ => onRecord_fst (Noticed s) here fun k v _ =>
      here.frame (State.declareTip_notices s k v _)
  | call lane ticket => exact here.callReply
  -- the registers
  | vehiclePut tag permit payload groups refresh banned tare =>
    dsimp only [effect]
    split
    · exact inRange_fst (Noticed s) here fun _ => here.frame (State.putVehicle_notices s _ _)
    · exact here
  | vehicleDrop tag => exact here.frame (State.dropVehicle_notices s _)
  | tareStore ticket index validity =>
    exact inRange_fst (Noticed s) here fun _ => onRecord_fst (Noticed s) here fun _ v _ =>
      here.frame (State.tareStore_notices s v _ _)
  | permitPut number allowed primary expiry =>
    exact inRange_fst (Noticed s) here fun _ => here.frame (State.putPermit_notices s _ _ _ _)
  | permitAdjust number amount =>
    exact inRange_fst (Noticed s) here fun _ => here.frame (State.adjustPermit_notices s _ _)
  | permitSuspend number => exact inRange_fst (Noticed s) here fun _ => here.frame (State.markPermit_notices s _ _)
  | permitResume number => exact inRange_fst (Noticed s) here fun _ => here.frame (State.markPermit_notices s _ _)
  | permitDrop number => exact inRange_fst (Noticed s) here fun _ => here.frame (State.dropPermit_notices s _)
  -- Lane Controllers
  | laneMode lane mode autoTake walkIn walkTare autoCapture =>
    refine onLane_fst (Noticed s) here fun n _ => ?_
    split
    · exact here.setMode
    · exact here
  | laneRelease lane =>
    refine onLane_fst (Noticed s) here fun n _ => ?_
    split
    · exact here.releaseLane
    · exact here
  | laneReset lane =>
    refine onLane_fst (Noticed s) here fun n _ => ?_
    split
    · exact here
    · exact here.resetLane
  | maintainOn lane => exact onLane_fst (Noticed s) here fun n _ => here.maintainOn
  | maintainOff lane => exact onLane_fst (Noticed s) here fun n _ => here.maintainOff
  | barrierRaise lane => exact onLane_fst (Noticed s) here fun n _ => here.frame (State.workBarrier_notices s n _)
  | barrierLower lane => exact onLane_fst (Noticed s) here fun n _ => here.frame (State.workBarrier_notices s n _)
  -- Deck Processors
  | capture lane burst =>
    refine onLane_fst (Noticed s) here fun n _ => ?_
    split
    · exact here
    · exact here.captureAt
  | terminate lane => exact onLane_fst (Noticed s) here fun n _ => here.terminateAt
  | zero deck => exact onLane_fst (Noticed s) here fun n _ => here.frame (State.zeroAt_notices s n)
  -- Yard Loop and units
  | loopStart => exact here.frame s.loopStart_notices
  | loopPause => exact here.frame s.loopPause_notices
  | loopResume => exact here.frame s.loopResume_notices
  | loopStop => exact here.frame s.loopStop_notices
  | slotSet frameLength entries => exact here.slotSet
  | unitAddress unit address =>
    exact onUnit_fst (Noticed s) here fun _ => here.frame (State.unitAddress_notices s _ _)
  | inject unit => exact onUnit_fst (Noticed s) here fun _ => here.frame rfl
  | loopStatus => exact here.frame s.loopStatus_notices
  | counterMode unit selection report =>
    refine onUnit_fst (Noticed s) here fun _ => ?_
    split <;> exact here.frame rfl
  | counterReport unit => exact onUnit_fst (Noticed s) here fun _ => here.frame rfl
  | autoSwitch unit on => exact onUnit_fst (Noticed s) here fun _ => here.frame (State.autoSwitch_notices s _ _)
  | reportIntervalTick => exact here.tickUnits
  -- Settings Loader and Yard Clock
  | settingRead word source => exact here.frame (State.readSetting_notices s _ _ _)
  | settingWrite word value calEn =>
    exact here.frame (State.writeSetting_notices { s with calEn := calEn } word value)
  | clockSet day minute => exact inRange_fst (Noticed s) here fun _ => here.frame rfl
  | writeCycleEnd readBack =>
    dsimp only [effect]
    split
    · exact here
    · exact here.finishWrite
  | yardClockSecond => exact here.clockSecond
  | dayChange => exact here.changeDay
  | marker readBack => exact here.markerSlot
  -- messages delivered
  | laneStatusMessage n report => exact Noticed.takeImage (here.frame (by rfl))
  | tagRead n tag => exact Noticed.readTag (here.frame (by rfl))
  | unitAlarm u code => exact Noticed.takeAlarm (here.frame (by rfl))
  | deckSample n raw overRange => exact Noticed.takeDeckSample (here.frame (by rfl))
  -- expiries and entries
  | settleTimerExpiry n =>
    dsimp only [effect]
    split
    · exact here.endSettling
    · exact here
  | cycleTimerExpiry n => exact here.setLane.tryBuffer
  | recoveryTimerExpiry n => exact Noticed.tryOnIdle (here.setLane.frame (State.endReleasing_notices _ n))
  | passageTimeout n => exact here.holdToReleasing.tryOnIdle
  | travelTimerExpiry n => exact here.endTravel
  | abandonTimerExpiry n => exact here.holdToReleasing.tryOnIdle
  | captureTimerExpiry n => exact here.endCapture
  | noDataEntry n => exact here.enterNoData.tryOnIdle
  | unitLostEntry u => exact here.enterUnitState.reportDown.tryServed
  | unitGoodEntry u => exact here.enterUnitState
  | alarmClear u => exact here.clearAlarm
  | detectorAssert n kind =>
    have asserted : Noticed s (s.assertDetector n kind) := here.setDetector.followLevels
    dsimp only [effect]
    split
    · exact asserted.detectorMoves
    · exact asserted
  | detectorDeassert n kind => exact here.setDetector.followLevels

end Sys2Proof.Machine
end

section
/-! The commands that set the Notice Unit's words, its latch or its levels themselves, and the laws of the notices over
every step (R185, R187, R196 to R199). -/

namespace Sys2Proof.Machine

variable {c : Instr} {s t : State}

/-! ### The words taken from an image (R181, R187) -/

theorem and_and_not_self {n : Nat} (w m : BitVec n) : w &&& m &&& ~~~ m = 0 := by
  rw [BitVec.and_assoc, BitVec.and_not_self]
  exact BitVec.and_zero

/-- R181, R187: on the way the mask and the edge selections are taken from an image, the latch standing. -/
def TakesImage (s t : State) : Prop := ∃ (y z : State) (image : List Word), Noticed s y ∧
  z.notices.latched = y.notices.latched ∧ TakesNoticeWords image z.notices ∧ Noticed z t

theorem TakesImage.kept (h : TakesImage s t) : KeepsLatched s.notices t.notices := by
  obtain ⟨y, z, image, before, same, -, after⟩ := h
  exact fun k bit on => after.kept k bit (by rw [same]; exact before.kept k bit on)

theorem TakesImage.legal (h : TakesImage s t) (hs : NoticesLegal s) : NoticesLegal t := by
  obtain ⟨y, z, image, before, same, ⟨mask, edges⟩, after⟩ := h
  exact after.legal ⟨fun k => by rw [same]; exact (before.legal hs).latched k,
    fun k => by rw [mask k, and_and_not_self], fun k => by rw [edges k, and_and_not_self]⟩

theorem restart_takesImage (s : State) : TakesImage s s.restart := by
  have holding : Noticed s s.holding := (Noticed.refl s).frame rfl
  have held : Noticed s s.holding.restartHolds := holding.forLanes _ fun _ _ hx => hx.holdBound
  generalize hy : s.holding.restartHolds = y at held
  refine ⟨y, y.restartLanes.restartOthers, y.loader.image, held, ?_, ?_, ?_⟩
  · simp only [State.restartOthers, State.restartLanes]
  · exact ⟨fun k => by simp [State.restartOthers, State.restartLanes, imageMask, Vector.get_eq_getElem],
      fun k => by simp [State.restartOthers, State.restartLanes, imageEdges, Vector.get_eq_getElem]⟩
  · rw [s.restart_eq, hy]
    exact (Noticed.refl y.restartLanes.restartOthers).followLevels.frame rfl

theorem endLoad_takesImage (s : State) (read : Option (List Word)) : TakesImage s (s.endLoad read) := by
  have ticket : (s.judgeLoad read).loadTicket.notices = s.notices := by rw [State.loadTicket_eq]; rfl
  generalize hx : (s.judgeLoad read).loadTicket = x at ticket
  refine ⟨s, x.loadBlocks.recallLevels, x.loader.image, Noticed.refl s, ?_, ?_, ?_⟩
  · simp only [State.recallLevels, State.loadBlocks, ticket]
  · exact ⟨fun k => by simp [State.recallLevels, State.loadBlocks, imageMask, Vector.get_eq_getElem],
      fun k => by simp [State.recallLevels, State.loadBlocks, imageEdges, Vector.get_eq_getElem]⟩
  · have loaded : s.endLoad read = x.loadBlocks.recallLevels.followLevels.autoStartLoop := by rw [← hx]; rfl
    rw [loaded]
    exact (Noticed.refl _).followLevels.frame (State.autoStartLoop_notices _)

/-! ### The other commands that set the notices (R185, R197, R198, R199) -/

theorem reload_keeps (s : State) : s.reload.1.notices.latched = s.notices.latched ∧
    s.reload.1.notices.mask = s.notices.mask ∧ s.reload.1.notices.edges = s.notices.edges := by
  unfold State.reload
  split_ifs <;> exact ⟨rfl, rfl, rfl⟩

theorem State.endRestart_notices (s : State) :
    s.endRestart.notices = { s.notices with latched := Vector.replicate 20 0 } :=
  State.autoStartLoop_notices _

/-- R196: where no level has changed none has turned. -/
theorem latchesTurns_of_levels {x y : Notices} (same : y.levels = x.levels) : LatchesTurns x y := by
  rintro k bit (⟨low, high⟩ | ⟨high, low, -⟩)
  · rw [same, low] at high
    cases high
  · rw [same, high] at low
    cases low

theorem keepsLatched_of_latched {x y : Notices} (same : y.latched = x.latched) : KeepsLatched x y := by
  intro k bit on
  rwa [same]

theorem State.setMask_notices (s : State) (words : List Word) :
    (s.setMask words).notices = { s.notices with mask := maskOf words } := rfl

theorem State.setEdges_notices (s : State) (words : List Word) :
    (s.setEdges words).notices = { s.notices with edges := edgesOf words } := rfl

theorem State.noticeReport_notices (s : State) :
    s.noticeReport.1.notices = { s.notices with latched := Vector.replicate 20 0 } := rfl

theorem NoticesLegal.unlatched (h : NoticesLegal s)
    (ht : t.notices = { s.notices with latched := Vector.replicate 20 0 }) : NoticesLegal t := by
  obtain ⟨-, mask, edges⟩ := h
  exact ⟨by simp [ht, Vector.get_eq_getElem], by rwa [ht], by rwa [ht]⟩

theorem NoticesLegal.setMask (h : NoticesLegal s) (words : List Word) : NoticesLegal (s.setMask words) := by
  obtain ⟨latched, -, edges⟩ := h
  exact ⟨by rwa [State.setMask_notices], fun k => by rw [State.setMask_notices, maskOf_get, and_and_not_self],
    by rwa [State.setMask_notices]⟩

theorem NoticesLegal.setEdges (h : NoticesLegal s) (words : List Word) : NoticesLegal (s.setEdges words) := by
  obtain ⟨latched, mask, -⟩ := h
  exact ⟨by rwa [State.setEdges_notices], by rwa [State.setEdges_notices],
    fun k => by rw [State.setEdges_notices, edgesOf_get, and_and_not_self]⟩

theorem NoticesLegal.reload (h : NoticesLegal s) : NoticesLegal s.reload.1 := by
  obtain ⟨latched, mask, edges⟩ := h
  obtain ⟨sameLatch, sameMask, sameEdges⟩ := reload_keeps s
  exact ⟨by rwa [sameLatch], by rwa [sameMask], by rwa [sameEdges]⟩

theorem NoticesLegal.of_notices (h : NoticesLegal s) (same : t.notices = s.notices) : NoticesLegal t :=
  ((Noticed.refl s).frame same).legal h

/-! ### Every command -/

theorem effect_kept (s : State) (running : c ≠ .hardReset) (steady : c ≠ .restartEnd) (other : c ≠ .noticeReport) :
    KeepsLatched s.notices (effect c s).notices := by
  cases hc : setsNotices c
  · exact (effect_noticed s hc).kept
  · cases c with
    | hardReset | restartEnd | noticeReport => contradiction
    | restart => exact (restart_takesImage s).kept
    | reload => exact keepsLatched_of_latched (reload_keeps s).1
    | loadEnd read =>
      dsimp only [effect]
      split
      · exact (endLoad_takesImage s read).kept
      · exact keepsLatched_of_latched rfl
    | noticeMask words => exact keepsLatched_of_latched (by rw [effect, State.setMask_notices])
    | noticeEdge words => exact keepsLatched_of_latched (by rw [effect, State.setEdges_notices])
    | _ => cases hc

theorem effect_turns (s : State) (running : c ≠ .hardReset) (going : c ≠ .restart) (standing : c ≠ .reload)
    (ready : ∀ read, c ≠ .loadEnd read) : LatchesTurns s.notices (effect c s).notices := by
  cases hc : setsNotices c
  · exact (effect_noticed s hc).turns
  · cases c with
    | hardReset | restart | reload => contradiction
    | loadEnd read => exact absurd rfl (ready read)
    | restartEnd => exact latchesTurns_of_levels (by rw [effect, State.endRestart_notices])
    | noticeReport => exact latchesTurns_of_levels (by rw [effect, State.noticeReport_notices])
    | noticeMask words => exact latchesTurns_of_levels (by rw [effect, State.setMask_notices])
    | noticeEdge words => exact latchesTurns_of_levels (by rw [effect, State.setEdges_notices])
    | _ => cases hc

theorem effect_legal (h : NoticesLegal s) : NoticesLegal (effect c s) := by
  cases hc : setsNotices c
  · exact (effect_noticed s hc).legal h
  · cases c with
    | hardReset => exact noticesLegal_reset.of_notices rfl
    | restart => exact (restart_takesImage s).legal h
    | restartEnd => exact h.unlatched s.endRestart_notices
    | noticeReport => exact h.unlatched s.noticeReport_notices
    | reload => exact h.reload
    | loadEnd read =>
      dsimp only [effect]
      split
      · exact (endLoad_takesImage s read).legal h
      · exact h
    | noticeMask words => exact h.setMask words
    | noticeEdge words => exact h.setEdges words
    | _ => cases hc

/-- What a command makes of the notices: nothing, or what its effect does. -/
theorem Comes.notices (h : Comes c s t) : t.notices = s.notices ∨ t.notices = (effect c s).notices := by
  rcases h with ⟨p, rfl⟩ | ⟨-, -, p, rfl⟩
  · exact .inl rfl
  · exact .inr rfl

theorem Comes.noticesLegal (h : Comes c s t) (hs : NoticesLegal s) : NoticesLegal t := by
  rcases h.notices with same | taken
  · exact hs.of_notices same
  · exact (effect_legal hs).of_notices taken

/-- Settles O25: the words are set with the bits that name no position cleared, and every position latched is named. -/
theorem noticesStayLegal : Obligations.NoticesStayLegal := by
  unfold Obligations.NoticesStayLegal
  intro s t legal h
  rcases step_comes h with ⟨-, rfl⟩ | ⟨c, rest, -, comes⟩
  · exact legal
  · exact comes.noticesLegal (legal.of_notices rfl)

/-- Settles O7: ATTN by positions; the turns and the latch through every command by `Noticed`, and by the commands that
set the notices themselves. -/
theorem noticesFollowTheirLevels : Obligations.NoticesFollowTheirLevels := by
  unfold Obligations.NoticesFollowTheirLevels
  refine ⟨Notices.attn_iff_position, fun c s t h => ⟨fun running going standing ready => ?_,
    fun running steady other => ?_⟩⟩
  · have turns : LatchesTurns s.notices t.notices := by
      rcases (exec_comes h).notices with same | taken
      · exact latchesTurns_of_levels (congrArg Notices.levels same)
      · rw [taken]
        exact effect_turns s running going standing ready
    exact turns
  · have kept : KeepsLatched s.notices t.notices := by
      rcases (exec_comes h).notices with same | taken
      · rw [same]
        exact fun _ _ on => on
      · rw [taken]
        exact effect_kept s running steady other
    exact kept

end Sys2Proof.Machine
end

section
/-! The values of R195 on the wire: each reader reads back what its writer has written, and reads nothing else. -/

namespace Sys2Proof.Machine

/-- R195: a reader reads exactly the bytes that a writer writes, of the values that fit. -/
def Spells {α : Type} (r : Reader α) (w : α → List Byte) (fits : α → Prop) : Prop :=
  ∀ bs a rest, r bs = some (a, rest) ↔ fits a ∧ bs = w a ++ rest

namespace Spells

variable {α β : Type} {r : Reader α} {w : α → List Byte} {fits : α → Prop} {f : α → Reader β}

/-- What was written is read back, and the reading goes on after it. -/
theorem andThen (h : Spells r w fits) {a : α} (ha : fits a) {rest : List Byte} {x : Option (β × List Byte)}
    (hx : f a rest = x) : r.andThen f (w a ++ rest) = x := by
  have read : r (w a ++ rest) = some (a, rest) := (h _ _ _).mpr ⟨ha, rfl⟩
  rw [Reader.andThen, read]
  exact hx

/-- What was read is what was written, and the reading has gone on after it. -/
theorem of_andThen (h : Spells r w fits) {bs rest : List Byte} {b : β} (hx : r.andThen f bs = some (b, rest)) :
    ∃ a mid, fits a ∧ bs = w a ++ mid ∧ f a mid = some (b, rest) := by
  unfold Reader.andThen at hx
  split at hx
  · cases hx
  · rename_i a mid read
    obtain ⟨ha, rfl⟩ := (h _ _ _).mp read
    exact ⟨a, mid, ha, rfl, hx⟩

/-- The last value is read and wrapped. -/
theorem wrap (h : Spells r w fits) (g : α → β) {a : α} (ha : fits a) (rest : List Byte) :
    r.andThen (fun a => Reader.value (g a)) (w a ++ rest) = some (g a, rest) := h.andThen ha rfl

theorem of_wrap (h : Spells r w fits) {g : α → β} {bs rest : List Byte} {b : β}
    (hx : r.andThen (fun a => Reader.value (g a)) bs = some (b, rest)) : ∃ a, fits a ∧ b = g a ∧ bs = w a ++ rest := by
  obtain ⟨a, mid, ha, rfl, value⟩ := h.of_andThen hx
  cases value
  exact ⟨a, ha, rfl, rfl⟩

/-- A value that is another one in a different form. -/
theorem map (h : Spells r w fits) {v : β → List Byte} {g : α → β} {g' : β → α} {fits' : β → Prop}
    (into : ∀ a, fits a → fits' (g a) ∧ g' (g a) = a) (back : ∀ b, fits' b → fits (g' b) ∧ g (g' b) = b)
    (writes : ∀ b, v b = w (g' b)) : Spells (r.andThen (fun a => Reader.value (g a))) v fits' := by
  intro bs b rest
  constructor
  · intro hx
    obtain ⟨a, ha, rfl, rfl⟩ := h.of_wrap hx
    exact ⟨(into a ha).1, by rw [writes, (into a ha).2]⟩
  · rintro ⟨hb, rfl⟩
    obtain ⟨fit, same⟩ := back b hb
    rw [writes, h.wrap g fit, same]

end Spells

/-! ### Numbers, tags and lists -/

theorem length_leBytes (k number : Nat) : (leBytes k number).length = k := by
  rw [leBytes_eq, List.length_map, List.length_range]

theorem ofLeBytes_cons (b : Byte) (bs : List Byte) : ofLeBytes (b :: bs) = b.toNat + 256 * ofLeBytes bs := rfl

theorem ofLeBytes_lt (bs : List Byte) : ofLeBytes bs < 256 ^ bs.length := by
  induction bs with
  | nil => simp [ofLeBytes]
  | cons b bs ih =>
    have := b.isLt
    rw [ofLeBytes_cons, List.length_cons, Nat.pow_succ]
    omega

theorem leBytes_ofLeBytes (bs : List Byte) : leBytes bs.length (ofLeBytes bs) = bs := by
  induction bs with
  | nil => rfl
  | cons b bs ih =>
    have := b.isLt
    have low : BitVec.ofNat 8 (ofLeBytes (b :: bs)) = b := by
      apply BitVec.eq_of_toNat_eq
      rw [ofLeBytes_cons, BitVec.toNat_ofNat]
      omega
    have high : ofLeBytes (b :: bs) / 256 = ofLeBytes bs := by
      rw [ofLeBytes_cons]
      omega
    rw [List.length_cons, leBytes, low, high, ih]

theorem spells_take (k : Nat) : Spells (take k) (leBytes k) (· < 256 ^ k) := by
  intro bs number rest
  constructor
  · intro h
    unfold take at h
    split at h <;> cases h
    rename_i enough
    have length : (bs.take k).length = k := List.length_take_of_le enough
    have bytes : leBytes k (ofLeBytes (bs.take k)) = bs.take k := by
      simpa only [length] using leBytes_ofLeBytes (bs.take k)
    have fits : ofLeBytes (bs.take k) < 256 ^ k := by simpa only [length] using ofLeBytes_lt (bs.take k)
    exact ⟨fits, by rw [bytes, List.take_append_drop]⟩
  · rintro ⟨fits, rfl⟩
    have length := length_leBytes k number
    rw [take, if_pos (by rw [List.length_append, length]; omega), List.take_left' length, List.drop_left' length,
      ofLeBytes_leBytes k number fits]

theorem spells_take1 : Spells take1 put1 (· < 256) := spells_take 1
theorem spells_take2 : Spells take2 put2 (· < 65536) := spells_take 2
theorem spells_take4 : Spells take4 put4 (· < 4294967296) := spells_take 4

theorem spells_takeTag : Spells takeTag putTag (fun _ => True) :=
  (spells_take 6).map (g' := BitVec.toNat)
    (fun number fits => ⟨trivial, by rw [BitVec.toNat_ofNat]; exact Nat.mod_eq_of_lt fits⟩)
    (fun tag _ => ⟨tag.isLt, BitVec.eq_of_toNat_eq (by simp)⟩) (fun _ => rfl)

theorem spells_takeInt : Spells takeInt putInt (fun x => -2147483648 ≤ x ∧ x < 2147483648) :=
  spells_take4.map (g' := fun x => (BitVec.ofInt 32 x).toNat)
    (fun number fits => by
      have low := BitVec.le_toInt (BitVec.ofNat 32 number)
      have high := BitVec.toInt_lt (x := BitVec.ofNat 32 number)
      exact ⟨⟨low, high⟩, by rw [BitVec.ofInt_toInt, BitVec.toNat_ofNat]; exact Nat.mod_eq_of_lt fits⟩)
    (fun x fits => ⟨(BitVec.ofInt 32 x).isLt, by
      rw [BitVec.ofNat_toNat, BitVec.setWidth_eq, BitVec.toInt_ofInt]
      exact Int.bmod_eq_of_le (by omega) (by omega)⟩) (fun _ => rfl)

theorem putWords_cons (word : Word) (words : List Word) :
    putWords (word :: words) = put2 word.toNat ++ putWords words := rfl

theorem spells_takeWords (k : Nat) : Spells (takeWords k) putWords (·.length = k) := by
  induction k with
  | zero =>
    intro bs words rest
    constructor
    · intro h
      cases h
      exact ⟨rfl, rfl⟩
    · rintro ⟨none, rfl⟩
      rw [List.length_eq_zero_iff.mp none]
      rfl
  | succ k ih =>
    intro bs words rest
    constructor
    · intro h
      obtain ⟨number, mid, fits, rfl, more⟩ := spells_take2.of_andThen h
      obtain ⟨words, length, rfl, rfl⟩ := ih.of_wrap more
      have word : (BitVec.ofNat 16 number).toNat = number := by
        rw [BitVec.toNat_ofNat]
        exact Nat.mod_eq_of_lt fits
      exact ⟨congrArg (· + 1) length, by rw [putWords_cons, word, List.append_assoc]⟩
    · rintro ⟨length, rfl⟩
      cases words with
      | nil => cases length
      | cons word words =>
        rw [putWords_cons, List.append_assoc]
        refine spells_take2.andThen word.isLt ?_
        rw [BitVec.ofNat_toNat, BitVec.setWidth_eq]
        exact ih.wrap _ (Nat.succ.inj length) rest

theorem spells_takeBytes (k : Nat) : Spells (takeBytes k) id (·.length = k) := by
  intro bs bytes rest
  unfold takeBytes
  constructor
  · intro h
    split at h <;> cases h
    rename_i enough
    exact ⟨List.length_take_of_le enough, (List.take_append_drop k bs).symm⟩
  · rintro ⟨length, rfl⟩
    rw [id, if_pos (by rw [List.length_append, length]; omega), List.take_left' length, List.drop_left' length]

/-- A value after a byte that tells its form. -/
theorem Spells.selected {α : Type} {form : Nat → Reader α} {w : α → List Byte} {fits : α → Prop}
    (reads : ∀ a, fits a → ∃ sel payload r, sel < 256 ∧ w a = put1 sel ++ payload ∧
      (∀ rest, r (payload ++ rest) = some (a, rest)) ∧ form sel = r)
    (only : ∀ sel bs a rest, form sel bs = some (a, rest) → fits a ∧ put1 sel ++ bs = w a ++ rest) :
    Spells (take1.andThen form) w fits := by
  intro bs a rest
  constructor
  · intro h
    obtain ⟨sel, mid, -, rfl, formed⟩ := spells_take1.of_andThen h
    exact only sel mid a rest formed
  · rintro ⟨fit, rfl⟩
    obtain ⟨sel, payload, r, small, written, read, formed⟩ := reads a fit
    rw [written, List.append_assoc]
    exact spells_take1.andThen small (by rw [formed, read])

theorem Spells.opt {α : Type} {r : Reader α} {w : α → List Byte} {fits : α → Prop} (h : Spells r w fits) :
    Spells (takeOpt r) (putOpt w) (fun x => ∀ a ∈ x, fits a) := by
  refine Spells.selected (fun x fit => ?_) fun sel bs x rest hx => ?_
  · cases x with
    | none => exact ⟨0, [], _, by decide, rfl, fun _ => rfl, rfl⟩
    | some a => exact ⟨1, w a, _, by decide, rfl, h.wrap some (fit a rfl), rfl⟩
  · split_ifs at hx with absent present
    · cases hx
      exact ⟨nofun, by rw [absent]; rfl⟩
    · obtain ⟨a, ha, rfl, rfl⟩ := h.of_wrap hx
      exact ⟨fun _ same => Option.some.inj same ▸ ha, by rw [present]; rfl⟩
    · cases hx

/-! ### Names after a selector byte -/

theorem spells_takeRecordName : Spells takeRecordName putRecordName (·.wf = true) := by
  refine Spells.selected (fun name wf => ?_) fun sel bs name rest h => ?_
  · cases name with
    | ticket t => exact ⟨0, put4 t, _, by decide, rfl, spells_take4.wrap RecordName.ticket (of_decide_eq_true wf), rfl⟩
    | handle k => exact ⟨1, put1 k, _, by decide, rfl, spells_take1.wrap RecordName.handle (of_decide_eq_true wf), rfl⟩
  · split_ifs at h with ticket handle
    · obtain ⟨t, fits, rfl, rfl⟩ := spells_take4.of_wrap h
      exact ⟨decide_eq_true fits, by rw [ticket]; rfl⟩
    · obtain ⟨k, fits, rfl, rfl⟩ := spells_take1.of_wrap h
      exact ⟨decide_eq_true fits, by rw [handle]; rfl⟩
    · cases h

theorem spells_takeAdmitName : Spells takeAdmitName putAdmitName (·.wf = true) := by
  refine Spells.selected (fun name wf => ?_) fun sel bs name rest h => ?_
  · cases name with
    | tag t => exact ⟨0, putTag t, _, by decide, rfl, spells_takeTag.wrap AdmitName.tag trivial, rfl⟩
    | handle k => exact ⟨1, put1 k, _, by decide, rfl, spells_take1.wrap AdmitName.handle (of_decide_eq_true wf), rfl⟩
  · split_ifs at h with tag handle
    · obtain ⟨t, -, rfl, rfl⟩ := spells_takeTag.of_wrap h
      exact ⟨rfl, by rw [tag]; rfl⟩
    · obtain ⟨k, fits, rfl, rfl⟩ := spells_take1.of_wrap h
      exact ⟨decide_eq_true fits, by rw [handle]; rfl⟩
    · cases h

theorem spells_takeLookupName : Spells takeLookupName putLookupName (·.wf = true) := by
  refine Spells.selected (fun name wf => ?_) fun sel bs name rest h => ?_
  · cases name with
    | ticket t => exact ⟨0, put4 t, _, by decide, rfl, spells_take4.wrap LookupName.ticket (of_decide_eq_true wf), rfl⟩
    | handle k => exact ⟨1, put1 k, _, by decide, rfl, spells_take1.wrap LookupName.handle (of_decide_eq_true wf), rfl⟩
    | tag t => exact ⟨2, putTag t, _, by decide, rfl, spells_takeTag.wrap LookupName.tag trivial, rfl⟩
  · split_ifs at h with ticket handle tag
    · obtain ⟨t, fits, rfl, rfl⟩ := spells_take4.of_wrap h
      exact ⟨decide_eq_true fits, by rw [ticket]; rfl⟩
    · obtain ⟨k, fits, rfl, rfl⟩ := spells_take1.of_wrap h
      exact ⟨decide_eq_true fits, by rw [handle]; rfl⟩
    · obtain ⟨t, -, rfl, rfl⟩ := spells_takeTag.of_wrap h
      exact ⟨rfl, by rw [tag]; rfl⟩
    · cases h

theorem spells_takeVehicleName : Spells takeVehicleName putVehicleName (·.wf = true) := by
  refine Spells.selected (fun name wf => ?_) fun sel bs name rest h => ?_
  · cases name with
    | tag t => exact ⟨0, putTag t, _, by decide, rfl, spells_takeTag.wrap VehicleName.tag trivial, rfl⟩
    | index k => exact ⟨1, put2 k, _, by decide, rfl, spells_take2.wrap VehicleName.index (of_decide_eq_true wf), rfl⟩
  · split_ifs at h with tag index
    · obtain ⟨t, -, rfl, rfl⟩ := spells_takeTag.of_wrap h
      exact ⟨rfl, by rw [tag]; rfl⟩
    · obtain ⟨k, fits, rfl, rfl⟩ := spells_take2.of_wrap h
      exact ⟨decide_eq_true fits, by rw [index]; rfl⟩
    · cases h

theorem spells_takePermitName : Spells takePermitName putPermitName (·.wf = true) := by
  refine Spells.selected (fun name wf => ?_) fun sel bs name rest h => ?_
  · cases name with
    | number k => exact ⟨0, put2 k, _, by decide, rfl, spells_take2.wrap PermitName.number (of_decide_eq_true wf), rfl⟩
    | next k => exact ⟨1, put2 k, _, by decide, rfl, spells_take2.wrap PermitName.next (of_decide_eq_true wf), rfl⟩
  · split_ifs at h with number next
    · obtain ⟨k, fits, rfl, rfl⟩ := spells_take2.of_wrap h
      exact ⟨decide_eq_true fits, by rw [number]; rfl⟩
    · obtain ⟨k, fits, rfl, rfl⟩ := spells_take2.of_wrap h
      exact ⟨decide_eq_true fits, by rw [next]; rfl⟩
    · cases h

theorem spells_takeTareParam : Spells takeTareParam putTareParam (·.wf = true) := by
  refine Spells.selected (fun tare wf => ?_) fun sel bs tare rest h => ?_
  · cases tare with
    | none => exact ⟨0, [], _, by decide, rfl, fun _ => rfl, rfl⟩
    | weight kg day validity =>
      simp only [TareParam.wf, Bool.and_eq_true, decide_eq_true_iff] at wf
      obtain ⟨⟨kgFits, dayFits⟩, validityFits⟩ := wf
      refine ⟨1, putInt kg ++ (put2 day ++ put2 validity), takeInt.andThen fun kg => take2.andThen fun day =>
        take2.andThen fun v => Reader.value (.weight kg day v), by decide, rfl, fun rest => ?_, rfl⟩
      rw [List.append_assoc, List.append_assoc]
      exact spells_takeInt.andThen kgFits (spells_take2.andThen dayFits (spells_take2.wrap _ validityFits rest))
    | keep => exact ⟨2, [], _, by decide, rfl, fun _ => rfl, rfl⟩
  · split_ifs at h with none weight keep
    · cases h
      exact ⟨rfl, by rw [none]; rfl⟩
    · obtain ⟨kg, mid, kgFits, rfl, more⟩ := spells_takeInt.of_andThen h
      obtain ⟨day, mid, dayFits, rfl, last⟩ := spells_take2.of_andThen more
      obtain ⟨validity, validityFits, rfl, rfl⟩ := spells_take2.of_wrap last
      refine ⟨?_, by rw [weight]; rfl⟩
      simp only [TareParam.wf, Bool.and_eq_true, decide_eq_true_iff]
      exact ⟨⟨kgFits, dayFits⟩, validityFits⟩
    · cases h
      exact ⟨rfl, by rw [keep]; rfl⟩
    · cases h

end Sys2Proof.Machine
end

section
/-! The parameters of the requests (R194, R195): a well-formed request is read back from its parameters, and what is
read of a code's parameters is a request of that code with those parameters. -/

namespace Sys2Proof.Machine

/-! ### What is written is read back -/

/-- R194, R195: the parameters of a well-formed request are read as that request, whatever follows them. -/
theorem requestReader_reads {c : Instr} {calEn : Bool} (wf : c.wf = true) (request : requestCode c ≠ 0)
    (sampled : ∀ word value level, c = .settingWrite word value level → level = calEn) (rest : List Byte) :
    requestReader (requestCode c) calEn (requestParams c ++ rest) = some (c, rest) := by
  have fitsEach {x : Option Nat} (h : x.all (fits8 ·) = true) : ∀ k ∈ x, k < 256 := fun k hk =>
    of_decide_eq_true ((Option.all_eq_true _ _).mp h k hk)
  cases c <;> unfold Instr.wf at wf <;> unfold requestParams requestCode requestReader
  any_goals exact absurd rfl request
  case identify | noticeReport | nextDone | takeChanges | loopStart | loopPause | loopResume | loopStop | loopStatus
      | reload | restart | clockRead => rfl
  case laneRelease | laneReset | maintainOn | maintainOff | barrierRaise | barrierLower | laneStatus | terminate | zero
      | deckStatus | inject | counterReport | unitStatus => exact spells_take1.wrap _ (of_decide_eq_true wf) rest
  case permitSuspend | permitResume | permitDrop => exact spells_take2.wrap _ (of_decide_eq_true wf) rest
  case noticeMask => exact (spells_takeWords 20).wrap _ (eq_of_beq wf) rest
  case noticeEdge => exact (spells_takeWords 7).wrap _ (eq_of_beq wf) rest
  case lookup => exact spells_takeLookupName.wrap _ wf rest
  case hold | voidVisit => exact spells_takeRecordName.wrap _ wf rest
  case retire => exact spells_take4.wrap _ (of_decide_eq_true wf) rest
  case vehicleGet => exact spells_takeVehicleName.wrap _ wf rest
  case vehicleDrop => exact spells_takeTag.wrap _ trivial rest
  case permitGet => exact spells_takePermitName.wrap _ wf rest
  all_goals
    simp only [Bool.and_eq_true, decide_eq_true_iff] at wf
    simp only [List.append_assoc]
  case admitVisit =>
    obtain ⟨lane, name⟩ := wf
    exact spells_take1.andThen lane (spells_takeAdmitName.wrap _ name rest)
  case book =>
    obtain ⟨⟨⟨kind, permit⟩, useTare⟩, day⟩ := wf
    exact spells_takeTag.andThen trivial (spells_take1.andThen kind (spells_take2.andThen permit
      (spells_take1.andThen useTare (spells_take2.wrap _ day rest))))
  case amend =>
    obtain ⟨⟨name, useTare⟩, day⟩ := wf
    exact spells_takeRecordName.andThen name (spells_take1.andThen useTare (spells_take2.wrap _ day rest))
  case releaseHold name lane =>
    obtain ⟨name, lane⟩ := wf
    exact spells_takeRecordName.andThen name (spells_take1.opt.wrap _ (fitsEach lane) rest)
  case tipDeclare =>
    obtain ⟨ticket, category⟩ := wf
    exact spells_take4.andThen ticket (spells_take1.wrap _ category rest)
  case call =>
    obtain ⟨lane, ticket⟩ := wf
    exact spells_take1.andThen lane (spells_take4.wrap _ ticket rest)
  case vehiclePut =>
    obtain ⟨⟨⟨⟨⟨permit, payload⟩, groups⟩, refresh⟩, banned⟩, tare⟩ := wf
    exact spells_takeTag.andThen trivial (spells_take2.andThen permit (spells_takeInt.andThen payload
      (spells_take1.andThen groups (spells_take1.andThen refresh (spells_take1.andThen banned
        (spells_takeTareParam.wrap _ tare rest))))))
  case tareStore =>
    obtain ⟨⟨ticket, index⟩, validity⟩ := wf
    exact spells_take4.andThen ticket (spells_take1.andThen index (spells_take2.wrap _ validity rest))
  case permitPut number allowed primary expiry =>
    obtain ⟨⟨number, primary⟩, expiry⟩ := wf
    refine spells_take2.andThen number (spells_take4.andThen allowed.isLt (spells_take1.andThen primary
      (spells_take2.andThen expiry ?_)))
    rw [BitVec.ofNat_toNat, BitVec.setWidth_eq]
    rfl
  case permitAdjust =>
    obtain ⟨number, amount⟩ := wf
    exact spells_take2.andThen number (spells_takeInt.wrap _ amount rest)
  case laneMode =>
    obtain ⟨⟨⟨⟨⟨lane, mode⟩, a⟩, w⟩, t⟩, c⟩ := wf
    exact spells_take1.andThen lane (spells_take1.andThen mode (spells_take1.andThen a (spells_take1.andThen w
      (spells_take1.andThen t (spells_take1.wrap _ c rest)))))
  case capture lane burst =>
    obtain ⟨lane, burst⟩ := wf
    exact spells_take1.andThen lane (spells_take1.opt.wrap _ (fitsEach burst) rest)
  case slotSet =>
    obtain ⟨length, entries⟩ := wf
    exact spells_take1.andThen length ((spells_takeBytes 22).wrap _ (eq_of_beq entries) rest)
  case unitAddress | autoSwitch =>
    obtain ⟨unit, value⟩ := wf
    exact spells_take1.andThen unit (spells_take1.wrap _ value rest)
  case counterMode =>
    obtain ⟨⟨unit, selection⟩, report⟩ := wf
    exact spells_take1.andThen unit (spells_take1.andThen selection (spells_take1.wrap _ report rest))
  case settingRead =>
    obtain ⟨word, source⟩ := wf
    exact spells_take2.andThen word (spells_take1.wrap _ source rest)
  case settingWrite word value level =>
    obtain ⟨word, value⟩ := wf
    rw [sampled _ _ _ rfl]
    exact spells_take2.andThen word (spells_take2.wrap _ value rest)
  case clockSet =>
    obtain ⟨day, minute⟩ := wf
    exact spells_take2.andThen day (spells_take2.wrap _ minute rest)

/-! ### What is read was written -/

/-- R194, R195: after the bytes `before` a reader reads requests of one code alone, whose parameters are `before` and
the bytes it reads. -/
def ReadsCode (code : Nat) (before : List Byte) (r : Reader Instr) : Prop :=
  ∀ bs c rest, r bs = some (c, rest) → requestCode c = code ∧ before ++ bs = requestParams c ++ rest

namespace ReadsCode

variable {code : Nat} {before : List Byte}

theorem value {c : Instr} (hc : requestCode c = code) (params : requestParams c = before) :
    ReadsCode code before (Reader.value c) := by
  intro bs c' rest h
  cases h
  exact ⟨hc, by rw [params]⟩

theorem andThen {α : Type} {r : Reader α} {w : α → List Byte} {fits : α → Prop} (h : Spells r w fits)
    {f : α → Reader Instr} (hf : ∀ a, fits a → ReadsCode code (before ++ w a) (f a)) :
    ReadsCode code before (r.andThen f) := by
  intro bs c rest read
  obtain ⟨a, mid, fit, rfl, more⟩ := h.of_andThen read
  obtain ⟨hc, params⟩ := hf a fit mid c rest more
  exact ⟨hc, by rw [← List.append_assoc, params]⟩

theorem bad : ReadsCode code before Reader.bad := nofun

theorem one {f : Nat → Instr} (hf : ∀ k, requestCode (f k) = code ∧ requestParams (f k) = put1 k) :
    ReadsCode code [] (Machine.one f) := andThen spells_take1 fun k _ => value (hf k).1 (hf k).2

theorem onePermit {f : Nat → Instr} (hf : ∀ k, requestCode (f k) = code ∧ requestParams (f k) = put2 k) :
    ReadsCode code [] (Machine.onePermit f) := andThen spells_take2 fun k _ => value (hf k).1 (hf k).2

end ReadsCode

theorem requestReader_readsCode (code : Nat) (calEn : Bool) : ReadsCode code [] (requestReader code calEn) := by
  unfold requestReader
  split
  case h_1 | h_2 | h_13 | h_14 | h_39 | h_40 | h_41 | h_42 | h_46 | h_53 | h_54 | h_56 => exact .value rfl rfl
  case h_28 | h_29 | h_30 | h_31 | h_32 | h_33 | h_34 | h_36 | h_37 | h_38 | h_45 | h_48 | h_50 =>
    exact .one fun _ => ⟨rfl, rfl⟩
  case h_24 | h_25 | h_26 => exact .onePermit fun _ => ⟨rfl, rfl⟩
  -- notices
  case h_3 => exact .andThen (spells_takeWords 20) fun _ _ => .value rfl rfl
  case h_4 => exact .andThen (spells_takeWords 7) fun _ _ => .value rfl rfl
  -- ADMIT, BOOK, LOOKUP, AMEND
  case h_5 => exact .andThen spells_take1 fun _ _ => .andThen spells_takeAdmitName fun _ _ => .value rfl rfl
  case h_6 =>
    exact .andThen spells_takeTag fun _ _ => .andThen spells_take1 fun _ _ => .andThen spells_take2 fun _ _ =>
      .andThen spells_take1 fun _ _ => .andThen spells_take2 fun _ _ => .value rfl rfl
  case h_7 => exact .andThen spells_takeLookupName fun _ _ => .value rfl rfl
  case h_8 =>
    exact .andThen spells_takeRecordName fun _ _ => .andThen spells_take1 fun _ _ => .andThen spells_take2 fun _ _ =>
      .value rfl rfl
  -- HOLD and VOID, RELEASE HOLD, RETIRE, TIP DECLARE, CALL
  case h_9 | h_11 => exact .andThen spells_takeRecordName fun _ _ => .value rfl rfl
  case h_10 => exact .andThen spells_takeRecordName fun _ _ => .andThen spells_take1.opt fun _ _ => .value rfl rfl
  case h_12 => exact .andThen spells_take4 fun _ _ => .value rfl rfl
  case h_15 => exact .andThen spells_take4 fun _ _ => .andThen spells_take1 fun _ _ => .value rfl rfl
  case h_16 => exact .andThen spells_take1 fun _ _ => .andThen spells_take4 fun _ _ => .value rfl rfl
  -- the Vehicle Register
  case h_17 =>
    exact .andThen spells_takeTag fun _ _ => .andThen spells_take2 fun _ _ => .andThen spells_takeInt fun _ _ =>
      .andThen spells_take1 fun _ _ => .andThen spells_take1 fun _ _ => .andThen spells_take1 fun _ _ =>
      .andThen spells_takeTareParam fun _ _ => .value rfl rfl
  case h_18 => exact .andThen spells_takeVehicleName fun _ _ => .value rfl rfl
  case h_19 => exact .andThen spells_takeTag fun _ _ => .value rfl rfl
  case h_20 =>
    exact .andThen spells_take4 fun _ _ => .andThen spells_take1 fun _ _ => .andThen spells_take2 fun _ _ =>
      .value rfl rfl
  -- the Permit Table
  case h_21 =>
    exact .andThen spells_take2 fun _ _ => .andThen spells_take4 fun allowed fits =>
      .andThen spells_take1 fun _ _ => .andThen spells_take2 fun _ _ => .value rfl (by
        rw [requestParams, BitVec.toNat_ofNat, Nat.mod_eq_of_lt fits]
        rfl)
  case h_22 => exact .andThen spells_takePermitName fun _ _ => .value rfl rfl
  case h_23 => exact .andThen spells_take2 fun _ _ => .andThen spells_takeInt fun _ _ => .value rfl rfl
  -- LANE MODE, CAPTURE, SLOT SET
  case h_27 =>
    exact .andThen spells_take1 fun _ _ => .andThen spells_take1 fun _ _ => .andThen spells_take1 fun _ _ =>
      .andThen spells_take1 fun _ _ => .andThen spells_take1 fun _ _ => .andThen spells_take1 fun _ _ => .value rfl rfl
  case h_35 => exact .andThen spells_take1 fun _ _ => .andThen spells_take1.opt fun _ _ => .value rfl rfl
  case h_43 => exact .andThen spells_take1 fun _ _ => .andThen (spells_takeBytes 22) fun _ _ => .value rfl rfl
  -- UNIT ADDRESS and AUTO SWITCH, COUNTER MODE
  case h_44 | h_49 => exact .andThen spells_take1 fun _ _ => .andThen spells_take1 fun _ _ => .value rfl rfl
  case h_47 =>
    exact .andThen spells_take1 fun _ _ => .andThen spells_take1 fun _ _ => .andThen spells_take1 fun _ _ =>
      .value rfl rfl
  -- SETTING READ, SETTING WRITE and CLOCK SET
  case h_51 => exact .andThen spells_take2 fun _ _ => .andThen spells_take1 fun _ _ => .value rfl rfl
  case h_52 | h_55 => exact .andThen spells_take2 fun _ _ => .andThen spells_take2 fun _ _ => .value rfl rfl
  case h_57 => exact .bad

/-! ### Parameters -/

theorem Reader.all_eq_some {α : Type} {r : Reader α} {bs : List Byte} {a : α} :
    r.all bs = some a ↔ r bs = some (a, []) := by
  unfold Reader.all
  split
  · rename_i read
    rw [read, Option.some.injEq, Option.some.injEq, Prod.mk.injEq]
    exact (and_iff_left rfl).symm
  · rename_i other
    exact ⟨nofun, fun read => absurd read (other a)⟩

/-- R194, R195: the parameters of a well-formed request are read back as that request. -/
theorem parseRequest_requestParams {c : Instr} {calEn : Bool} (wf : c.wf = true) (request : requestCode c ≠ 0)
    (sampled : ∀ word value level, c = .settingWrite word value level → level = calEn) :
    parseRequest (requestCode c) calEn (requestParams c) = some c := by
  refine Reader.all_eq_some.mpr ?_
  rw [← requestReader_reads wf request sampled [], List.append_nil]

/-- R192: parameters that are those of no request of the code spell no request. -/
theorem parseRequest_eq_none {code : Nat} {calEn : Bool} {params : List Byte}
    (none : ∀ c, requestCode c = code → requestParams c ≠ params) : parseRequest code calEn params = .none := by
  rw [Option.eq_none_iff_forall_ne_some]
  intro c parsed
  obtain ⟨hc, same⟩ := requestReader_readsCode code calEn _ _ _ (Reader.all_eq_some.mp parsed)
  rw [List.append_nil] at same
  exact none c hc same.symm

end Sys2Proof.Machine
end

section
/-! Request frames (R190 to R192): what a frame is judged to be, and what the end of a transaction makes of it. -/

namespace Sys2Proof.Machine

/-! ### Request frames (R191, R192) -/

theorem byteSum_eq_sum (bs : List Byte) : byteSum bs = bs.sum := by
  cases bs with
  | nil => rfl
  | cons b bs => rw [byteSum_cons, List.sum_cons]

theorem sum_append_check (bs : List Byte) : (bs ++ [-byteSum bs]).sum = 0 := by
  rw [List.sum_append, byteSum_eq_sum, List.sum_singleton]
  exact BitVec.add_right_neg _

/-- R191, R192: a length byte in its range, as many bytes after it, and their sum. -/
def Framed (n : Byte) (rest : List Byte) : Prop :=
  n ≠ 1 ∧ n.toNat ≤ 64 ∧ n.toNat ≤ rest.length ∧ n + (rest.take n.toNat).sum = 0

theorem judgeFrame_unframed {n : Byte} {rest : List Byte} (h : ¬ Framed n rest) (calEn : Bool) :
    judgeFrame n rest calEn = .failed .badFrame := by
  refine if_pos ?_
  by_contra sound
  rw [byteSum_cons, List.length_take] at sound
  obtain ⟨one, long, few, sum⟩ := by simpa only [not_or] using sound
  exact h ⟨fun is1 => one (by rw [is1]; rfl), by omega, by omega, not_not.mp sum⟩

/-- R192: a frame whose length and sum are in order is judged by its code, then by its parameters. -/
theorem judgeFrame_framed {n code : Byte} {params : List Byte} (framed : Framed n (code :: params)) (opens : n ≠ 0)
    (calEn : Bool) : judgeFrame n (code :: params) calEn = if code.toNat ∉ requestCodes then .failed .unknownRequest
      else ((parseRequest code.toNat calEn (params.take (n.toNat - 2))).map .taken).getD (.failed .badFrame) := by
  obtain ⟨not1, short, enough, sum⟩ := framed
  have some1 : n.toNat ≠ 1 := fun is1 => not1 (BitVec.eq_of_toNat_eq is1)
  have some0 : n.toNat ≠ 0 := fun is0 => opens (BitVec.eq_of_toNat_eq is0)
  have body : (code :: params).take n.toNat = code :: params.take (n.toNat - 1) := by
    conv_lhs => rw [show n.toNat = n.toNat - 1 + 1 by omega]
    rw [List.take_succ_cons]
  have length : (params.take (n.toNat - 1)).length = n.toNat - 1 := by
    rw [List.length_cons] at enough
    exact List.length_take_of_le (by omega)
  have inner : (params.take (n.toNat - 1)).dropLast = params.take (n.toNat - 2) := by
    rw [List.dropLast_eq_take, length, List.take_take]
    congr 1
    omega
  have sound : ¬ (n.toNat = 1 ∨ 64 < n.toNat ∨ ((code :: params).take n.toNat).length < n.toNat ∨
      byteSum (n :: (code :: params).take n.toNat) ≠ 0) := by
    rw [List.length_take_of_le enough, byteSum_cons, sum]
    simp only [some1, Nat.not_lt.mpr short, lt_irrefl, ne_eq, not_true_eq_false, or_self, not_false_eq_true]
  rw [judgeFrame, if_neg sound, body]
  simp only [List.head?_cons, Option.getD_some, List.drop_succ_cons, List.drop_zero, inner]
  cases parseRequest code.toNat calEn (params.take (n.toNat - 2)) <;> rfl

/-! ### The frame of a request -/

@[simp] theorem length_put1 (k : Nat) : (put1 k).length = 1 := length_leBytes 1 k
@[simp] theorem length_put2 (k : Nat) : (put2 k).length = 2 := length_leBytes 2 k
@[simp] theorem length_put4 (k : Nat) : (put4 k).length = 4 := length_leBytes 4 k
@[simp] theorem length_putInt (x : Int) : (putInt x).length = 4 := length_leBytes 4 _
@[simp] theorem length_putTag (tag : Tag) : (putTag tag).length = 6 := length_leBytes 6 _

@[simp] theorem length_putWords (words : List Word) : (putWords words).length = 2 * words.length := by
  induction words with
  | nil => rfl
  | cons word words ih =>
    rw [putWords_cons, List.length_append, ih, length_put2, List.length_cons]
    omega

theorem length_putRecordName (name : RecordName) : (putRecordName name).length ≤ 7 := by
  cases name <;> simp [putRecordName]

theorem length_putAdmitName (name : AdmitName) : (putAdmitName name).length ≤ 7 := by
  cases name <;> simp [putAdmitName]

theorem length_putLookupName (name : LookupName) : (putLookupName name).length ≤ 7 := by
  cases name <;> simp [putLookupName]

theorem length_putVehicleName (name : VehicleName) : (putVehicleName name).length ≤ 7 := by
  cases name <;> simp [putVehicleName]

theorem length_putPermitName (name : PermitName) : (putPermitName name).length ≤ 7 := by
  cases name <;> simp [putPermitName]

theorem length_putTareParam (tare : TareParam) : (putTareParam tare).length ≤ 9 := by
  cases tare <;> simp [putTareParam]

theorem length_putOpt (k : Option Nat) : (putOpt put1 k).length ≤ 2 := by
  cases k <;> simp [putOpt]

/-- R195: the parameters of a well-formed request fit a frame. -/
theorem length_requestParams {c : Instr} (wf : c.wf = true) : (requestParams c).length ≤ 40 := by
  cases c <;> unfold Instr.wf at wf <;> unfold requestParams <;> dsimp only
  case noticeMask => rw [length_putWords, eq_of_beq wf]
  case noticeEdge => rw [length_putWords, eq_of_beq wf]; decide
  case slotSet =>
    obtain ⟨-, entries⟩ := Bool.and_eq_true_iff.mp wf
    rw [List.length_append, length_put1, eq_of_beq entries]
    decide
  case admitVisit lane name =>
    have := length_putAdmitName name
    rw [List.length_append, length_put1]
    omega
  case lookup name => exact (length_putLookupName name).trans (by decide)
  case amend name _ _ =>
    have := length_putRecordName name
    simp only [List.length_append, length_put1, length_put2]
    omega
  case hold name | voidVisit name => exact (length_putRecordName name).trans (by decide)
  case releaseHold name lane =>
    have := length_putRecordName name
    have := length_putOpt lane
    rw [List.length_append]
    omega
  case vehiclePut tag permit payload groups refresh banned tare =>
    have := length_putTareParam tare
    simp only [List.length_append, length_putTag, length_put2, length_putInt, length_put1]
    omega
  case vehicleGet name => exact (length_putVehicleName name).trans (by decide)
  case permitGet name => exact (length_putPermitName name).trans (by decide)
  case capture lane burst =>
    have := length_putOpt burst
    rw [List.length_append, length_put1]
    omega
  all_goals simp

theorem requestCode_listed {c : Instr} (request : requestCode c ≠ 0) : requestCode c ∈ requestCodes := by
  cases c
  any_goals exact absurd rfl request
  all_goals
    unfold requestCode
    dsimp only
    decide

/-- R191, R192: the frame of a well-formed request, whatever follows it. -/
theorem judgeFrame_requestFrame {c : Instr} {calEn : Bool} (wf : c.wf = true) (request : requestCode c ≠ 0)
    (sampled : ∀ word value level, c = .settingWrite word value level → level = calEn) (more : List Byte) :
    ∃ (n : Byte) (params : List Byte), n ≠ 0 ∧
      requestFrame c ++ more = n :: BitVec.ofNat 8 (requestCode c) :: params ∧
      judgeFrame n (BitVec.ofNat 8 (requestCode c) :: params) calEn = .taken c := by
  have short := length_requestParams wf
  have listed := requestCode_listed request
  have small : requestCode c < 256 := by
    have : ∀ k ∈ requestCodes, k < 256 := by decide
    exact this _ listed
  obtain ⟨n, hn⟩ : ∃ n : Byte, n = BitVec.ofNat 8 ((requestParams c).length + 2) := ⟨_, rfl⟩
  have length : n.toNat = (requestParams c).length + 2 := by
    rw [hn, BitVec.toNat_ofNat]
    omega
  obtain ⟨check, hcheck⟩ : ∃ b : Byte, b = -byteSum (n :: BitVec.ofNat 8 (requestCode c) :: requestParams c) := ⟨_, rfl⟩
  have frame : requestFrame c ++ more =
      n :: BitVec.ofNat 8 (requestCode c) :: (requestParams c ++ check :: more) := by
    rw [requestFrame, hcheck, hn]
    simp only [List.length_cons, List.cons_append, List.append_assoc, List.nil_append]
  have taken : (BitVec.ofNat 8 (requestCode c) :: (requestParams c ++ check :: more)).take n.toNat =
      BitVec.ofNat 8 (requestCode c) :: (requestParams c ++ [check]) := by
    rw [length, List.take_succ_cons, List.take_append, List.take_of_length_le (Nat.le_succ _)]
    simp
  have framed : Framed n (BitVec.ofNat 8 (requestCode c) :: (requestParams c ++ check :: more)) := by
    refine ⟨fun is1 => ?_, by omega, by rw [length]; simp, ?_⟩
    · rw [is1] at length
      simp at length
    · have sum := sum_append_check (n :: BitVec.ofNat 8 (requestCode c) :: requestParams c)
      rw [taken, ← List.sum_cons]
      rw [← hcheck] at sum
      exact sum
  have opens : n ≠ 0 := fun is0 => by
    rw [is0] at length
    simp at length
  refine ⟨n, requestParams c ++ check :: more, opens, frame, ?_⟩
  rw [judgeFrame_framed framed opens calEn, BitVec.toNat_ofNat, Nat.mod_eq_of_lt small, if_neg (not_not.mpr listed),
    length, Nat.add_sub_cancel, List.take_left' rfl, parseRequest_requestParams wf request sampled]
  rfl

end Sys2Proof.Machine
end

section
/-! Transactions (R190 to R192): the read, the frame sent, and the response frame. -/

namespace Sys2Proof.Machine

variable {s y : State} {x : Sending} {sent rest params : List Byte} {n code : Byte} {calEn : Bool} {st : Status}

/-! ### The end of a transaction (R190, R192) -/

/-- R190: the state that the frame of a transaction finds: CAL_EN sampled, and the answer read where the whole of it has
been clocked out. -/
def State.reading (s : State) (x : Sending) (sent : List Byte) (calEn : Bool) : State :=
  { s with calEn := calEn }.judgeRead x sent

theorem exec_transactionEnd (up : s.rstLow = false) (open_ : s.port.sending = some x) (sent : List Byte)
    (calEn : Bool) : exec (.transactionEnd sent calEn) s = .next ((s.reading x sent calEn).judgeBytes sent calEn) := by
  show execTransactionEnd sent calEn s = _
  rw [execTransactionEnd, whileUp_high _ up]
  simp only [open_]
  rfl

namespace State

theorem reading_whole (whole : x.wasAnswer = true ∧ x.frame.length ≤ sent.length) (calEn : Bool) :
    s.reading x sent calEn = { s with
      calEn := calEn
      port := { s.port with buffer := .none, busy := false, busyCode := 0, handed := none, sending := none } } :=
  if_pos (by rw [wasRead, whole.1, decide_eq_true whole.2]; rfl)

theorem reading_part (part : ¬ (x.wasAnswer = true ∧ x.frame.length ≤ sent.length)) (calEn : Bool) :
    s.reading x sent calEn = { s with calEn := calEn, port := { s.port with sending := none } } :=
  if_neg (by rw [wasRead, Bool.and_eq_true, decide_eq_true_iff]; exact part)

theorem reading_free (s : State) (x : Sending) (sent : List Byte) (calEn : Bool) :
    (s.reading x sent calEn).free = s.free := by
  unfold reading judgeRead
  split <;> rfl

theorem judgeBytes_opened (opens : n ≠ 0) (rest : List Byte) (calEn : Bool) :
    y.judgeBytes (n :: rest) calEn = y.judgeSent n rest calEn := if_neg opens

/-- R190: bytes of 0 open no frame. -/
theorem judgeBytes_zeros (k : Nat) (calEn : Bool) : y.judgeBytes (List.replicate k 0) calEn = y := by
  cases k <;> rfl

theorem judgeSent_failed (free : y.port.buffer = .none)
    (failed : judgeFrame n (code :: params) calEn = .failed st) :
    y.judgeSent n (code :: params) calEn = y.answer code st .empty := by
  simp [judgeSent, frameCode, spendFrameCode, free, failed]

theorem judgeSent_taken {c : Instr} (free : y.port.buffer = .none)
    (taken : judgeFrame n (code :: params) calEn = .taken c) : y.judgeSent n (code :: params) calEn =
      { y with port := { y.port with buffer := .pending code, handed := some c } } := by
  simp [judgeSent, frameCode, spendFrameCode, free, taken]

theorem judgeSent_dropped (busy : y.port.buffer ≠ .none) :
    y.judgeSent n (code :: params) calEn = y.portBusy code := by
  cases held : y.port.buffer with
  | none => exact absurd held busy
  | pending _ | answer _ _ _ => simp [judgeSent, frameCode, spendFrameCode, held]

/-- R192, log 10: byte 2 never came, so that the answer carries a free value. -/
theorem judgeSent_cut (free : y.port.buffer = .none) (opens : n ≠ 0) : y.judgeSent n [] calEn =
    { y with free := y.free + 1 }.answer (Config.frameCode y.free) .badFrame .empty := by
  have few : ¬ Framed n [] := fun ⟨_, _, enough, _⟩ => opens (BitVec.eq_of_toNat_eq (Nat.le_zero.mp enough))
  simp [judgeSent, frameCode, spendFrameCode, free, judgeFrame_unframed few]

end State

/-! ### A request frame, and a frame that fails (R192) -/

/-- R190 to R192: what the transaction of a well-formed request frame leaves, by whether it has read the whole answer
and whether the port is free. -/
theorem exec_requestFrame {c : Instr} (wf : c.wf = true) (request : requestCode c ≠ 0)
    (sampled : ∀ word value level, c = .settingWrite word value level → level = calEn) (up : s.rstLow = false)
    (open_ : s.port.sending = some x) (more : List Byte) :
    let sent := requestFrame c ++ more
    let whole := x.wasAnswer = true ∧ x.frame.length ≤ sent.length
    let code := BitVec.ofNat 8 (requestCode c)
    (¬ whole → s.port.buffer = .none → exec (.transactionEnd sent calEn) s = .next { s with
      calEn := calEn
      port := { s.port with buffer := .pending code, handed := some c, sending := none } }) ∧
    (whole → exec (.transactionEnd sent calEn) s = .next { s with
      calEn := calEn
      port := { s.port with
        buffer := .pending code, busy := false, busyCode := 0, handed := some c, sending := none } }) ∧
    (¬ whole → s.port.buffer ≠ .none → exec (.transactionEnd sent calEn) s = .next { s with
      calEn := calEn, port := { s.port with busy := true, busyCode := code, sending := none } }) := by
  obtain ⟨n, params, opens, frame, taken⟩ := judgeFrame_requestFrame wf request sampled more
  intro sent whole code
  have ends : exec (.transactionEnd sent calEn) s =
      .next ((s.reading x sent calEn).judgeSent n (code :: params) calEn) := by
    rw [exec_transactionEnd up open_]
    conv_lhs => rw [show sent = n :: code :: params from frame, State.judgeBytes_opened opens]
    rw [← frame]
  refine ⟨fun part free => ?_, fun read => ?_, fun part busy => ?_⟩
  · rw [ends, State.reading_part part]
    exact congrArg Host.Outcome.next (State.judgeSent_taken free taken)
  · rw [ends, State.reading_whole read]
    exact congrArg Host.Outcome.next (State.judgeSent_taken rfl taken)
  · rw [ends, State.reading_part part]
    exact congrArg Host.Outcome.next (State.judgeSent_dropped busy)

/-- R190: the port as a transaction's read leaves it, for a frame to be judged. -/
def portRead (s : State) (x : Sending) (sent : List Byte) : Port :=
  if x.wasAnswer = true ∧ x.frame.length ≤ sent.length
    then { s.port with buffer := .none, busy := false, busyCode := 0 } else s.port

/-- R192: the answer at once to a frame that failed. -/
def frameFailed (s : State) (x : Sending) (sent : List Byte) (calEn : Bool) (code : Byte) (st : Status) : State :=
  { s with
    calEn := calEn
    port := { portRead s x sent with buffer := .answer code st .empty, handed := none, sending := none } }

theorem reading_buffer (s : State) (x : Sending) (sent : List Byte) (calEn : Bool) :
    (s.reading x sent calEn).port.buffer = (portRead s x sent).buffer := by
  by_cases whole : x.wasAnswer = true ∧ x.frame.length ≤ sent.length
  · rw [State.reading_whole whole, portRead, if_pos whole]
  · rw [State.reading_part whole, portRead, if_neg whole]

theorem reading_answer (s : State) (x : Sending) (sent : List Byte) (calEn : Bool) (code : Byte) (st : Status) :
    (s.reading x sent calEn).answer code st .empty = frameFailed s x sent calEn code st := by
  by_cases whole : x.wasAnswer = true ∧ x.frame.length ≤ sent.length
  · rw [State.reading_whole whole, frameFailed, portRead, if_pos whole]
    rfl
  · rw [State.reading_part whole, frameFailed, portRead, if_neg whole]
    rfl

theorem exec_failedFrame (up : s.rstLow = false) (open_ : s.port.sending = some x) (opens : n ≠ 0)
    (free : (portRead s x (n :: code :: params)).buffer = .none)
    (failed : judgeFrame n (code :: params) calEn = .failed st) :
    exec (.transactionEnd (n :: code :: params) calEn) s =
      .next (frameFailed s x (n :: code :: params) calEn code st) := by
  rw [exec_transactionEnd up open_, State.judgeBytes_opened opens,
    State.judgeSent_failed ((reading_buffer _ x _ _).trans free) failed, reading_answer]

theorem exec_cutFrame (up : s.rstLow = false) (open_ : s.port.sending = some x) (opens : n ≠ 0)
    (free : (portRead s x [n]).buffer = .none) : exec (.transactionEnd [n] calEn) s =
      .next { frameFailed s x [n] calEn (Config.frameCode s.free) .badFrame with free := s.free + 1 } := by
  rw [exec_transactionEnd up open_, State.judgeBytes_opened opens,
    State.judgeSent_cut ((reading_buffer _ x _ _).trans free) opens, State.reading_free, ← reading_answer]
  rfl

/-! ### The response frame (R190, R191) -/

/-- R191: a response frame byte by byte; its bytes sum to 0. -/
theorem responseFrame_spelt (condition : Nat) (code : Byte) (st : Status) (busy : Bool) (busyCode : Byte)
    (data : List Byte) : ∃ check : Byte,
      let body := BitVec.ofNat 8 condition :: code :: BitVec.ofNat 8 st.code :: (if busy then 3 else 0) ::
        busyCode :: data
      let length := body.length + 1
      let frame := BitVec.ofNat 8 length :: BitVec.ofNat 8 (length / 256) :: body ++ [check]
      responseFrame condition code st busy busyCode data = frame ∧ frame.sum = 0 := by
  refine ⟨_, ?_, sum_append_check _⟩
  cases busy <;> rfl

theorem statusCode_of {k : Nat} {st : Status} (h :
    [Status.ok, .accepted, .notReady, .portBusy, .badFrame, .unknownRequest, .badParameter, .notFound, .exists,
      .inUse, .tableFull, .wrongState, .laneBusy, .tooSoon, .clockUnset, .banned, .inYard, .noBooking,
      .permitInactive, .noBalance, .occupancyLimit, .categoryRefused, .needsReweigh, .listFull, .zeroRange,
      .certifiedLock, .storeBusy, .loopState][k]? = some st) : st.code = k := by
  have : k < 28 := (List.getElem?_eq_some_iff.mp h).1
  interval_cases k <;> cases h <;> rfl

/-! ### A read answer (R190) -/

theorem exec_transactionStart (up : s.rstLow = false) (idle : s.port.sending = none) {data : Answer}
    (ready : s.port.buffer = .answer code st data) : exec .transactionStart s =
      .next { s with port := { s.port with sending := some ⟨true, s.port.response⟩ } } := by
  have answer : s.answerReady = true := by rw [State.answerReady, ready]
  show execTransactionStart s = _
  rw [execTransactionStart, when_holds _ up (by rw [idle]; rfl), State.beginTransaction, answer]

/-- R190, log 6: bytes of 0, as many as the answer has, read it. -/
theorem exec_readAnswer (up : s.rstLow = false) (open_ : s.port.sending = some x) (answer : x.wasAnswer = true)
    {k : Nat} (enough : x.frame.length ≤ k) (calEn : Bool) :
    exec (.transactionEnd (List.replicate k 0) calEn) s = .next { s with
      calEn := calEn
      port := { s.port with buffer := .none, busy := false, busyCode := 0, handed := none, sending := none } } := by
  have whole : x.wasAnswer = true ∧ x.frame.length ≤ (List.replicate k (0 : Byte)).length :=
    ⟨answer, by rw [List.length_replicate]; exact enough⟩
  rw [exec_transactionEnd up open_, State.judgeBytes_zeros, State.reading_whole whole]

/-- Settles O5: the codec of the parameters, the frame judged, the port's three cases, the response frame by its
condition, and the read. -/
theorem framesCarryRequestsAndAnswers : Obligations.FramesCarryRequestsAndAnswers := by
  unfold Obligations.FramesCarryRequestsAndAnswers
  refine ⟨fun c calEn wf request sampled => ⟨parseRequest_requestParams wf request sampled,
      fun s x more up open_ => exec_requestFrame wf request sampled up open_ more⟩,
    fun s x n rest calEn up open_ opens => ?_, fun p => ⟨fun none => ?_, fun code pending => ?_,
      fun code st data k answer status => ?_⟩,
    fun s code st data k calEn up idle ready enough => ⟨exec_transactionStart up idle ready,
      exec_readAnswer (by exact up) rfl rfl enough calEn⟩⟩
  · intro read failed framed listed free
    refine ⟨fun cut => ?_, fun code params bytes => ?_⟩
    · subst cut
      exact ⟨_, exec_cutFrame up open_ opens free⟩
    · subst bytes
      refine ⟨fun unframed => ?_, fun sound unlisted => ?_, fun sound isListed none => ?_⟩
      · exact exec_failedFrame up open_ opens free (judgeFrame_unframed unframed calEn)
      · exact exec_failedFrame up open_ opens free ((judgeFrame_framed sound opens calEn).trans (if_pos unlisted))
      · refine exec_failedFrame up open_ opens free ?_
        rw [judgeFrame_framed sound opens calEn, parseRequest_eq_none none]
        exact if_neg (not_not.mpr isListed)
  · rw [Port.response, none]
    exact responseFrame_spelt 0 0 .notReady p.busy p.busyCode []
  · rw [Port.response, pending]
    exact responseFrame_spelt 1 code .notReady p.busy p.busyCode []
  · rw [Port.response, answer, ← statusCode_of status]
    exact responseFrame_spelt 2 code st p.busy p.busyCode data.put

end Sys2Proof.Machine
end
